-- ==== Sys2Proof/Word.lean ====
section
/-! DEFINITION. The word types of the 4806 and the tables its blocks are made of. -/

namespace Sys2Proof

/-- One byte of a frame. -/
abbrev Byte := BitVec 8

/-- A 48-bit address. The first byte on the line is the most significant one. -/
abbrev Addr := BitVec 48

/-- A 16-bit wrapping reading of the refill tick counter, the millisecond stamp or the seconds counter
(00, Conventions: differences are taken modulo 65,536). -/
abbrev Stamp := BitVec 16

/-- A table of `n` like things. -/
abbrev Tab (α : Type) (n : Nat) := Vector α n

variable {α : Type} {n : Nat}

/-- The element of a table at an index. -/
def Tab.get (t : Tab α n) (i : Fin n) : α := t[i]

/-- A table with one element replaced. -/
def Tab.set (t : Tab α n) (i : Fin n) (x : α) : Tab α n := Vector.set t i.val x i.isLt

/-- A table with one element changed by `f`. -/
def Tab.modify (t : Tab α n) (i : Fin n) (f : α → α) : Tab α n := Tab.set t i (f (Tab.get t i))

/-- A table with every element changed by `f`. -/
def Tab.mapAll (t : Tab α n) (f : α → α) : Tab α n := ⟨⟨t.toList.map f⟩, by simp⟩

/-- A table with one value everywhere. -/
def Tab.fill (n : Nat) (x : α) : Tab α n := Vector.replicate n x

/-- Elapsed time from reading `b` to the later reading `a`, modulo 65,536. -/
def Stamp.since (a b : Stamp) : Nat := (a - b).toNat

end Sys2Proof
end

