-- ==== Sys2Proof/Config.lean ====
section
/-! DEFINITION. What the manual fixes for every 4806: the sizes of its tables, the default and extreme values of its settings. -/

namespace Sys2Proof.Config

/-- Longest accepted frame, in bytes (01 R3). -/
def maxFrame : Nat := 1522
/-- Shortest accepted frame, in bytes (01 R4). -/
def minFrame : Nat := 64
/-- Bytes in one cell of frame memory (06 R99). -/
def cellBytes : Nat := 128
/-- Cells that the longest accepted frame holds (01 R3). -/
def maxCells : Nat := 12
/-- Cells of frame memory (06 R99). -/
def cellCount : Nat := 2048
/-- Completed frames a port unit keeps (01 R6). -/
def intakePlaces : Nat := 2
/-- Records the report queue holds (02 R41). -/
def reportQueueSize : Nat := 48
/-- Frames the management input queue holds (10 R156). -/
def inputQueueSize : Nat := 2
/-- The largest value of a counter (08 R140). -/
def counterMax : Nat := 4294967295
/-- The largest allowance, in units of 64 bytes (04 R70). -/
def allowanceMax : Nat := 16777215
/-- The largest limit of a queue, in cells (06 R109). -/
def queueLimitMax : Nat := 2048
/-- The room of a response, in bytes (10 R164). -/
def responseRoom : Nat := 1480
/-- Largest number of records one TAKE_REPORTS asks for (02 R42). -/
def takeReportsMax : Nat := 16
/-- The guard count at which a radio port sends a normal frame (07 R123). -/
def guardMax : Nat := 16

/-- The type code of management frames (01 R9). -/
def mgmtType : Nat := 0x9A47
/-- The type code that marks a VLAN tag (01 R9). -/
def tagType : Nat := 0x8100
/-- The carriage-switch group address (01 R9). -/
def mgmtGroup : Addr := 0x0F004C570001

/-- The divisors a refill period may have, in microseconds (04 R60). -/
def divisors : List Nat := [2, 5, 8, 25, 40, 125, 250, 500]

/-- Defaults (04 R58, 02 R37, 05 R80, 11 R170, 06 R100, 06 R104, 07 R127, 03 R49). -/
def defaultDivisor : Nat := 125
/-- 02 R37. -/
def defaultLearnedLimit : Nat := 60
/-- 02 R37. -/
def defaultAdmittedLimit : Nat := 900
/-- 05 R80. -/
def defaultHoldOff : Nat := 200
/-- 05 R80. -/
def defaultFlapLimit : Nat := 8
/-- 05 R80. -/
def defaultRehomeLimit : Nat := 50
/-- 11 R170. -/
def defaultSpacing : Nat := 10
/-- 06 R100. -/
def defaultReserve : Nat := 64
/-- 06 R104. -/
def seatQueueLimit : Nat := 64
/-- 06 R104. -/
def priorityQueueLimit : Nat := 64
/-- 06 R104. -/
def normalQueueLimit : Nat := 256
/-- 06 R104. -/
def throughQueueLimit : Nat := 512
/-- 06 R104. -/
def classQueueLimit : Nat := 128
/-- The smallest burst of a profile, and the burst of every profile at reset (03 R49, R53). -/
def burstMin : Nat := 1522
/-- The largest burst of a profile (03 R53). -/
def burstMax : Nat := 65535
/-- The largest rate of a profile (03 R53). -/
def rateMax : Nat := 4095

/-- DESIGN CHOICE (log 4): the device identifier that State.reset names for the factory value of 09 R149, which the
manual does not give. -/
def resetDeviceId : Addr := 0
/-- DESIGN CHOICE (log 3): the strap code State.reset holds until RESET_PIN_RELEASE reads the straps. -/
def resetStrapCode : BitVec 6 := 0
/-- DESIGN CHOICE (log 6): what a byte of frame memory that nothing has written reads as. -/
def unwrittenByte : Byte := 0

end Sys2Proof.Config
end

