-- ==== Sys2Proof/Syntax.lean ====
section
/-! DEFINITION. The commands of the 4806, one constructor for each row of spec/opcode_table.json, and the types their
operands and the parameters of management items are made of. -/

namespace Sys2Proof

/-- A port number (00, Port map): 0 is BF, 1 is BA, 2 to 9 are CR1 to CR8, 10 to 57 are SP1 to SP48. -/
abbrev Port := Fin 58

/-- A backbone side: fore is port BF, aft is port BA. Also the set gateway side (09 R150). -/
inductive Side where
  | fore | aft
  deriving DecidableEq, Repr

/-- The index of a station entry (02 2.1). -/
abbrev StationIx := Fin 512

/-- The kinds of queue a request can name (06 R110). -/
inductive QueueKind where
  | through | class0 | class1 | class2 | class3 | priority | normal | seat
  deriving DecidableEq, Repr

/-- The classifications a zone match entry takes part in (03 R43). -/
inductive Direction where
  | up | down | both
  deriving DecidableEq, Repr

/-- The nine notice sources (11 R168). -/
inductive Source where
  | reports | reportBacklog | learnFail | memoryLow | linkChange | backboneLoss | mgmtOverrun | queueDrop | strapFault
  deriving DecidableEq, Repr

/-- The notice modes (11 R169). -/
inductive NoticeMode where
  | explicit | auto
  deriving DecidableEq, Repr

/-- One grant of a profile (03 R49). -/
structure Grant where
  upPermit : Bool
  downPermit : Bool
  policed : Bool
  counted : Bool
  cls : Fin 4
  deriving DecidableEq, Repr

/-- The rates part of a profile (03 R49). Rates are bytes per refill tick, bursts are bytes. -/
structure Rates where
  upRate : Nat
  upBurst : Nat
  downRate : Nat
  downBurst : Nat
  deriving DecidableEq, Repr

/-- The fields of a valid zone match entry (03 R43). -/
structure ZoneFields where
  value : Addr
  mask : Addr
  etype : Option (BitVec 16)
  vlan : Option (BitVec 12)
  dir : Direction
  zone : Fin 14
  deriving DecidableEq, Repr

/-- A station reference (02 R29). -/
inductive StationRef where
  | indexed (i : StationIx) (a : Addr)
  | byAddr (a : Addr)
  deriving DecidableEq, Repr

/-- The seven optional fields of SET_TIMING (10 R162), as written, before any is brought into range. -/
structure TimingFields where
  divisor : Option Nat
  holdOff : Option Nat
  rehomeLimit : Option Nat
  learnedLimit : Option Nat
  admittedLimit : Option Nat
  flapLimit : Option Nat
  spacing : Option Nat
  deriving DecidableEq, Repr

/-- The parameters of WRITE_PROFILE (03 R52); an absent grants part is the empty list. -/
structure ProfileWrite where
  profile : Fin 32
  rates : Option Rates
  grants : List (Fin 16 × Grant)
  deriving DecidableEq, Repr

/-- The parameters of SET_PORT (08 R137); an absent list of queue limits is the empty list. -/
structure PortWrite where
  port : Port
  enable : Option Bool
  hold : Option Bool
  flood : Option Bool
  seatLimit : Option Nat
  limits : List (QueueKind × Nat)
  deriving DecidableEq, Repr

/-- The parameters of SET_QUEUE (06 R110). -/
structure QueueWrite where
  queue : Option (Port × QueueKind)
  limit : Option Nat
  quantum : Option Nat
  reserve : Option Nat
  deriving DecidableEq, Repr

/-- The group of counters that READ_COUNTERS names (08 R143). -/
inductive CounterGroup where
  | port (p : Port)
  | queue (p : Port) (k : QueueKind)
  | station (r : StationRef)
  | global
  deriving DecidableEq, Repr

/-- The parameters of SET_NOTICES (11 R169); an absent enables part is the empty list. -/
structure NoticeWrite where
  dest : Option Addr
  mode : Option NoticeMode
  enables : List (Source × Bool)
  deriving DecidableEq, Repr

/-- One item of a request frame as it stands in the frame: its code and its parameter bytes (12 R173). -/
structure RawItem where
  code : Byte
  params : List Byte
  deriving DecidableEq, Repr

/-- The commands of the 4806. The item commands (UNKNOWN_ITEM_CODE, and IDENTIFY to RETIRE_NOTICES but for
RESTART_EVENT) run the current item of the frame in execution; their parameters are that item's bytes (10 R158, log 12). -/
inductive Instr where
  /-- RESET_PIN_ASSERT (09 R145). -/
  | resetPinAssert
  /-- RESET_PIN_RELEASE (09 R147), with the six strap lines as they stand; line PSTRn is bit n. -/
  | resetPinRelease (straps : BitVec 6)
  /-- CARRIAGE_LINK_UP (08 R134). -/
  | carriageLinkUp (p : Port)
  /-- CARRIAGE_LINK_DOWN (08 R135). -/
  | carriageLinkDown (p : Port)
  /-- BACKBONE_LINK_UP (08 R136). -/
  | backboneLinkUp (b : Side)
  /-- BACKBONE_LINK_DOWN (08 R136). -/
  | backboneLinkDown (b : Side)
  /-- FRAME_START (01 R1). -/
  | frameStart (p : Port)
  /-- CELL_REQUEST (01 R2): a byte arrives that does not fit in the cells the frame holds. -/
  | cellRequest (p : Port)
  /-- FRAME_TOO_LONG (01 R3): the 1,523rd byte arrives. -/
  | frameTooLong (p : Port)
  /-- FRAME_END (01 R4): the frame ends. `bytes` is the whole frame, destination address to check sequence; `good` says
  whether its check sequence is right (log 7). -/
  | frameEnd (p : Port) (bytes : List Byte) (good : Bool)
  /-- TAKE_FRAME (01 R8). -/
  | takeFrame
  /-- TRANSMIT_CHOICE (07 R118). -/
  | transmitChoice (p : Port)
  /-- TRANSMIT_COMPLETE (07 R120). -/
  | transmitComplete (p : Port)
  /-- REFILL_TICK (04 R59). -/
  | refillTick
  /-- SLOW_TICK (04 R61). -/
  | slowTick
  /-- SECONDS_ADVANCE (04 R61). -/
  | secondsAdvance
  /-- LEARNED_EXPIRY (02 R38). -/
  | learnedExpiry (i : StationIx)
  /-- ADMITTED_EXPIRY (02 R39). -/
  | admittedExpiry (i : StationIx)
  /-- HOLD_OFF_END (05 R87). -/
  | holdOffEnd (i : StationIx)
  /-- SPACING_END (11 R170). -/
  | spacingEnd
  /-- PURGE_WALK_VISIT (06 R111). -/
  | purgeWalkVisit
  /-- PURGE_WALK_END (02 R31, R33). -/
  | purgeWalkEnd
  /-- FLUSH_WALK_VISIT (06 R113). -/
  | flushWalkVisit (p : Port)
  /-- FLUSH_WALK_END (06 R116). -/
  | flushWalkEnd (p : Port)
  /-- CLASS_FLUSH_VISIT (06 R114). -/
  | classFlushVisit (b : Side)
  /-- CLASS_FLUSH_END (06 R114). -/
  | classFlushEnd (b : Side)
  /-- MGMT_FRAME_BEGIN (10 R157). -/
  | mgmtFrameBegin
  /-- UNKNOWN_ITEM_CODE (10 R158). -/
  | unknownItemCode
  /-- IDENTIFY (10 R165). -/
  | identify
  /-- READ_STATUS (10 R165). -/
  | readStatus
  /-- START (09 R152). -/
  | start
  /-- STAND_DOWN (09 R153). -/
  | standDown
  /-- RESTART (09 R154). -/
  | restart
  /-- RESTART_EVENT (09 R154). -/
  | restartEvent
  /-- SET_LINE (09 R150). -/
  | setLine
  /-- SET_TIMING (10 R162). -/
  | setTiming
  /-- WRITE_ZONE_MATCH (03 R47). -/
  | writeZoneMatch
  /-- READ_ZONE_MATCH (03 R48). -/
  | readZoneMatch
  /-- WRITE_PROFILE (03 R52). -/
  | writeProfile
  /-- READ_PROFILE (03 R56). -/
  | readProfile
  /-- ADMIT (02 R29). -/
  | admitStation
  /-- BAR (02 R31). -/
  | barStation
  /-- RELEASE (02 R32). -/
  | releaseStation
  /-- SET_ALLOWANCE with a value (04 R74). -/
  | setAllowance
  /-- SET_ALLOWANCE without a value (04 R75). -/
  | setAllowanceUnmetered
  /-- TOP_UP (04 R76). -/
  | topUp
  /-- UNPIN (05 R89). -/
  | unpin
  /-- READ_STATION (02 R34). -/
  | readStation
  /-- FIND_STATION (02 R34). -/
  | findStation
  /-- TAKE_REPORTS (02 R42). -/
  | takeReports
  /-- SET_PORT (08 R137). -/
  | setPort
  /-- RESET_PORT (08 R139). -/
  | resetPort
  /-- SET_QUEUE (06 R110). -/
  | setQueue
  /-- READ_COUNTERS (08 R143). -/
  | readCounters
  /-- SET_NOTICES (11 R169). -/
  | setNotices
  /-- RETIRE_NOTICES (11 R172). -/
  | retireNotices
  /-- RESPONSE_PLACE (10 R166). -/
  | responsePlace
  /-- NOTICE_SEND (11 R171). -/
  | noticeSend
  deriving DecidableEq, Repr

end Sys2Proof
end

