-- ==== Sys2Proof/WellFormed.lean ====
section
/-! DEFINITION. Which commands the block can be sent. -/

namespace Sys2Proof

/-- A command is well formed when its operands name something the block has: a carriage link event names a carriage port
(ports 2 to 57; 00, Port map), and a frame that ends has at least the byte that FRAME_START brought (01 R1). Every other
operand is in range by its type. -/
def Instr.wellFormed : Instr → Bool
  | .carriageLinkUp p => decide (2 ≤ p.val)
  | .carriageLinkDown p => decide (2 ≤ p.val)
  | .frameEnd _ bytes _ => !bytes.isEmpty
  | .resetPinAssert | .resetPinRelease _ | .backboneLinkUp _ | .backboneLinkDown _ => true
  | .frameStart _ | .cellRequest _ | .frameTooLong _ | .takeFrame => true
  | .transmitChoice _ | .transmitComplete _ | .refillTick | .slowTick | .secondsAdvance => true
  | .learnedExpiry _ | .admittedExpiry _ | .holdOffEnd _ | .spacingEnd => true
  | .purgeWalkVisit | .purgeWalkEnd | .flushWalkVisit _ | .flushWalkEnd _ => true
  | .classFlushVisit _ | .classFlushEnd _ | .mgmtFrameBegin | .unknownItemCode => true
  | .identify | .readStatus | .start | .standDown | .restart | .restartEvent => true
  | .setLine | .setTiming | .writeZoneMatch | .readZoneMatch | .writeProfile | .readProfile => true
  | .admitStation | .barStation | .releaseStation | .setAllowance | .setAllowanceUnmetered => true
  | .topUp | .unpin | .readStation | .findStation | .takeReports => true
  | .setPort | .resetPort | .setQueue | .readCounters | .setNotices | .retireNotices => true
  | .responsePlace | .noticeSend => true

end Sys2Proof
end

