-- ==== Sys2Proof/Decode.lean ====
section
/-! DEFINITION. Reading and writing what stands in bytes: the byte order of the management fields, the items of a request
frame and the parameters of every request kind (12 R173). No row of spec/opcode_table.json gives bits, so
`decodeTableWord` reads no word. -/

namespace Sys2Proof

/-- The command that a word spells by the table's bits. Every row's "fields" is empty: no word spells one. -/
def decodeTableWord (_nbits _w : Nat) : Option Instr := none

/-! ## Byte order -/

/-- The number that bytes spell, most significant byte first (12 R173). -/
def beNat (bs : List Byte) : Nat := bs.foldl (fun n b => n * 256 + b.toNat) 0

/-- The low `8 k` bits of a number as `k` bytes, most significant byte first (12 R173). -/
def beBytes : Nat → Nat → List Byte
  | 0, _ => []
  | k + 1, n => beBytes k (n / 256) ++ [BitVec.ofNat 8 n]

/-- The six bytes of an address in their order on the line (12 R173). -/
def addrBytes (a : Addr) : List Byte := beBytes 6 a.toNat

/-- The address that six bytes spell. -/
def addrOf (bs : List Byte) : Addr := BitVec.ofNat 48 (beNat bs)

/-- A group address has the lowest bit of its first byte set (01 R4). -/
def isGroup (a : Addr) : Bool := a.getLsbD 40

/-! ## Reading the items of a request -/

/-- Read a field of `k` bytes from the front. -/
def takeField (k : Nat) (bs : List Byte) : Option (Nat × List Byte) :=
  if bs.length < k then none else some (beNat (bs.take k), bs.drop k)

/-- Read a field of `k` bytes when its presence bit is set. -/
def takeIf (present : Bool) (k : Nat) (bs : List Byte) : Option (Option Nat × List Byte) :=
  if present then (takeField k bs).map (fun x => (some x.1, x.2)) else some (none, bs)

/-- Read `n` things one after another. -/
def takeMany {α : Type} (f : List Byte → Option (α × List Byte)) : Nat → List Byte → Option (List α × List Byte)
  | 0, bs => some ([], bs)
  | n + 1, bs => do
    let (x, bs) ← f bs
    let (xs, bs) ← takeMany f n bs
    pure (x :: xs, bs)

/-- Nothing may follow the parts that the presence marks name: the length must be one the kind allows (12 R173). -/
def atEnd {α : Type} (x : α × List Byte) : Option α := if x.2 = [] then some x.1 else none

/-- One request item: a code byte, a length byte, and that many parameter bytes (12 R173). -/
def takeItem (bs : List Byte) : Option (RawItem × List Byte) := do
  let (code, bs) ← takeField 1 bs
  let (len, bs) ← takeField 1 bs
  if bs.length < len then none
  else pure ({ code := BitVec.ofNat 8 code, params := bs.take len }, bs.drop len)

/-- The items of a request: `n` of them from the bytes after the body header; none when one lies beyond the end of the
frame (10 R157). Bytes after the last item are ignored. -/
def splitItems (n : Nat) (bs : List Byte) : Option (List RawItem) := (takeMany takeItem n bs).map (·.1)

/-! ## Enumerated values (12 R173) -/

/-- Gateway side: 1 FORE, 2 AFT. -/
def sideOf : Nat → Option Side
  | 1 => some .fore
  | 2 => some .aft
  | _ => none

/-- The code of a gateway side; 0 for NONE, in READ_STATUS data only. -/
def sideCode : Option Side → Nat
  | none => 0
  | some .fore => 1
  | some .aft => 2

/-- Direction: 1 UP, 2 DOWN, 3 BOTH. -/
def directionOf : Nat → Option Direction
  | 1 => some .up
  | 2 => some .down
  | 3 => some .both
  | _ => none

/-- The code of a direction. -/
def directionCode : Direction → Nat
  | .up => 1
  | .down => 2
  | .both => 3

/-- Queue kind: 0 THROUGH to 7 SEAT. -/
def queueKindOf : Nat → Option QueueKind
  | 0 => some .through
  | 1 => some .class0
  | 2 => some .class1
  | 3 => some .class2
  | 4 => some .class3
  | 5 => some .priority
  | 6 => some .normal
  | 7 => some .seat
  | _ => none

/-- The code of a queue kind. -/
def queueKindCode : QueueKind → Nat
  | .through => 0
  | .class0 => 1
  | .class1 => 2
  | .class2 => 3
  | .class3 => 4
  | .priority => 5
  | .normal => 6
  | .seat => 7

/-- Notice mode: 1 EXPLICIT, 2 AUTO. -/
def modeOf : Nat → Option NoticeMode
  | 1 => some .explicit
  | 2 => some .auto
  | _ => none

/-- The code of a notice mode. -/
def modeCode : NoticeMode → Nat
  | .explicit => 1
  | .auto => 2

/-- Notice source: its bit number in the notice frame (12 R175). -/
def sourceOf : Nat → Option Source
  | 0 => some .reports
  | 1 => some .reportBacklog
  | 2 => some .learnFail
  | 3 => some .memoryLow
  | 4 => some .linkChange
  | 5 => some .backboneLoss
  | 6 => some .mgmtOverrun
  | 7 => some .queueDrop
  | 8 => some .strapFault
  | _ => none

/-- The bit number of a notice source (12 R175). -/
def sourceIx : Source → Fin 9
  | .reports => 0
  | .reportBacklog => 1
  | .learnFail => 2
  | .memoryLow => 3
  | .linkChange => 4
  | .backboneLoss => 5
  | .mgmtOverrun => 6
  | .queueDrop => 7
  | .strapFault => 8

/-- An on or off setting: 0 off, 1 on. -/
def onOff : Nat → Option Bool
  | 0 => some false
  | 1 => some true
  | _ => none

/-- The code of an on or off setting. -/
def onOffCode (b : Bool) : Nat := if b then 1 else 0

/-- A number as an index below `n`, none when it is not below. -/
def ixOf (n v : Nat) : Option (Fin n) := if h : v < n then some ⟨v, h⟩ else none

/-- An optional setting: absent stays absent, present must be a value of the enumeration. -/
def optionally {α : Type} (f : Nat → Option α) : Option Nat → Option (Option α)
  | none => some none
  | some v => (f v).map some

/-- The queue kinds that exist at a port (06 R110): THROUGH and CLASS0 to CLASS3 at ports 0 and 1, PRIORITY and NORMAL
at ports 2 to 9, SEAT at ports 10 to 57. -/
def queueExists (p : Port) : QueueKind → Bool
  | .through | .class0 | .class1 | .class2 | .class3 => decide (p.val < 2)
  | .priority | .normal => decide (2 ≤ p.val ∧ p.val < 10)
  | .seat => decide (10 ≤ p.val)

/-- The queue kinds that have a quantum (07 R129). -/
def hasQuantum : QueueKind → Bool
  | .through | .class1 | .class2 | .class3 => true
  | .class0 | .priority | .normal | .seat => false

/-! ## The parameters of each request kind

Each parser answers none exactly where R158 finds the parameters malformed or the request refuses a value with BAD_ITEM
(check 1 and check 2 of 10 R160). -/

/-- No parameters: IDENTIFY, READ_STATUS, START, STAND_DOWN, RESTART. -/
def parseNone (bs : List Byte) : Option Unit := if bs = [] then some () else none

/-- A station reference: index 0xFFFF is an address alone, 0 to 511 an index with address, any other index and a group
address are refused (02 R29, 12 R173). -/
def takeRef (bs : List Byte) : Option (StationRef × List Byte) := do
  let (ix, bs) ← takeField 2 bs
  let (a, bs) ← takeField 6 bs
  let addr : Addr := BitVec.ofNat 48 a
  if isGroup addr then none
  else if ix = 0xFFFF then pure (.byAddr addr, bs)
  else (ixOf 512 ix).map (fun i => (.indexed i addr, bs))

/-- BAR, RELEASE, UNPIN, READ_STATION, and SET_ALLOWANCE without a value. -/
def parseRef (bs : List Byte) : Option StationRef := takeRef bs >>= atEnd

/-- ADMIT: station reference, profile, optional allowance; 9 or 13 bytes. -/
def parseAdmit (bs : List Byte) : Option (StationRef × Fin 32 × Option Nat) := do
  let (r, bs) ← takeRef bs
  let (p, bs) ← takeField 1 bs
  let profile ← ixOf 32 p
  let (v, bs) ← takeIf (!bs.isEmpty) 4 bs
  atEnd ((r, profile, v), bs)

/-- SET_ALLOWANCE with a value, and TOP_UP before its amount is looked at: station reference and four bytes. -/
def parseRefValue (bs : List Byte) : Option (StationRef × Nat) := do
  let (r, bs) ← takeRef bs
  let (v, bs) ← takeField 4 bs
  atEnd ((r, v), bs)

/-- TOP_UP: an amount of 0 is refused (04 R76). -/
def parseTopUp (bs : List Byte) : Option (StationRef × Nat) :=
  (parseRefValue bs).filter (fun x => decide (x.2 ≠ 0))

/-- SET_LINE: one gateway side (09 R150). -/
def parseSetLine (bs : List Byte) : Option Side := do
  let (v, bs) ← takeField 1 bs
  let b ← sideOf v
  atEnd (b, bs)

/-- SET_TIMING: at least one field, and a refill divisor of the list (10 R162, 04 R60). -/
def TimingFields.valid (t : TimingFields) : Bool :=
  (t.divisor.isSome || t.holdOff.isSome || t.rehomeLimit.isSome || t.learnedLimit.isSome || t.admittedLimit.isSome
    || t.flapLimit.isSome || t.spacing.isSome)
  && (match t.divisor with
      | none => true
      | some d => decide (d ∈ Config.divisors))

/-- SET_TIMING: a presence byte, then each field whose bit is set, two bytes. -/
def parseTiming (bs : List Byte) : Option TimingFields := do
  let (m, bs) ← takeField 1 bs
  if 128 ≤ m then none
  else
    let (d, bs) ← takeIf (m.testBit 0) 2 bs
    let (h, bs) ← takeIf (m.testBit 1) 2 bs
    let (r, bs) ← takeIf (m.testBit 2) 2 bs
    let (l, bs) ← takeIf (m.testBit 3) 2 bs
    let (a, bs) ← takeIf (m.testBit 4) 2 bs
    let (f, bs) ← takeIf (m.testBit 5) 2 bs
    let (n, bs) ← takeIf (m.testBit 6) 2 bs
    let t ← atEnd (({ divisor := d, holdOff := h, rehomeLimit := r, learnedLimit := l, admittedLimit := a,
                      flapLimit := f, spacing := n } : TimingFields), bs)
    if t.valid then some t else none

/-- WRITE_ZONE_MATCH: index and flags; the entry fields when valid is set (03 R47). -/
def parseZoneWrite (bs : List Byte) : Option (Fin 64 × Option ZoneFields) := do
  let (ix, bs) ← takeField 1 bs
  let i ← ixOf 64 ix
  let (m, bs) ← takeField 1 bs
  if m = 0 then atEnd ((i, none), bs)
  else if 8 ≤ m || !m.testBit 0 then none
  else
    let (v, bs) ← takeField 6 bs
    let (k, bs) ← takeField 6 bs
    let (d, bs) ← takeField 1 bs
    let dir ← directionOf d
    let (z, bs) ← takeField 1 bs
    let zone ← ixOf 14 z
    let (t, bs) ← takeIf (m.testBit 1) 2 bs
    let (n, bs) ← takeIf (m.testBit 2) 2 bs
    let vlan ← optionally (ixOf 4096) n
    atEnd ((i, some { value := BitVec.ofNat 48 v, mask := BitVec.ofNat 48 k, etype := t.map (BitVec.ofNat 16),
                      vlan := vlan.map (fun x => BitVec.ofNat 12 x.val), dir := dir, zone := zone }), bs)

/-- One byte naming an entry, a profile or a port below `n`: READ_ZONE_MATCH, READ_PROFILE, RESET_PORT. -/
def parseIndex (n : Nat) (bs : List Byte) : Option (Fin n) := do
  let (v, bs) ← takeField 1 bs
  let i ← ixOf n v
  atEnd (i, bs)

/-- One grant setting: zone, grant flags, class (03 R52). -/
def takeGrant (bs : List Byte) : Option ((Fin 16 × Grant) × List Byte) := do
  let (z, bs) ← takeField 1 bs
  let zone ← ixOf 16 z
  let (m, bs) ← takeField 1 bs
  let (c, bs) ← takeField 1 bs
  let cls ← ixOf 4 c
  if 16 ≤ m then none
  else pure ((zone, { upPermit := m.testBit 0, downPermit := m.testBit 1, policed := m.testBit 2,
                      counted := m.testBit 3, cls := cls }), bs)

/-- The rates part: up rate 2, up burst 4, down rate 2, down burst 4. -/
def takeRates (bs : List Byte) : Option (Rates × List Byte) := do
  let (ur, bs) ← takeField 2 bs
  let (ub, bs) ← takeField 4 bs
  let (dr, bs) ← takeField 2 bs
  let (db, bs) ← takeField 4 bs
  pure ({ upRate := ur, upBurst := ub, downRate := dr, downBurst := db }, bs)

/-- A counted list of `lo` to `hi` things: a number byte, then that many. -/
def takeCounted {α : Type} (lo hi : Nat) (f : List Byte → Option (α × List Byte)) (bs : List Byte) :
    Option (List α × List Byte) := do
  let (n, bs) ← takeField 1 bs
  if n < lo || hi < n then none else takeMany f n bs

/-- No name stands twice. -/
def noRepeat {α : Type} [DecidableEq α] (l : List α) : Bool := decide l.Nodup

/-- WRITE_PROFILE: at least one part; no zone named twice (03 R52). -/
def ProfileWrite.valid (w : ProfileWrite) : Bool :=
  (w.rates.isSome || !w.grants.isEmpty) && noRepeat (w.grants.map (·.1))

/-- WRITE_PROFILE: profile, presence, rates part, grants part. -/
def parseProfileWrite (bs : List Byte) : Option ProfileWrite := do
  let (n, bs) ← takeField 1 bs
  let profile ← ixOf 32 n
  let (m, bs) ← takeField 1 bs
  if 4 ≤ m then none
  else
    let (rates, bs) ← if m.testBit 0 then (takeRates bs).map (fun x => (some x.1, x.2)) else some (none, bs)
    let (grants, bs) ← if m.testBit 1 then takeCounted 1 16 takeGrant bs else some ([], bs)
    let w ← atEnd (({ profile := profile, rates := rates, grants := grants } : ProfileWrite), bs)
    if w.valid then some w else none

/-- FIND_STATION: an individual address (02 R34). -/
def parseFindStation (bs : List Byte) : Option Addr := do
  let (a, bs) ← takeField 6 bs
  let addr ← atEnd ((BitVec.ofNat 48 a : Addr), bs)
  if isGroup addr then none else some addr

/-- TAKE_REPORTS: a count from 1 to 16 (02 R42). -/
def parseTakeReports (bs : List Byte) : Option Nat := do
  let (n, bs) ← takeField 1 bs
  let n ← atEnd (n, bs)
  if n = 0 || Config.takeReportsMax < n then none else some n

/-- SET_PORT: at least one parameter; enable, hold, flood and seat limit not at a backbone port; a seat limit not at a
radio port; queue limits for queues the port has, none named twice (08 R137, 12 R173). -/
def PortWrite.valid (w : PortWrite) : Bool :=
  (w.enable.isSome || w.hold.isSome || w.flood.isSome || w.seatLimit.isSome || !w.limits.isEmpty)
  && (decide (2 ≤ w.port.val) || (w.enable.isNone && w.hold.isNone && w.flood.isNone && w.seatLimit.isNone))
  && (decide (10 ≤ w.port.val) || w.seatLimit.isNone)
  && w.limits.all (fun x => queueExists w.port x.1)
  && noRepeat (w.limits.map (·.1))

/-- One queue limit of SET_PORT: queue kind 1, limit 2. -/
def takeLimit (bs : List Byte) : Option ((QueueKind × Nat) × List Byte) := do
  let (k, bs) ← takeField 1 bs
  let kind ← queueKindOf k
  let (v, bs) ← takeField 2 bs
  pure ((kind, v), bs)

/-- SET_PORT: port, presence, then each setting whose bit is set, then the queue limits. -/
def parsePortWrite (bs : List Byte) : Option PortWrite := do
  let (n, bs) ← takeField 1 bs
  let port ← ixOf 58 n
  let (m, bs) ← takeField 1 bs
  if 32 ≤ m then none
  else
    let (e, bs) ← takeIf (m.testBit 0) 1 bs
    let enable ← optionally onOff e
    let (h, bs) ← takeIf (m.testBit 1) 1 bs
    let hold ← optionally onOff h
    let (f, bs) ← takeIf (m.testBit 2) 1 bs
    let flood ← optionally onOff f
    let (seat, bs) ← takeIf (m.testBit 3) 1 bs
    let (limits, bs) ← if m.testBit 4 then takeCounted 1 5 takeLimit bs else some ([], bs)
    let w ← atEnd (({ port := port, enable := enable, hold := hold, flood := flood, seatLimit := seat,
                      limits := limits } : PortWrite), bs)
    if w.valid then some w else none

/-- SET_QUEUE: a part is present, the queue part stands exactly when a limit or a quantum does, the queue exists at the port, a
quantum names a queue that has one (06 R110). -/
def QueueWrite.valid (w : QueueWrite) : Bool :=
  (w.limit.isSome || w.quantum.isSome || w.reserve.isSome)
  && (w.queue.isSome == (w.limit.isSome || w.quantum.isSome))
  && (match w.queue with
      | none => true
      | some (p, k) => queueExists p k && (w.quantum.isNone || hasQuantum k))

/-- The queue part of SET_QUEUE and the name of a queue in READ_COUNTERS: port 1, queue kind 1. -/
def takeQueue (bs : List Byte) : Option ((Port × QueueKind) × List Byte) := do
  let (n, bs) ← takeField 1 bs
  let port ← ixOf 58 n
  let (k, bs) ← takeField 1 bs
  let kind ← queueKindOf k
  pure ((port, kind), bs)

/-- SET_QUEUE: presence, the queue part when a limit or a quantum is present, then limit, quantum and reserve. -/
def parseQueueWrite (bs : List Byte) : Option QueueWrite := do
  let (m, bs) ← takeField 1 bs
  if 8 ≤ m then none
  else
    let (q, bs) ← if m.testBit 0 || m.testBit 1 then (takeQueue bs).map (fun x => (some x.1, x.2)) else some (none, bs)
    let (l, bs) ← takeIf (m.testBit 0) 2 bs
    let (n, bs) ← takeIf (m.testBit 1) 2 bs
    let (r, bs) ← takeIf (m.testBit 2) 2 bs
    let w ← atEnd (({ queue := q, limit := l, quantum := n, reserve := r } : QueueWrite), bs)
    if w.valid then some w else none

/-- The name of a counter group: a port, an existing queue, a station reference, or nothing (08 R143). -/
def parseGroup (g : Nat) (bs : List Byte) : Option CounterGroup :=
  match g with
  | 1 => (parseIndex 58 bs).map .port
  | 2 => (takeQueue bs >>= atEnd).bind (fun x => if queueExists x.1 x.2 then some (.queue x.1 x.2) else none)
  | 3 => (parseRef bs).map .station
  | 4 => (parseNone bs).map (fun _ => .global)
  | _ => none

/-- READ_COUNTERS: group, clear flag, the group's name. -/
def parseCounters (bs : List Byte) : Option (CounterGroup × Bool) := do
  let (g, bs) ← takeField 1 bs
  let (c, bs) ← takeField 1 bs
  let clear ← onOff c
  let group ← parseGroup g bs
  pure (group, clear)

/-- SET_NOTICES: a part is present, the destination is an individual address, no source is named twice (11 R169). -/
def NoticeWrite.valid (w : NoticeWrite) : Bool :=
  (w.dest.isSome || w.mode.isSome || !w.enables.isEmpty)
  && (match w.dest with
      | none => true
      | some a => !isGroup a)
  && noRepeat (w.enables.map (·.1))

/-- One enable setting: source 1, setting 1. -/
def takeEnable (bs : List Byte) : Option ((Source × Bool) × List Byte) := do
  let (n, bs) ← takeField 1 bs
  let src ← sourceOf n
  let (v, bs) ← takeField 1 bs
  let on ← onOff v
  pure ((src, on), bs)

/-- SET_NOTICES: presence, destination, mode, enables. -/
def parseNoticeWrite (bs : List Byte) : Option NoticeWrite := do
  let (m, bs) ← takeField 1 bs
  if 8 ≤ m then none
  else
    let (d, bs) ← takeIf (m.testBit 0) 6 bs
    let (o, bs) ← takeIf (m.testBit 1) 1 bs
    let mode ← optionally modeOf o
    let (enables, bs) ← if m.testBit 2 then takeCounted 1 9 takeEnable bs else some ([], bs)
    let w ← atEnd (({ dest := d.map (BitVec.ofNat 48), mode := mode, enables := enables } : NoticeWrite), bs)
    if w.valid then some w else none

/-- One notice source. -/
def takeSource (bs : List Byte) : Option (Source × List Byte) := do
  let (n, bs) ← takeField 1 bs
  let src ← sourceOf n
  pure (src, bs)

/-- RETIRE_NOTICES: 1 to 9 sources, none twice (11 R172). -/
def parseRetire (bs : List Byte) : Option (List Source) := do
  let l ← takeCounted 1 9 takeSource bs >>= atEnd
  if noRepeat l then some l else none

/-! ## Writing the parameters (the encoder, from the same tables) -/

/-- The bits of a presence byte, bit 0 first. -/
def presence : List Bool → Nat
  | [] => 0
  | b :: bs => onOffCode b + 2 * presence bs

/-- A part that is written only when present. -/
def ifPresent (k : Nat) : Option Nat → List Byte
  | none => []
  | some v => beBytes k v

/-- A station reference in bytes. -/
def encodeRef : StationRef → List Byte
  | .indexed i a => beBytes 2 i.val ++ addrBytes a
  | .byAddr a => beBytes 2 0xFFFF ++ addrBytes a

/-- ADMIT. -/
def encodeAdmit (r : StationRef) (p : Fin 32) (v : Option Nat) : List Byte :=
  encodeRef r ++ beBytes 1 p.val ++ ifPresent 4 v

/-- SET_ALLOWANCE with a value, TOP_UP. -/
def encodeRefValue (r : StationRef) (v : Nat) : List Byte := encodeRef r ++ beBytes 4 v

/-- SET_LINE. -/
def encodeSetLine (b : Side) : List Byte := beBytes 1 (sideCode (some b))

/-- SET_TIMING. -/
def encodeTiming (t : TimingFields) : List Byte :=
  beBytes 1 (presence [t.divisor.isSome, t.holdOff.isSome, t.rehomeLimit.isSome, t.learnedLimit.isSome,
    t.admittedLimit.isSome, t.flapLimit.isSome, t.spacing.isSome])
  ++ ifPresent 2 t.divisor ++ ifPresent 2 t.holdOff ++ ifPresent 2 t.rehomeLimit ++ ifPresent 2 t.learnedLimit
  ++ ifPresent 2 t.admittedLimit ++ ifPresent 2 t.flapLimit ++ ifPresent 2 t.spacing

/-- WRITE_ZONE_MATCH. -/
def encodeZoneWrite (i : Fin 64) : Option ZoneFields → List Byte
  | none => beBytes 1 i.val ++ beBytes 1 0
  | some z => beBytes 1 i.val ++ beBytes 1 (presence [true, z.etype.isSome, z.vlan.isSome]) ++ addrBytes z.value
      ++ addrBytes z.mask ++ beBytes 1 (directionCode z.dir) ++ beBytes 1 z.zone.val
      ++ ifPresent 2 (z.etype.map (·.toNat)) ++ ifPresent 2 (z.vlan.map (·.toNat))

/-- READ_ZONE_MATCH, READ_PROFILE, RESET_PORT, TAKE_REPORTS. -/
def encodeIndex (v : Nat) : List Byte := beBytes 1 v

/-- The grant flags and the class of a grant, as in WRITE_PROFILE and in READ_PROFILE data. -/
def grantBytes (g : Grant) : List Byte :=
  beBytes 1 (presence [g.upPermit, g.downPermit, g.policed, g.counted]) ++ beBytes 1 g.cls.val

/-- WRITE_PROFILE. -/
def encodeProfileWrite (w : ProfileWrite) : List Byte :=
  beBytes 1 w.profile.val ++ beBytes 1 (presence [w.rates.isSome, !w.grants.isEmpty])
  ++ (match w.rates with
      | none => []
      | some r => beBytes 2 r.upRate ++ beBytes 4 r.upBurst ++ beBytes 2 r.downRate ++ beBytes 4 r.downBurst)
  ++ (if w.grants.isEmpty then []
      else beBytes 1 w.grants.length ++ w.grants.flatMap (fun x => beBytes 1 x.1.val ++ grantBytes x.2))

/-- SET_PORT. -/
def encodePortWrite (w : PortWrite) : List Byte :=
  beBytes 1 w.port.val
  ++ beBytes 1 (presence [w.enable.isSome, w.hold.isSome, w.flood.isSome, w.seatLimit.isSome, !w.limits.isEmpty])
  ++ ifPresent 1 (w.enable.map onOffCode) ++ ifPresent 1 (w.hold.map onOffCode) ++ ifPresent 1 (w.flood.map onOffCode)
  ++ ifPresent 1 w.seatLimit
  ++ (if w.limits.isEmpty then []
      else beBytes 1 w.limits.length ++ w.limits.flatMap (fun x => beBytes 1 (queueKindCode x.1) ++ beBytes 2 x.2))

/-- SET_QUEUE. -/
def encodeQueueWrite (w : QueueWrite) : List Byte :=
  beBytes 1 (presence [w.limit.isSome, w.quantum.isSome, w.reserve.isSome])
  ++ (match w.queue with
      | none => []
      | some (p, k) => beBytes 1 p.val ++ beBytes 1 (queueKindCode k))
  ++ ifPresent 2 w.limit ++ ifPresent 2 w.quantum ++ ifPresent 2 w.reserve

/-- READ_COUNTERS. -/
def encodeCounters (g : CounterGroup) (clear : Bool) : List Byte :=
  match g with
  | .port p => beBytes 1 1 ++ beBytes 1 (onOffCode clear) ++ beBytes 1 p.val
  | .queue p k => beBytes 1 2 ++ beBytes 1 (onOffCode clear) ++ beBytes 1 p.val ++ beBytes 1 (queueKindCode k)
  | .station r => beBytes 1 3 ++ beBytes 1 (onOffCode clear) ++ encodeRef r
  | .global => beBytes 1 4 ++ beBytes 1 (onOffCode clear)

/-- SET_NOTICES. -/
def encodeNoticeWrite (w : NoticeWrite) : List Byte :=
  beBytes 1 (presence [w.dest.isSome, w.mode.isSome, !w.enables.isEmpty])
  ++ ifPresent 6 (w.dest.map (·.toNat)) ++ ifPresent 1 (w.mode.map modeCode)
  ++ (if w.enables.isEmpty then []
      else beBytes 1 w.enables.length
        ++ w.enables.flatMap (fun x => beBytes 1 (sourceIx x.1).val ++ beBytes 1 (onOffCode x.2)))

/-- RETIRE_NOTICES. -/
def encodeRetire (l : List Source) : List Byte :=
  beBytes 1 l.length ++ l.flatMap (fun x => beBytes 1 (sourceIx x).val)

end Sys2Proof
end

