-- ==== Sys2Proof/Machine/State.lean ====
section
/-! DEFINITION. What the 4806 holds, block by block (00, Block diagram), the reasons a command can be stopped, and the state
right after reset. INVENTORY.md lists every field with its rule and its value at reset. -/

namespace Sys2Proof.Machine

open Sys2Proof

/-! ## Frames and queues -/

/-- The number of a cell of frame memory (06 R99). -/
abbrev CellIx := Fin 2048

/-- The number of a frame record (06 R102). -/
abbrev RecordIx := Fin 1024

/-- The 74 egress queues (06 R104). Port CRn is radio n - 1, port SPn is seat n - 1. -/
inductive QueueId where
  | through (b : Side)
  | cls (b : Side) (c : Fin 4)
  | priority (r : Fin 8)
  | normal (r : Fin 8)
  | seat (k : Fin 48)
  deriving DecidableEq, Repr

/-- The stages of a frame record (06 R102). -/
inductive Stage where
  | free | receiving | deciding | queued
  deriving DecidableEq, Repr

/-- The class of a QUEUED record: a grant's class, or THROUGH (06 R102). -/
inductive RecordClass where
  | grant (c : Fin 4)
  | through
  deriving DecidableEq, Repr

/-- A frame record (06 R102). Of its fields only the destination and the class are optional. -/
structure FrameRecord where
  stage : Stage
  firstCell : CellIx
  cellCount : Nat
  length : Nat
  ingress : Port
  arrival : Stamp
  rehomed : Bool
  dest : Option StationIx
  cls : Option RecordClass
  holders : Nat
  deriving DecidableEq, Repr

/-- A record after a power-on reset (06 R102). First cell 0, length 0, ingress port 0 and arrival stamp 0 are DESIGN CHOICE
(log 9): the rule gives the other fields. -/
def FrameRecord.fresh : FrameRecord :=
  { stage := .free, firstCell := 0, cellCount := 0, length := 0, ingress := 0, arrival := 0, rehomed := false,
    dest := none, cls := none, holders := 0 }

/-- Frame memory as (byte address, byte) pairs; byte k of cell c has address 128 c + k (06 R99). -/
abbrev Memory := List Host.Cell

/-- The frame memory manager (06 R99 to R102). -/
structure FrameMemory where
  bytes : Memory
  next : Tab (Option CellIx) 2048
  free : List CellIx
  freeCount : Nat
  records : Tab FrameRecord 1024
  reserve : Nat
  deriving DecidableEq, Repr

/-- One egress queue: records oldest first, tally, limit (06 R104), and its counter ADMIT_DROPS (08 R141). -/
structure Queue where
  records : List RecordIx
  tally : Nat
  limit : Nat
  drops : Nat
  deriving DecidableEq, Repr

/-! ## Port units -/

/-- Why a frame is being discarded (01 1.1). -/
inductive DiscardReason where
  | long | nomem | held
  deriving DecidableEq, Repr

/-- The receive state of a port unit (01 1.1); in STORING with the frame's record and the byte count so far. -/
inductive RxState where
  | idle
  | storing (r : RecordIx) (count : Nat)
  | discarding (why : DiscardReason)
  deriving DecidableEq, Repr

/-- The transmit state of a port unit (07 7.1): IDLE, or SENDING a record together with the queue it was taken from or the
slot frame, with the bytes sent so far (log 14). -/
inductive TxState where
  | idle
  | sending (r : RecordIx) (q : QueueId) (sent : Nat)
  | sendingSlot (sent : Nat)
  deriving DecidableEq, Repr

/-- The state of a carriage port (08 R131). -/
inductive PortState where
  | off | down | up | held
  deriving DecidableEq, Repr

/-- One port unit with its settings, its station count, its guard count, its flush walk and its ten counters (01 1.1, 08 8.1,
05 5.1, 07 7.3, 06 R113, 08 R141). A field that the port's kind does not have stands at its reset value. -/
structure PortUnit where
  link : Bool
  rx : RxState
  intake : List RecordIx
  tx : TxState
  state : PortState
  enable : Bool
  hold : Bool
  flood : Bool
  seatLimit : Nat
  seatCount : Nat
  guardCount : Nat
  flush : Option Nat
  counters : Tab Nat 10
  deriving DecidableEq, Repr

/-- The queues that deficit round robin serves, in visiting order (07 R127). -/
inductive DrrQueue where
  | through | class1 | class2 | class3
  deriving DecidableEq, Repr

/-- What a backbone port holds for sending (07 R126, R127) and its class flush (06 R114). The slot frame is its bytes up to
the check sequence (log 7). -/
structure BackboneTx where
  slot : Option (List Byte)
  pointer : DrrQueue
  visitOpen : Bool
  deficit : Tab Nat 4
  quantum : Tab Nat 4
  classFlush : Option Nat
  deriving DecidableEq, Repr

/-- A purge walk: the station and the number of visits made (06 R111). -/
structure PurgeWalk where
  station : StationIx
  visits : Nat
  deriving DecidableEq, Repr

/-! ## Station table -/

/-- The states of a station entry (02 2.3). -/
inductive EntryState where
  | free | learned | admitted | barred
  deriving DecidableEq, Repr

/-- A station entry (02 2.1). -/
structure StationEntry where
  state : EntryState
  addr : Addr
  attachment : Option Port
  profile : Fin 32
  metered : Bool
  allowance : Nat
  spent : Bool
  upCredit : Int
  downCredit : Int
  lastRefill : Stamp
  lastSeen : Stamp
  expiryDue : Bool
  recentlyMoved : Bool
  movedAt : Stamp
  flapCount : Nat
  pinned : Bool
  heldCount : Nat
  learnedPending : Option Port
  spentPending : Bool
  pinnedPending : Option Port
  counters : Tab Nat 8
  deriving DecidableEq, Repr

/-- A FREE entry as 02 2.1 gives it, with the last refill tick it keeps. -/
def StationEntry.freed (lastRefill : Stamp) : StationEntry :=
  { state := .free, addr := 0, attachment := none, profile := 0, metered := false, allowance := 0, spent := false,
    upCredit := 0, downCredit := 0, lastRefill := lastRefill, lastSeen := 0, expiryDue := false, recentlyMoved := false,
    movedAt := 0, flapCount := 0, pinned := false, heldCount := 0, learnedPending := none, spentPending := false,
    pinnedPending := none, counters := Tab.fill 8 0 }

/-- A record of the report queue (02 2.7). -/
inductive Report where
  | learned (i : StationIx) (a : Addr) (p : Port)
  | spent (i : StationIx) (a : Addr)
  | pinned (i : StationIx) (a : Addr) (p : Port)
  | expired (a : Addr) (profile : Fin 32) (allowance : Option Nat) (lastPort : Option Port)
  deriving DecidableEq, Repr

/-- The station table (02). -/
structure StationTable where
  entries : Tab StationEntry 512
  reports : List Report
  agingPointer : Fin 128
  learnedLimit : Nat
  admittedLimit : Nat
  deriving DecidableEq, Repr

/-! ## Classifier, metering unit, attachment logic -/

/-- A zone match entry (03 R43). -/
structure ZoneEntry where
  valid : Bool
  fields : ZoneFields
  deriving DecidableEq, Repr

/-- The fields of a clear entry (03 R43). -/
def ZoneEntry.clear : ZoneEntry :=
  { valid := false, fields := { value := 0, mask := 0, etype := none, vlan := none, dir := .both, zone := 0 } }

/-- A grant after a power-on reset (03 R49). -/
def noGrant : Grant := { upPermit := false, downPermit := false, policed := false, counted := false, cls := 0 }

/-- A service profile (03 R49). -/
structure Profile where
  rates : Rates
  grants : Tab Grant 16
  deriving DecidableEq, Repr

/-- A profile after a power-on reset (03 R49). -/
def Profile.fresh : Profile :=
  { rates := { upRate := 0, upBurst := Config.burstMin, downRate := 0, downBurst := Config.burstMin },
    grants := Tab.fill 16 noGrant }

/-- The classifier (03). -/
structure Classifier where
  zones : Tab ZoneEntry 64
  profiles : Tab Profile 32
  deriving DecidableEq, Repr

/-- The timebase (04 4.1) and the refresh sweep pointer. `micro` counts the microseconds of the base since the last slow
tick (04 R61); its 0 at the release of reset and at RESTART, which 04 R58 does not list, is DESIGN CHOICE (log 24). -/
structure Timebase where
  divisor : Nat
  divisorWritten : Option Nat
  periodCount : Nat
  tick : Stamp
  ms : Stamp
  msRemainder : Nat
  seconds : Stamp
  refreshPointer : StationIx
  micro : Nat
  deriving DecidableEq, Repr

/-- The settings of the attachment logic (05 R80). -/
structure Roaming where
  holdOff : Nat
  flapLimit : Nat
  rehomeLimit : Nat
  deriving DecidableEq, Repr

/-! ## Line controller, decision engine -/

/-- The part states (09 R144). -/
inductive PartState where
  | reset | transit | service
  deriving DecidableEq, Repr

/-- The line controller (09 9.1) with the link-status lines of the ports (09 9.9). `gateway` absent is NONE. -/
structure LineController where
  part : PartState
  strapCode : BitVec 6
  position : Fin 21
  deviceId : Addr
  gateway : Option Side
  lineJoin : Bool
  lines : Tab Bool 58
  deriving DecidableEq, Repr

/-- The decision engine's arbiter (01 1.3). -/
structure Arbiter where
  lastBackbone : Side
  lastCarriage : Port
  deriving DecidableEq, Repr

/-! ## Management unit -/

/-- The statuses of 10 10.4. -/
inductive Status where
  | done | doneClamped | busy | wrongState | noEntry | stale | badItem | notRun | bucketFull
  deriving DecidableEq, Repr

/-- A frame of the management input queue: its bytes, its arrival port and its source address (10 10.2). -/
structure MgmtFrame where
  bytes : List Byte
  arrival : Side
  source : Addr
  deriving DecidableEq, Repr

/-- The answer to one item: the request's code, the status and the data (10 R164). -/
structure ItemAnswer where
  code : Byte
  status : Status
  data : List Byte
  deriving DecidableEq, Repr

/-- What the frame in execution is doing: its next item can begin, a time-taking item waits for its finishing event
(10 R159, 06 R116), or the response waits to be placed (10 R166). A SET_PORT that waits remembers whether one of its values was
brought into range (08 R137, log 22). -/
inductive ExecPhase where
  | ready
  | barWalk (i : StationIx)
  | releaseWalk (i : StationIx)
  | releaseWait (i : StationIx)
  | portOff (p : Port) (clamped : Bool)
  | portReset (p : Port)
  | standDown
  | response (content : List Byte)
  deriving DecidableEq, Repr

/-- The frame in execution: its items, the item pointer, the answers so far (10 10.2). -/
structure ExecFrame where
  frame : MgmtFrame
  items : List RawItem
  pointer : Nat
  answers : List ItemAnswer
  phase : ExecPhase
  deriving DecidableEq, Repr

/-- The restart that follows a RESTART item (09 R154): none asked for, item executed, its response in the output slot of a
side, or due. -/
inductive RestartPhase where
  | none | armed | sent (b : Side) | due
  deriving DecidableEq, Repr

/-- The management unit (10 10.2). -/
structure Management where
  input : List MgmtFrame
  exec : Option ExecFrame
  restart : RestartPhase
  deriving DecidableEq, Repr

/-! ## Notice unit -/

/-- The three flags of a notice source (11 R168). -/
structure SourceFlags where
  enable : Bool
  pending : Bool
  inService : Bool
  deriving DecidableEq, Repr

/-- The notice destination: the address, the arrival port and the VLAN tag of the request that set it (11 R169). -/
structure NoticeDest where
  addr : Addr
  port : Side
  tag : Option (BitVec 16)
  deriving DecidableEq, Repr

/-- The notice unit (11), with the changed-port set of 08 R133. -/
structure NoticeUnit where
  flags : Tab SourceFlags 9
  mode : NoticeMode
  spacing : Nat
  spacingRunning : Bool
  placedAt : Stamp
  dest : Option NoticeDest
  changed : Tab Bool 58
  count : Stamp
  deriving DecidableEq, Repr

/-! ## The machine -/

/-- The state of the 4806: its blocks, and the queue of the commands that wait, first in, first out. -/
structure State where
  pending : List Instr
  line : LineController
  ports : Tab PortUnit 58
  arb : Arbiter
  table : StationTable
  cls : Classifier
  time : Timebase
  roam : Roaming
  mem : FrameMemory
  queues : Tab Queue 74
  fore : BackboneTx
  aft : BackboneTx
  purge : Option PurgeWalk
  mgmt : Management
  notice : NoticeUnit
  globals : Tab Nat 9
  deriving DecidableEq, Repr

/-- The machine stops of the 4806. The manual gives it none: a frame that fails is dropped and counted, a request that fails
is answered with a status. So there is no constructor, and no meaning can raise one. -/
inductive Fault where
  deriving DecidableEq, Repr

/-- The commands that have no meaning. -/
inductive Refusal where
  /-- Raised by an arm of exec for a row without a meaning (none is left). Safe. -/
  | notModelled (mnemonic : String)
  /-- Raised by execCarriageLinkUp and execCarriageLinkDown for port 0 or 1, which is no carriage port, so that the command
  is none of the block's (00, Port map; log 21). Safe. -/
  | notACarriagePort
  deriving DecidableEq, Repr

/-! ## The state right after reset -/

/-- A port unit after a power-on reset (01 R1, R7, 07 R118, 08 R131). -/
def PortUnit.fresh : PortUnit :=
  { link := false, rx := .idle, intake := [], tx := .idle, state := .off, enable := true, hold := false, flood := true,
    seatLimit := 1, seatCount := 0, guardCount := 0, flush := none, counters := Tab.fill 10 0 }

/-- A backbone port's sending state after a power-on reset (07 R126, R127). -/
def BackboneTx.fresh : BackboneTx :=
  { slot := none, pointer := .through, visitOpen := false, deficit := Tab.fill 4 0, quantum := #v[3000, 3000, 1500, 1500],
    classFlush := none }

/-- A queue after a power-on reset, with the default limit of its kind (06 R104). -/
def Queue.fresh (limit : Nat) : Queue := { records := [], tally := 0, limit := limit, drops := 0 }

/-- The five queues of a backbone port after a power-on reset. -/
def freshBackboneQueues : List Queue :=
  Queue.fresh Config.throughQueueLimit :: List.replicate 4 (Queue.fresh Config.classQueueLimit)

/-- The 74 queues after a power-on reset, in the order of `queueIx`: BF, BA, CR1 to CR8, SP1 to SP48. -/
def freshQueues : Tab Queue 74 :=
  ⟨⟨freshBackboneQueues ++ freshBackboneQueues
    ++ (List.replicate 8 [Queue.fresh Config.priorityQueueLimit, Queue.fresh Config.normalQueueLimit]).flatten
    ++ List.replicate 48 (Queue.fresh Config.seatQueueLimit)⟩, by decide⟩

/-- The frame memory after a power-on reset: every cell on the free cell list in ascending order, every record FREE (06 R99,
R102), reserve 64 (06 R100), no byte written (log 6). -/
def FrameMemory.fresh : FrameMemory :=
  { bytes := [], next := Tab.fill 2048 none, free := List.finRange 2048, freeCount := Config.cellCount,
    records := Tab.fill 1024 FrameRecord.fresh, reserve := Config.defaultReserve }

/-- The machine with its reset pin asserted (09 R145): every block at its power-on values, part state RESET, line-join output
asserted. Strap code, position, device identifier, link-status lines and the microseconds since the last slow tick are
values the model names (log 3, 4, 5, 24). -/
def State.reset : State :=
  { pending := []
    line := { part := .reset, strapCode := Config.resetStrapCode, position := 0, deviceId := Config.resetDeviceId,
              gateway := none, lineJoin := true, lines := Tab.fill 58 false }
    ports := Tab.fill 58 PortUnit.fresh
    arb := { lastBackbone := .aft, lastCarriage := 57 }
    table := { entries := Tab.fill 512 (StationEntry.freed 0), reports := [], agingPointer := 0,
               learnedLimit := Config.defaultLearnedLimit, admittedLimit := Config.defaultAdmittedLimit }
    cls := { zones := Tab.fill 64 ZoneEntry.clear, profiles := Tab.fill 32 Profile.fresh }
    time := { divisor := Config.defaultDivisor, divisorWritten := none, periodCount := 0, tick := 0, ms := 0,
              msRemainder := 0, seconds := 0, refreshPointer := 0, micro := 0 }
    roam := { holdOff := Config.defaultHoldOff, flapLimit := Config.defaultFlapLimit,
              rehomeLimit := Config.defaultRehomeLimit }
    mem := FrameMemory.fresh
    queues := freshQueues
    fore := BackboneTx.fresh
    aft := BackboneTx.fresh
    purge := none
    mgmt := { input := [], exec := none, restart := .none }
    notice := { flags := Tab.fill 9 { enable := false, pending := false, inService := false }, mode := .explicit,
                spacing := Config.defaultSpacing, spacingRunning := false, placedAt := 0, dest := none,
                changed := Tab.fill 58 false, count := 0 }
    globals := Tab.fill 9 0 }

end Sys2Proof.Machine
end

