-- ==== Sys2Proof/Machine/Operands.lean ====
section
/-! DEFINITION. The names a command or a frame can use: ports and their kinds, queues, the blocks of State by name, and the
fields of a frame. -/

namespace Sys2Proof.Machine

open Sys2Proof

/-! ## Ports and queues -/

/-- The kinds of port (00, Port map). -/
inductive PortClass where
  | backbone (b : Side)
  | radio (r : Fin 8)
  | seat (k : Fin 48)
  deriving DecidableEq, Repr

/-- The kind of a port (00, Port map). -/
def portClass (p : Port) : PortClass :=
  if p.val = 0 then .backbone .fore
  else if p.val = 1 then .backbone .aft
  else if h : p.val < 10 then .radio ⟨p.val - 2, by omega⟩
  else .seat ⟨p.val - 10, by have := p.isLt; omega⟩

/-- BF is port 0, BA port 1. -/
def sidePort : Side → Port
  | .fore => 0
  | .aft => 1

/-- The other backbone port (01 1.6). -/
def otherSide : Side → Side
  | .fore => .aft
  | .aft => .fore

/-- Ports 2 to 57 are the carriage ports. -/
def isCarriage (p : Port) : Bool := decide (2 ≤ p.val)

/-- Ports 10 to 57 are the seat ports. -/
def isSeat (p : Port) : Bool := decide (10 ≤ p.val)

/-- The carriage ports in ascending order. -/
def carriagePorts : List Port := (List.finRange 58).filter isCarriage

/-- The place of a queue among the 74 (06 R104). -/
def queueIx : QueueId → Fin 74
  | .through .fore => 0
  | .through .aft => 5
  | .cls .fore c => ⟨1 + c.val, by omega⟩
  | .cls .aft c => ⟨6 + c.val, by omega⟩
  | .priority r => ⟨10 + 2 * r.val, by omega⟩
  | .normal r => ⟨11 + 2 * r.val, by omega⟩
  | .seat k => ⟨26 + k.val, by omega⟩

/-- The port a queue belongs to (06 R104). -/
def queuePort : QueueId → Port
  | .through b => sidePort b
  | .cls b _ => sidePort b
  | .priority r => ⟨2 + r.val, by omega⟩
  | .normal r => ⟨2 + r.val, by omega⟩
  | .seat k => ⟨10 + k.val, by omega⟩

/-- The queue of a kind at a port, none where the kind does not exist (06 R110). -/
def queueNamed (p : Port) (k : QueueKind) : Option QueueId :=
  match portClass p, k with
  | .backbone b, .through => some (.through b)
  | .backbone b, .class0 => some (.cls b 0)
  | .backbone b, .class1 => some (.cls b 1)
  | .backbone b, .class2 => some (.cls b 2)
  | .backbone b, .class3 => some (.cls b 3)
  | .radio r, .priority => some (.priority r)
  | .radio r, .normal => some (.normal r)
  | .seat k', .seat => some (.seat k')
  | _, _ => none

/-- The queues of a port in the order in which a flush walk visits them (06 R113). -/
def portQueues (p : Port) : List QueueId :=
  match portClass p with
  | .backbone b => [.through b, .cls b 0, .cls b 1, .cls b 2, .cls b 3]
  | .radio r => [.priority r, .normal r]
  | .seat k => [.seat k]

/-- The carriage-port queues in the order in which a purge walk visits them (06 R111). -/
def carriageQueues : List QueueId := carriagePorts.flatMap portQueues

/-- The queue of a station's port for a grant class (01 R16, 03 R51, 05 R96). A station is never attached to a backbone port
(05 R79); the first case stands for totality only (log 18). -/
def stationQueue (p : Port) (c : Fin 4) : QueueId :=
  match portClass p with
  | .backbone b => .through b
  | .radio r => if c = 0 then .priority r else .normal r
  | .seat k => .seat k

/-- The queue of a carriage port that takes flooded frames (01 R18). -/
def floodQueue (p : Port) : QueueId := stationQueue p 1

/-- The place of a deficit round robin queue in its tables. -/
def drrIx : DrrQueue → Fin 4
  | .through => 0
  | .class1 => 1
  | .class2 => 2
  | .class3 => 3

/-- The visiting order of deficit round robin (07 R127). -/
def drrNext : DrrQueue → DrrQueue
  | .through => .class1
  | .class1 => .class2
  | .class2 => .class3
  | .class3 => .through

/-- The egress queue that a deficit round robin queue is. -/
def drrQueue (b : Side) : DrrQueue → QueueId
  | .through => .through b
  | .class1 => .cls b 1
  | .class2 => .cls b 2
  | .class3 => .cls b 3

/-- The deficit round robin queue that an egress queue is; class 0 and the carriage queues are none. -/
def drrOf : QueueId → Option (Side × DrrQueue)
  | .through b => some (b, .through)
  | .cls b c => if c = 1 then some (b, .class1) else if c = 2 then some (b, .class2)
      else if c = 3 then some (b, .class3) else none
  | _ => none

/-! ## The blocks by name -/

/-- The unit of a port. -/
def State.port (s : State) (p : Port) : PortUnit := s.ports.get p
/-- A station entry. -/
def State.entry (s : State) (i : StationIx) : StationEntry := s.table.entries.get i
/-- A frame record. -/
def State.record (s : State) (r : RecordIx) : FrameRecord := s.mem.records.get r
/-- An egress queue. -/
def State.queue (s : State) (q : QueueId) : Queue := s.queues.get (queueIx q)
/-- The sending state of a backbone port. -/
def State.side (s : State) : Side → BackboneTx
  | .fore => s.fore
  | .aft => s.aft
/-- A profile. -/
def State.profile (s : State) (n : Fin 32) : Profile := s.cls.profiles.get n

/-- Change the unit of a port. -/
def State.modPort (s : State) (p : Port) (f : PortUnit → PortUnit) : State := { s with ports := s.ports.modify p f }
/-- Change a station entry. -/
def State.modEntry (s : State) (i : StationIx) (f : StationEntry → StationEntry) : State :=
  { s with table := { s.table with entries := s.table.entries.modify i f } }
/-- Change a frame record. -/
def State.modRecord (s : State) (r : RecordIx) (f : FrameRecord → FrameRecord) : State :=
  { s with mem := { s.mem with records := s.mem.records.modify r f } }
/-- Change an egress queue. -/
def State.modQueue (s : State) (q : QueueId) (f : Queue → Queue) : State :=
  { s with queues := s.queues.modify (queueIx q) f }
/-- Change the sending state of a backbone port. -/
def State.modSide (s : State) (b : Side) (f : BackboneTx → BackboneTx) : State :=
  match b with
  | .fore => { s with fore := f s.fore }
  | .aft => { s with aft := f s.aft }
/-- Change the notice unit. -/
def State.modNotice (s : State) (f : NoticeUnit → NoticeUnit) : State := { s with notice := f s.notice }
/-- Change the line controller. -/
def State.modLine (s : State) (f : LineController → LineController) : State := { s with line := f s.line }
/-- Change the management unit. -/
def State.modMgmt (s : State) (f : Management → Management) : State := { s with mgmt := f s.mgmt }

/-- The part is in TRANSIT or SERVICE (04 R58, 09 R144). -/
def running (s : State) : Bool := decide (s.line.part ≠ .reset)

/-! ## The fields of a frame -/

/-- What the decision engine reads of a frame (01 R9), with the tag's control bytes and the offset of the body (12 R173). -/
structure Header where
  dst : Addr
  src : Addr
  etype : BitVec 16
  tag : Option (BitVec 16)
  body : Nat
  deriving DecidableEq, Repr

/-- A 16-bit field at an offset. -/
def field16 (bs : List Byte) (k : Nat) : BitVec 16 := BitVec.ofNat 16 (beNat ((bs.drop k).take 2))

/-- A byte at an offset; 0 beyond the end. -/
def byteAt (bs : List Byte) (k : Nat) : Nat := beNat ((bs.drop k).take 1)

/-- The header of a frame: the type code is the two bytes after the source address, or after the four-byte VLAN tag where
those two bytes are 0x8100 (01 R9). -/
def readHeader (bs : List Byte) : Header :=
  let dst := addrOf (bs.take 6)
  let src := addrOf ((bs.drop 6).take 6)
  let t := field16 bs 12
  if t.toNat = Config.tagType then { dst := dst, src := src, etype := field16 bs 16, tag := some (field16 bs 14), body := 18 }
  else { dst := dst, src := src, etype := t, tag := none, body := 14 }

/-- The VLAN identifier of a tag (03 R44): the low 12 bits of its 16-bit control field. PRESUMED (log 23): the manual says that
the identifier is 0 to 4,095 and not where it stands; the place is that of the line's VLAN standard. -/
def vlanId (tag : BitVec 16) : BitVec 12 := tag.truncate 12

/-- A management frame has the management type code and the carriage-switch group address (01 R9). -/
def isManagement (h : Header) : Bool := decide (h.etype.toNat = Config.mgmtType) && decide (h.dst = Config.mgmtGroup)

/-- The body header of a management frame (12 R173). -/
structure MgmtHeader where
  version : Nat
  kind : Nat
  form : Nat
  position : Nat
  ident : Addr
  tag : BitVec 16
  count : Nat
  deriving DecidableEq, Repr

/-- The body header of a management frame, read at its offsets (12 R173). -/
def readMgmtHeader (bs : List Byte) : MgmtHeader :=
  let b := (readHeader bs).body
  { version := byteAt bs b, kind := byteAt bs (b + 1), form := byteAt bs (b + 2), position := byteAt bs (b + 3),
    ident := addrOf ((bs.drop (b + 4)).take 6), tag := field16 bs (b + 10), count := byteAt bs (b + 12) }

/-- A management frame is for this part (01 R17): form 0 always, form 1 when the position is this part's and not 0, form 2
when the identifier is this part's, any other form never. -/
def targetMatches (l : LineController) (m : MgmtHeader) : Bool :=
  match m.form with
  | 0 => true
  | 1 => decide (m.position = l.position.val) && decide (l.position ≠ 0)
  | 2 => decide (m.ident = l.deviceId)
  | _ => false

end Sys2Proof.Machine
end

