-- ==== Sys2Proof/Machine/Flags.lean ====
section
/-! DEFINITION. The counters (08 8.5) and the flags of the notice sources (11 11.1). -/

namespace Sys2Proof.Machine

open Sys2Proof

/-- The ten counters of a port, in the order of 08 R141. -/
inductive PortCounter where
  | rxFrames | rxCheck | rxShort | rxLong | rxBadsrc | rxOverrun | rxNomem | rxHeld | txFrames | txAbort
  deriving DecidableEq, Repr

/-- The eight counters of a station entry, in the order of 08 R142. -/
inductive StationCounter where
  | upFrames | downFrames | upPoliced | downPoliced | refused | spentDrops | seatLimit | pinnedDrop
  deriving DecidableEq, Repr

/-- The nine global counters, in the order of 08 R142. -/
inductive GlobalCounter where
  | learnFail | mgmtOverrun | mgmtBad | mgmtFromCarriage | rehomed | staleDrops | unreachable | throughDrops | localSource
  deriving DecidableEq, Repr

/-- The place of a port counter. -/
def portCounterIx : PortCounter → Fin 10
  | .rxFrames => 0
  | .rxCheck => 1
  | .rxShort => 2
  | .rxLong => 3
  | .rxBadsrc => 4
  | .rxOverrun => 5
  | .rxNomem => 6
  | .rxHeld => 7
  | .txFrames => 8
  | .txAbort => 9

/-- The place of a station counter. -/
def stationCounterIx : StationCounter → Fin 8
  | .upFrames => 0
  | .downFrames => 1
  | .upPoliced => 2
  | .downPoliced => 3
  | .refused => 4
  | .spentDrops => 5
  | .seatLimit => 6
  | .pinnedDrop => 7

/-- The place of a global counter. -/
def globalCounterIx : GlobalCounter → Fin 9
  | .learnFail => 0
  | .mgmtOverrun => 1
  | .mgmtBad => 2
  | .mgmtFromCarriage => 3
  | .rehomed => 4
  | .staleDrops => 5
  | .unreachable => 6
  | .throughDrops => 7
  | .localSource => 8

/-- One occurrence: a counter stays at 4,294,967,295 (08 R140). -/
def satIncrement (c : Nat) : Nat := if c < Config.counterMax then c + 1 else c

/-- Count a port counter. -/
def countPort (p : Port) (c : PortCounter) (s : State) : State :=
  s.modPort p (fun u => { u with counters := u.counters.modify (portCounterIx c) satIncrement })

/-- Count a station counter. -/
def countStation (i : StationIx) (c : StationCounter) (s : State) : State :=
  s.modEntry i (fun e => { e with counters := e.counters.modify (stationCounterIx c) satIncrement })

/-- Count a global counter. -/
def countGlobal (c : GlobalCounter) (s : State) : State :=
  { s with globals := s.globals.modify (globalCounterIx c) satIncrement }

/-- Count ADMIT_DROPS of a queue (08 R141). -/
def countDrop (q : QueueId) (s : State) : State := s.modQueue q (fun x => { x with drops := satIncrement x.drops })

/-- A notice source becomes pending (11 R168). -/
def raise (src : Source) (s : State) : State :=
  s.modNotice (fun n => { n with flags := n.flags.modify (sourceIx src) (fun f => { f with pending := true }) })

/-- A link event adds its port to the changed-port set and makes LINK_CHANGE pending (08 R133). -/
def noteLinkChange (p : Port) (s : State) : State :=
  raise .linkChange (s.modNotice (fun n => { n with changed := n.changed.set p true }))

/-- A source that the next notice would list (11 R171). -/
def SourceFlags.listed (f : SourceFlags) : Bool := f.pending && f.enable && !f.inService

end Sys2Proof.Machine
end

