-- ==== Sys2Proof/Machine/Ops.lean ====
section
/-! DEFINITION. Frame memory: the bytes, the cells and their chains, the frame records (06 6.1, 6.2). -/

namespace Sys2Proof.Machine

open Sys2Proof

/-! ## The bytes -/

/-- The byte at an address; an unlisted address reads `Config.unwrittenByte` (log 6). -/
def Memory.read : Memory → Nat → Byte
  | [], _ => Config.unwrittenByte
  | (x, y) :: m, a => if x = a then y else Memory.read m a

/-- The memory with one byte written, in canonical form: addresses strictly rising, nothing listed that reads as an
unlisted address does. -/
def Memory.write : Memory → Nat → Byte → Memory
  | [], a, b => if b = Config.unwrittenByte then [] else [(a, b)]
  | (x, y) :: m, a, b =>
    if x < a then (x, y) :: Memory.write m a b
    else if x = a then (if b = Config.unwrittenByte then m else (a, b) :: m)
    else (if b = Config.unwrittenByte then (x, y) :: m else (a, b) :: (x, y) :: m)

/-- Bytes written one after another at the addresses of a list. -/
def Memory.writeAll (m : Memory) (l : List (Nat × Byte)) : Memory := l.foldl (fun m x => Memory.write m x.1 x.2) m

/-- The canonical form: addresses strictly rising and no byte listed that an unlisted address reads as. -/
def Memory.wf : Memory → Bool
  | [] => true
  | (a, b) :: m => decide (b ≠ Config.unwrittenByte) && m.all (fun x => decide (a < x.1)) && Memory.wf m

/-! ## Cells and chains -/

/-- The cells of a chain from its first one, at most `n` of them (06 R99). -/
def chainFrom (next : Tab (Option CellIx) 2048) : Nat → Option CellIx → List CellIx
  | 0, _ => []
  | _, none => []
  | n + 1, some c => c :: chainFrom next n (next.get c)

/-- The cells a record's frame holds, in chain order (06 R99). -/
def cellsOf (m : FrameMemory) (r : RecordIx) : List CellIx :=
  chainFrom m.next (m.records.get r).cellCount (some (m.records.get r).firstCell)

/-- The byte addresses of a list of cells: byte k of cell c is at 128 c + k. -/
def cellAddresses (cs : List CellIx) : List Nat :=
  cs.flatMap (fun c => (List.range Config.cellBytes).map (fun k => c.val * Config.cellBytes + k))

/-- The first `n` bytes of the cells of a record's frame. -/
def firstBytes (m : FrameMemory) (r : RecordIx) (n : Nat) : List Byte :=
  ((cellAddresses (cellsOf m r)).take n).map (Memory.read m.bytes)

/-- The bytes of a stored frame (07 R119: the cells in chain order from the first cell, L bytes). -/
def frameBytes (m : FrameMemory) (r : RecordIx) : List Byte := firstBytes m r (m.records.get r).length

/-- Write a frame into its cells in chain order. -/
def writeFrame (r : RecordIx) (bytes : List Byte) (s : State) : State :=
  { s with mem := { s.mem with bytes := Memory.writeAll s.mem.bytes ((cellAddresses (cellsOf s.mem r)).zip bytes) } }

/-- The number of cells a frame of `n` bytes occupies (00, Conventions). -/
def cellsFor (n : Nat) : Nat := (n + 127) / 128

/-- The lowest-numbered FREE record (06 R103, log 9). -/
def freeRecord (m : FrameMemory) : Option RecordIx :=
  (List.finRange 1024).find? (fun r => decide ((m.records.get r).stage = .free))

/-- The cell test of 06 R100: a backbone port is given a cell while one is free, a carriage port while the free cell count is
above the reserve. -/
def cellAllowed (p : Port) (m : FrameMemory) : Bool :=
  if isCarriage p then decide (m.reserve < m.freeCount) else decide (1 ≤ m.freeCount)

/-- Give a cell to the frame of a record: the head of the free cell list, linked to the end of the frame's chain (06 R99).
MEMORY_LOW becomes pending when the free cell count after the giving is at or below the reserve (06 R101). -/
def giveCell (r : RecordIx) (s : State) : State :=
  match s.mem.free with
  | [] => s
  | c :: rest =>
    let chain := cellsOf s.mem r
    let next := s.mem.next.set c none
    let linked := match chain.getLast? with
      | none => next
      | some l => next.set l (some c)
    let recs := s.mem.records.modify r (fun x =>
      { x with firstCell := if chain.isEmpty then c else x.firstCell, cellCount := x.cellCount + 1 })
    let s1 := { s with mem := { s.mem with next := linked, free := rest, freeCount := s.mem.freeCount - 1, records := recs } }
    if s1.mem.freeCount ≤ s1.mem.reserve then raise .memoryLow s1 else s1

/-- The release of a record (06 R103): its cells join the tail of the free cell list in chain order, and the record takes
its power-on values. -/
def releaseRecord (r : RecordIx) (s : State) : State :=
  let cells := cellsOf s.mem r
  { s with mem := { s.mem with free := s.mem.free ++ cells, freeCount := s.mem.freeCount + cells.length,
                               records := s.mem.records.set r FrameRecord.fresh } }

end Sys2Proof.Machine
end

