-- ==== Sys2Proof/Machine/Table.lean ====
section
/-! DEFINITION. The station table: buckets and lookup, learning, freeing, references, and the report queue (02), with the
attachment counts of seat ports (05 R79, R90). -/

namespace Sys2Proof.Machine

open Sys2Proof

/-! ## Buckets and lookup -/

/-- The exclusive-or of the six bytes of an address (02 R24). -/
def foldAddr (a : Addr) : Byte := (addrBytes a).foldl (· ^^^ ·) 0

/-- The bucket of an address: the fold modulo 128 (02 R24). -/
def bucketOf (a : Addr) : Fin 128 := ⟨(foldAddr a).toNat % 128, Nat.mod_lt _ (by decide)⟩

/-- The four indices of a bucket in ascending order: bucket b holds 4b to 4b + 3 (02 2.1). -/
def waysOf (b : Fin 128) : List StationIx :=
  [⟨4 * b.val, by omega⟩, ⟨4 * b.val + 1, by omega⟩, ⟨4 * b.val + 2, by omega⟩, ⟨4 * b.val + 3, by omega⟩]

/-- A lookup: the non-FREE way of the address's bucket that holds the address (02 R25). -/
def lookup (t : StationTable) (a : Addr) : Option StationIx :=
  (waysOf (bucketOf a)).find? (fun i => decide ((t.entries.get i).state ≠ .free) && decide ((t.entries.get i).addr = a))

/-- The lowest-numbered FREE way of the address's bucket (02 R26). -/
def freeWay (t : StationTable) (a : Addr) : Option StationIx :=
  (waysOf (bucketOf a)).find? (fun i => decide ((t.entries.get i).state = .free))

/-! ## The report queue -/

/-- A posting that finds room: one record at the tail, and REPORTS becomes pending (02 R41). -/
def addReport (x : Report) (s : State) : State :=
  raise .reports { s with table := { s.table with reports := s.table.reports ++ [x] } }

/-- The report queue has room (02 R41). -/
def reportRoom (s : State) : Bool := decide (s.table.reports.length < Config.reportQueueSize)

/-- Post a LEARNED record, or mark it pending with its port (02 R41). -/
def postLearned (i : StationIx) (p : Port) (s : State) : State :=
  if reportRoom s then
    addReport (.learned i (s.entry i).addr p) (s.modEntry i (fun e => { e with learnedPending := none }))
  else raise .reportBacklog (s.modEntry i (fun e => { e with learnedPending := some p }))

/-- Post a SPENT record, or mark it pending (02 R41, 04 R73). -/
def postSpent (i : StationIx) (s : State) : State :=
  if reportRoom s then
    addReport (.spent i (s.entry i).addr) (s.modEntry i (fun e => { e with spentPending := false }))
  else raise .reportBacklog (s.modEntry i (fun e => { e with spentPending := true }))

/-- Post a PINNED record, or mark it pending with its port (02 R41, 05 R84). -/
def postPinned (i : StationIx) (p : Port) (s : State) : State :=
  if reportRoom s then
    addReport (.pinned i (s.entry i).addr p) (s.modEntry i (fun e => { e with pinnedPending := none }))
  else raise .reportBacklog (s.modEntry i (fun e => { e with pinnedPending := some p }))

/-! ## Attachment counts and freeing -/

/-- The seat station count of a port changed by `f`; ports that are no seat ports have none (05 R79). -/
def modSeatCount (p : Port) (f : Nat → Nat) (s : State) : State :=
  if isSeat p then s.modPort p (fun u => { u with seatCount := f u.seatCount }) else s

/-- Detach one station: the seat station count of a seat port it was attached to falls by one (02 R28, R31). -/
def detachStation (i : StationIx) (s : State) : State :=
  match (s.entry i).attachment with
  | none => s
  | some p => (modSeatCount p (· - 1) s).modEntry i (fun e => { e with attachment := none })

/-- Detach every station attached to a port, as one event (05 R91). -/
def detachPort (p : Port) (s : State) : State :=
  modSeatCount p (fun _ => 0)
    { s with table := { s.table with entries := s.table.entries.mapAll (fun e =>
        if e.attachment = some p then { e with attachment := none } else e) } }

/-- Free an entry (02 R28): detached first, then every field at its FREE value; the last refill tick is left for the refresh
sweep. -/
def freeEntry (i : StationIx) (s : State) : State :=
  (detachStation i s).modEntry i (fun e => StationEntry.freed e.lastRefill)

/-! ## Creation -/

/-- The fields of a new entry (02 R26): LEARNED, profile 0, unmetered, detached, credits the bursts of profile 0. -/
def newEntry (a : Addr) (s : State) : StationEntry :=
  { StationEntry.freed s.time.tick with
    state := .learned, addr := a, upCredit := ((s.profile 0).rates.upBurst : Nat),
    downCredit := ((s.profile 0).rates.downBurst : Nat), lastSeen := s.time.seconds }

/-- Make a new entry at an index (02 R26, R30). -/
def createEntry (i : StationIx) (a : Addr) (s : State) : State := s.modEntry i (fun _ => newEntry a s)

/-! ## Station references -/

/-- Resolve a station reference (02 R29): the entry, or the status that refuses the item. -/
def resolve (s : State) : StationRef → Except Status StationIx
  | .indexed i a => if (s.entry i).state ≠ .free ∧ (s.entry i).addr = a then .ok i else .error .stale
  | .byAddr a => match lookup s.table a with
    | some i => .ok i
    | none => .error .noEntry

/-- Resolve a station reference for ADMIT and BAR, which create the entry of an address that misses (02 R30). -/
def resolveOrCreate (s : State) : StationRef → Except Status (StationIx × State)
  | .indexed i a => (resolve s (.indexed i a)).map (fun i => (i, s))
  | .byAddr a => match lookup s.table a with
    | some i => .ok (i, s)
    | none => match freeWay s.table a with
      | some i => .ok (i, createEntry i a s)
      | none => .error .bucketFull

end Sys2Proof.Machine
end

