-- ==== Sys2Proof/Machine/Credit.lean ====
section
/-! DEFINITION. The metering unit: refill, policing, allowance, charging (04 4.2, 4.4). -/

namespace Sys2Proof.Machine

open Sys2Proof

/-- The two legs of a frame (03 R50). -/
inductive Leg where
  | up | down
  deriving DecidableEq, Repr

/-- A refill of an entry at refill tick `t` under the rates of its profile (04 R63): both credits gain the rate times the
elapsed ticks, up to the burst, and the last refill tick becomes `t`. -/
def refilled (r : Rates) (t : Stamp) (e : StationEntry) : StationEntry :=
  let n : Nat := Stamp.since t e.lastRefill
  { e with upCredit := min (r.upBurst : Int) (e.upCredit + (r.upRate * n : Nat)),
           downCredit := min (r.downBurst : Int) (e.downCredit + (r.downRate * n : Nat)),
           lastRefill := t }

/-- Refill an entry now, under its profile as it stands (04 R63). -/
def refill (i : StationIx) (s : State) : State :=
  s.modEntry i (refilled (s.profile (s.entry i).profile).rates s.time.tick)

/-- The credit of a leg. -/
def credit (l : Leg) (e : StationEntry) : Int :=
  match l with
  | .up => e.upCredit
  | .down => e.downCredit

/-- The permit of a leg (03 R51). -/
def permits (l : Leg) (g : Grant) : Bool :=
  match l with
  | .up => g.upPermit
  | .down => g.downPermit

/-- A test of the decision: the state with which the decision goes on, or the state, with its drop counted, in which the frame
is dropped (01 R14, R15). -/
abbrev Verdict := Except State State

/-- The permit test (01 R14, R15): a missing permit counts REFUSED. -/
def testPermit (l : Leg) (g : Grant) (i : StationIx) (s : State) : Verdict :=
  if permits l g then .ok s else .error (countStation i .refused s)

/-- The policing test (04 R67, R68): under a POLICED grant the entry is refilled, and passes when the leg's credit is 1 or
more; the refill stays made. -/
def testPolicing (l : Leg) (g : Grant) (i : StationIx) (s : State) : Verdict :=
  if g.policed then
    let s1 := refill i s
    if 1 ≤ credit l (s1.entry i) then .ok s1
    else .error (countStation i (match l with | .up => .upPoliced | .down => .downPoliced) s1)
  else .ok s

/-- The allowance test (04 R71): under a COUNTED grant a spent metered station fails. -/
def testAllowance (g : Grant) (i : StationIx) (s : State) : Verdict :=
  if g.counted && (s.entry i).metered && (s.entry i).spent then .error (countStation i .spentDrops s) else .ok s

/-- The deduction of a leg's credit at commit (04 R69). -/
def deductCredit (l : Leg) (g : Grant) (i : StationIx) (n : Nat) (s : State) : State :=
  if g.policed then
    s.modEntry i (fun e => match l with
      | .up => { e with upCredit := e.upCredit - (n : Int) }
      | .down => { e with downCredit := e.downCredit - (n : Int) })
  else s

/-- The charge of a frame of `n` bytes, in units of 64 bytes (04 R71). -/
def chargeUnits (n : Nat) : Nat := (n + 63) / 64

/-- The charge of a leg's allowance at commit (04 R72, R73): lowered, or spent with a SPENT report; an allowance already
spent stays at 0. -/
def chargeAllowance (g : Grant) (i : StationIx) (n : Nat) (s : State) : State :=
  if g.counted && (s.entry i).metered && !(s.entry i).spent then
    if chargeUnits n < (s.entry i).allowance then
      s.modEntry i (fun e => { e with allowance := e.allowance - chargeUnits n })
    else postSpent i (s.modEntry i (fun e => { e with allowance := 0, spent := true }))
  else s

end Sys2Proof.Machine
end

