-- ==== Sys2Proof/Machine/Attach.lean ====
section
/-! DEFINITION. The attachment step and the parts of the aging sweep (05 5.2, 5.3, 02 2.6). -/

namespace Sys2Proof.Machine

open Sys2Proof

/-- The hold-off of an entry is still running (05 R84). -/
def holdOffRunning (i : StationIx) (s : State) : Bool :=
  (s.entry i).recentlyMoved && decide (Stamp.since s.time.ms (s.entry i).movedAt < s.roam.holdOff)

/-- A seat port at its seat limit (05 R82, R85). -/
def seatFull (p : Port) (s : State) : Bool := isSeat p && decide ((s.port p).seatLimit ≤ (s.port p).seatCount)

/-- Attach an entry to a port, from detached or from another port (05 R82, R86). -/
def attachTo (i : StationIx) (p : Port) (s : State) : State :=
  (modSeatCount p (· + 1) (detachStation i s)).modEntry i (fun e =>
    { e with attachment := some p, recentlyMoved := true, movedAt := s.time.ms })

/-- A move refused within the hold-off (05 R84): REFUSED is counted, the flap count rises, and at the flap limit the station
is pinned with a PINNED report. -/
def refuseMove (i : StationIx) (p : Port) (s : State) : State :=
  let s1 := (countStation i .refused s).modEntry i (fun e => { e with flapCount := min 15 (e.flapCount + 1) })
  if s.roam.flapLimit ≤ (s1.entry i).flapCount then postPinned i p (s1.modEntry i (fun e => { e with pinned := true }))
  else s1

/-- The attachment step (05 R81 to R86): the frame continues, or is dropped with its drop counted. -/
def attachStep (i : StationIx) (p : Port) (s : State) : Verdict :=
  match (s.entry i).attachment with
  | none => if seatFull p s then .error (countStation i .seatLimit s) else .ok (attachTo i p s)
  | some j =>
    if j = p then .ok s
    else if (s.entry i).pinned then .error (countStation i .pinnedDrop s)
    else if holdOffRunning i s then .error (refuseMove i p s)
    else if seatFull p s then .error (countStation i .seatLimit s)
    else .ok (attachTo i p s)

/-- A frame that continues sets last seen and clears expiry due (01 R12). -/
def markSeen (i : StationIx) (s : State) : State :=
  s.modEntry i (fun e => { e with lastSeen := s.time.seconds, expiryDue := false })

/-! ## The aging sweep -/

/-- The idle time of an entry has reached its limit (02 R36 steps 1 and 2). -/
def idleOut (i : StationIx) (s : State) : Bool :=
  match (s.entry i).state with
  | .learned => decide (s.table.learnedLimit ≤ Stamp.since s.time.seconds (s.entry i).lastSeen)
  | .admitted => decide (s.table.admittedLimit ≤ Stamp.since s.time.seconds (s.entry i).lastSeen)
  | .free | .barred => false

/-- Step 2 of a visit: expiry due is set when the idle time has reached the limit. -/
def dueStep (i : StationIx) (s : State) : State :=
  if idleOut i s then s.modEntry i (fun e => { e with expiryDue := true }) else s

/-- An entry of a state that is due and held by no queued frame. -/
def expires (st : EntryState) (i : StationIx) (s : State) : Bool :=
  decide ((s.entry i).state = st) && (s.entry i).expiryDue && decide ((s.entry i).heldCount = 0)

/-- The expiry of a due LEARNED entry (02 R38): freed silently. -/
def learnedExpiryStep (i : StationIx) (s : State) : State := if expires .learned i s then freeEntry i s else s

/-- The EXPIRED record of an entry (02 R39). -/
def expiredReport (e : StationEntry) : Report :=
  .expired e.addr e.profile (if e.metered then some e.allowance else none) e.attachment

/-- The expiry of a due ADMITTED entry (02 R39): EXPIRED is posted and the entry freed, or, with the report queue full,
REPORT_BACKLOG becomes pending and the entry stays. -/
def admittedExpiryStep (i : StationIx) (s : State) : State :=
  if expires .admitted i s then
    if reportRoom s then freeEntry i (addReport (expiredReport (s.entry i)) s) else raise .reportBacklog s
  else s

/-- Step 4 of a visit (05 R87): recently moved is cleared once the hold-off has passed. -/
def holdOffStep (i : StationIx) (s : State) : State :=
  if (s.entry i).recentlyMoved && decide (s.roam.holdOff ≤ Stamp.since s.time.ms (s.entry i).movedAt) then
    s.modEntry i (fun e => { e with recentlyMoved := false })
  else s

/-- Step 5 of a visit (05 R88): a settled entry's flap count falls by one. -/
def flapDecayStep (i : StationIx) (s : State) : State :=
  if (s.entry i).recentlyMoved then s else s.modEntry i (fun e => { e with flapCount := e.flapCount - 1 })

/-- Step 6 of a visit (02 R41): the pending LEARNED, SPENT and PINNED reports, in that order. -/
def pendingReportsStep (i : StationIx) (s : State) : State :=
  let s1 := match (s.entry i).learnedPending with
    | none => s
    | some p => postLearned i p s
  let s2 := if (s1.entry i).spentPending then postSpent i s1 else s1
  match (s2.entry i).pinnedPending with
  | none => s2
  | some p => postPinned i p s2

/-- One way of a visited bucket (02 R36). A FREE way is passed over, and so are the later steps of an entry the expiry
step frees. -/
def visitWay (s : State) (i : StationIx) : State :=
  if (s.entry i).state = .free then s
  else
    let s1 := admittedExpiryStep i (learnedExpiryStep i (dueStep i s))
    if (s1.entry i).state = .free then s1 else pendingReportsStep i (flapDecayStep i (holdOffStep i s1))

/-- The aging sweep's visit to the bucket at its pointer (02 R36). -/
def agingVisit (s : State) : State :=
  let s1 := (waysOf s.table.agingPointer).foldl visitWay s
  { s1 with table := { s1.table with agingPointer := s.table.agingPointer + 1 } }

end Sys2Proof.Machine
end

