-- ==== Sys2Proof/Machine/Management.lean ====
section
/-! DEFINITION. The management unit: running an item, finishing it, building the response (10 10.3, 10.6, 12 R174). -/

namespace Sys2Proof.Machine

open Sys2Proof

/-! ## The response frame -/

/-- The code of a status (12 R174). -/
def statusCode : Status → Nat
  | .done => 0
  | .doneClamped => 1
  | .busy => 2
  | .wrongState => 3
  | .noEntry => 4
  | .stale => 5
  | .badItem => 6
  | .notRun => 7
  | .bucketFull => 8

/-- One response item: code, status, length, data (12 R174). -/
def answerBytes (a : ItemAnswer) : List Byte :=
  a.code :: beBytes 1 (statusCode a.status) ++ beBytes 1 a.data.length ++ a.data

/-- The addresses, VLAN tag and type code that open a frame the part builds (10 R164, 11 R171). -/
def frameOpening (dst src : Addr) (tag : Option (BitVec 16)) : List Byte :=
  addrBytes dst ++ addrBytes src
  ++ (match tag with
      | none => []
      | some t => beBytes 2 Config.tagType ++ beBytes 2 t.toNat)
  ++ beBytes 2 Config.mgmtType

/-- The body header of a frame the part builds: version 1, target form 2 with this part's position and identifier. -/
def bodyHeader (kind : Nat) (l : LineController) (tag count : Nat) : List Byte :=
  beBytes 1 1 ++ beBytes 1 kind ++ beBytes 1 2 ++ beBytes 1 l.position.val ++ addrBytes l.deviceId ++ beBytes 2 tag
  ++ beBytes 1 count

/-- Zero bytes fill a frame to L = 64; the four check bytes stand outside (12 R174, R175, log 7). -/
def padFrame (bs : List Byte) : List Byte := bs ++ List.replicate (Config.minFrame - 4 - bs.length) 0

/-- The response to a request frame (10 R164): kind 2, or 0x82 with item count 0 for a bad header. -/
def buildResponse (l : LineController) (f : MgmtFrame) (bad : Bool) (answers : List ItemAnswer) : List Byte :=
  let m := readMgmtHeader f.bytes
  padFrame (frameOpening f.source l.deviceId (readHeader f.bytes).tag
    ++ bodyHeader (if bad then 0x82 else 2) l m.tag.toNat (if bad then 0 else answers.length)
    ++ (if bad then [] else answers.flatMap answerBytes))

/-! ## Finishing items -/

/-- The answers NOT_RUN of the items after a RESTART (10 R167). -/
def notRunAnswers (items : List RawItem) : List ItemAnswer :=
  items.map (fun it => { code := it.code, status := .notRun, data := [] })

/-- The running item finishes with a status and its data (10 R158): its answer joins the others and the pointer moves on. After
a RESTART item every later item is NOT_RUN (10 R167). After the last item the response is built (10 R164). -/
def finishItem (st : Status) (data : List Byte) (s : State) : State :=
  match s.mgmt.exec with
  | none => s
  | some f =>
    match f.items[f.pointer]? with
    | none => s
    | some it =>
      let own := f.answers ++ [{ code := it.code, status := st, data := data }]
      let rest := f.items.drop (f.pointer + 1)
      let last := rest.isEmpty || decide (s.mgmt.restart = .armed)
      let answers := if last then own ++ notRunAnswers rest else own
      s.modMgmt (fun m => { m with exec := some { f with
        pointer := if last then f.items.length else f.pointer + 1,
        answers := answers,
        phase := if last then .response (buildResponse s.line f.frame false answers) else .ready } })

/-- A time-taking item waits for its finishing event (10 R159). -/
def waitItem (ph : ExecPhase) (s : State) : State :=
  s.modMgmt (fun m => { m with exec := m.exec.map (fun f => { f with phase := ph }) })

/-- The item that can begin: the one at the item pointer of a frame in execution that waits for nothing (10 R158). -/
def currentItem (s : State) : Option RawItem :=
  match s.mgmt.exec with
  | none => none
  | some f => match f.phase with
    | .ready => f.items[f.pointer]?
    | _ => none

/-- What a well-formed item does: it is refused and changes nothing, it finishes with its changes and data, or it has started a
walk and waits. -/
inductive ItemEffect where
  | refuse (st : Status)
  | done (s : State) (data : List Byte) (clamped : Bool)
  | wait (s : State) (ph : ExecPhase)

/-- The status of an item that was carried out (10 R160). -/
def doneStatus (clamped : Bool) : Status := if clamped then .doneClamped else .done

/-- The state after an item's effect (10 R158, R159, R160). -/
def applyEffect (s : State) : ItemEffect → State
  | .refuse st => finishItem st [] s
  | .done t data clamped => finishItem (doneStatus clamped) data t
  | .wait t ph => waitItem ph t

/-- Run the current item when `is` holds of it: malformed or refused parameters finish with BAD_ITEM, the others have their
effect (10 R158, R160). When the current item is of another kind, or there is none, this is not the item's command and
nothing happens (log 2). -/
def runItem {α : Type} (is : RawItem → Bool) (parse : List Byte → Option α) (eff : α → State → ItemEffect) (s : State) : State :=
  match currentItem s with
  | none => s
  | some it =>
    if is it then
      match parse it.params with
      | none => finishItem .badItem [] s
      | some a => applyEffect s (eff a s)
    else s

/-- The item has a request code of 10 10.5. -/
def hasCode (c : Nat) (it : RawItem) : Bool := decide (it.code.toNat = c)

/-- The codes of 10 10.5 run from 01 to 1A. -/
def knownCode (it : RawItem) : Bool := decide (1 ≤ it.code.toNat ∧ it.code.toNat ≤ 0x1A)

/-! ## Sizes of response data -/

/-- The largest data a request kind returns (12 R174); for TAKE_REPORTS the one byte of the number left (10 R164). -/
def maxDataSize (c : Nat) : Nat :=
  match c with
  | 0x01 => 9
  | 0x02 => 25
  | 0x09 => 19
  | 0x0B => 40
  | 0x0C => 2
  | 0x0D => 2
  | 0x10 => 3
  | 0x12 => 35
  | 0x13 => 3
  | 0x14 => 1
  | 0x18 => 40
  | _ => 0

/-- The room for the records of the TAKE_REPORTS item at the pointer (10 R164): what the answers before it have left of 1,480
bytes, less its own three bytes and number left, less three bytes and the largest data of each item after it. -/
def reportsRoom (f : ExecFrame) : Nat :=
  let before := (f.answers.map (fun a => 3 + a.data.length)).sum
  let after := ((f.items.drop (f.pointer + 1)).map (fun it => 3 + maxDataSize it.code.toNat)).sum
  Config.responseRoom - before - after - 4

/-- Two bytes for an index, one for a port and so on: the bytes of a report record (12 R174). -/
def reportBytes : Report → List Byte
  | .learned i a p => beBytes 1 1 ++ beBytes 2 i.val ++ addrBytes a ++ beBytes 1 p.val
  | .spent i a => beBytes 1 2 ++ beBytes 2 i.val ++ addrBytes a
  | .pinned i a p => beBytes 1 3 ++ beBytes 2 i.val ++ addrBytes a ++ beBytes 1 p.val
  | .expired a profile allowance port =>
    beBytes 1 4 ++ beBytes 1 (presence [allowance.isSome, port.isSome]) ++ addrBytes a ++ beBytes 1 profile.val
    ++ ifPresent 3 allowance ++ ifPresent 1 (port.map (·.val))

/-- The head records that TAKE_REPORTS removes: as many as are asked for and fit one after another in the room (10 R163). -/
def fittingReports : Nat → Nat → List Report → List Report
  | 0, _, _ => []
  | _, _, [] => []
  | n + 1, room, x :: xs =>
    if (reportBytes x).length ≤ room then x :: fittingReports n (room - (reportBytes x).length) xs else []

end Sys2Proof.Machine
end

