-- ==== Sys2Proof/Machine/Queueing.lean ====
section
/-! DEFINITION. The queue manager: admission, leaving, re-home, walks (06 6.3, 6.4, 05 5.6). -/

namespace Sys2Proof.Machine

open Sys2Proof

/-! ## Admission -/

/-- A port can take frames: a carriage port is UP or HELD, a backbone port has its link (06 R105). -/
def portTakes (p : Port) (s : State) : Bool :=
  if isCarriage p then decide ((s.port p).state = .up ∨ (s.port p).state = .held) else (s.port p).link

/-- A queue admits a frame of `cells` cells (06 R105). -/
def queueAdmits (q : QueueId) (cells : Nat) (s : State) : Bool :=
  portTakes (queuePort q) s && (s.port (queuePort q)).flush.isNone
    && decide ((s.queue q).tally + cells ≤ (s.queue q).limit)

/-- A record joins the tail of a queue (06 R105). -/
def enqueue (q : QueueId) (r : RecordIx) (s : State) : State :=
  (s.modQueue q (fun x => { x with records := x.records ++ [r], tally := x.tally + (s.record r).cellCount })).modRecord r
    (fun x => { x with stage := .queued, holders := x.holders + 1 })

/-! ## Leaving a queue -/

/-- What follows when a queue becomes empty: a normal queue sets its port's guard count to 0 (07 R124), a deficit round robin
queue has its deficit set to 0 (07 R127). -/
def queueEmptied (q : QueueId) (s : State) : State :=
  match q with
  | .normal _ => s.modPort (queuePort q) (fun u => { u with guardCount := 0 })
  | _ => match drrOf q with
    | some (b, d) => s.modSide b (fun x => { x with deficit := x.deficit.set (drrIx d) 0 })
    | none => s

/-- A record is taken off the list of a queue and out of its tally (06 R108 steps 1 and 2). -/
def unlist (q : QueueId) (r : RecordIx) (s : State) : State :=
  let s1 := s.modQueue q (fun x => { x with records := x.records.erase r, tally := x.tally - (s.record r).cellCount })
  if (s1.queue q).records.isEmpty then queueEmptied q s1 else s1

/-- A released entry whose walk has ended is freed when its held count is 0, and RELEASE finishes with DONE (02 R33). -/
def freeReleased (i : StationIx) (s : State) : State :=
  match s.mgmt.exec with
  | none => s
  | some f =>
    if f.phase = .releaseWait i ∧ (s.entry i).heldCount = 0 then finishItem .done [] (freeEntry i s) else s

/-- A departure lowers the held count of the station a record names (02 R35). -/
def departStation (d : Option StationIx) (s : State) : State :=
  match d with
  | none => s
  | some i => freeReleased i (s.modEntry i (fun e => { e with heldCount := e.heldCount - 1 }))

/-- A record leaves a queue (06 R108): list, tally, holders, held count, and the release of the record at holders 0. -/
def leaveQueue (q : QueueId) (r : RecordIx) (s : State) : State :=
  let s1 := (unlist q r s).modRecord r (fun x => { x with holders := x.holders - 1 })
  let s2 := departStation (s.record r).dest s1
  if (s2.record r).holders = 0 then releaseRecord r s2 else s2

/-! ## Transmissions cut short by the line -/

/-- The management output slot of a backbone port becomes empty; where it held the response to a RESTART, the restart is due
(09 R154, 07 R126). -/
def emptySlot (b : Side) (s : State) : State :=
  let s1 := s.modSide b (fun x => { x with slot := none })
  if s.mgmt.restart = .sent b then s1.modMgmt (fun m => { m with restart := .due }) else s1

/-- The backbone side of a port, none for a carriage port. -/
def portSide (p : Port) : Option Side :=
  match portClass p with
  | .backbone b => some b
  | _ => none

/-- The end of a transmission: a queued record leaves its queue, a slot frame is removed, the transmit state becomes IDLE
(07 R120 steps 2 to 4, R121 steps 3 to 5). -/
def endTransmission (p : Port) (s : State) : State :=
  let idle := fun t : State => t.modPort p (fun u => { u with tx := .idle })
  match (s.port p).tx with
  | .idle => s
  | .sending r q _ => idle (leaveQueue q r s)
  | .sendingSlot _ => match portSide p with
    | some b => idle (emptySlot b s)
    | none => idle s

/-- A transmission is aborted by a link-down (07 R121). -/
def abortTransmission (p : Port) (s : State) : State :=
  if (s.port p).tx = .idle then s else endTransmission p (countPort p .txAbort s)

/-! ## Walks -/

/-- A record is in transmission from a queue on the queue's port (07 R119). -/
def inTransmission (q : QueueId) (r : RecordIx) (s : State) : Bool :=
  match (s.port (queuePort q)).tx with
  | .sending r' q' _ => decide (r' = r) && decide (q' = q)
  | _ => false

/-- A visit of a walk to one queue: every record that `picks` names leaves it, except one in transmission (06 R111, R113, R114).
They leave from head to tail, which R111 says of the purge walk and the model chooses for the flushes: DESIGN CHOICE (log 25). -/
def sweepQueue (picks : FrameRecord → Bool) (q : QueueId) (s : State) : State :=
  ((s.queue q).records.filter (fun r => picks (s.record r) && !inTransmission q r s)).foldl
    (fun t r => leaveQueue q r t) s

/-- A port flush walk starts, unless one of the port is running: that one goes on from where it is (06 R113, R115). -/
def startFlush (p : Port) (s : State) : State :=
  s.modPort p (fun u => { u with flush := match u.flush with | none => some 0 | some k => some k })

/-- The port's intake places are emptied, their records released uncounted (01 R7). The oldest is released first, so its cells
join the free cell list first: DESIGN CHOICE (log 25). -/
def flushIntake (p : Port) (s : State) : State :=
  ((s.port p).intake.foldl (fun t r => releaseRecord r t) s).modPort p (fun u => { u with intake := [] })

/-- The port's flush walk runs and has made its visit to the intake places (06 R113). -/
def flushPastIntake (u : PortUnit) : Bool :=
  match u.flush with
  | some (_ + 1) => true
  | _ => false

/-- STAND_DOWN leaves no frame in a carriage port's intake places (01 R7). A walk that starts now, or has not come to them yet, empties
them itself; one that is past them does not come back (06 R115), so a frame that came since is flushed here, at STAND_DOWN's start:
the moment is DESIGN CHOICE (log 27). -/
def flushLateIntake (p : Port) (s : State) : State := if flushPastIntake (s.port p) then flushIntake p s else s

/-! ## The re-home check -/

/-- A record moves from the head of its queue to the tail of its station's new port's queue (05 R96). Its holders stay 1 and
the station's held count does not change. -/
def rehomeMove (q q' : QueueId) (r : RecordIx) (s : State) : State :=
  let s1 := unlist q r s
  let s2 := s1.modQueue q' (fun x => { x with records := x.records ++ [r], tally := x.tally + (s.record r).cellCount })
  countGlobal .rehomed (s2.modRecord r (fun x => { x with rehomed := true }))

/-- The class with which a re-homed record chooses its new queue (05 R96). A record with a destination has a grant's class
(01 R16); 0 stands for totality only (log 18). -/
def rehomeClass (x : FrameRecord) : Fin 4 :=
  match x.cls with
  | some (.grant c) => c
  | _ => 0

/-- The outcome of the re-home check on a record at the head of a queue: it is sent, or it has been dropped or moved. -/
inductive HeadOutcome where
  | send
  | gone (s : State)

/-- The re-home check (05 R93 to R97). -/
def rehomeCheck (q : QueueId) (r : RecordIx) (s : State) : HeadOutcome :=
  match (s.record r).dest with
  | none => .send
  | some i =>
    if (s.entry i).state = .barred then .gone (leaveQueue q r (countStation i .refused s))
    else match (s.entry i).attachment with
      | none => .gone (leaveQueue q r (countGlobal .unreachable s))
      | some p =>
        if p = queuePort q then .send
        else
          let q' := stationQueue p (rehomeClass (s.record r))
          if !(s.record r).rehomed && decide (Stamp.since s.time.ms (s.record r).arrival ≤ s.roam.rehomeLimit)
              && queueAdmits q' (s.record r).cellCount s then .gone (rehomeMove q q' r s)
          else .gone (leaveQueue q r (countGlobal .staleDrops s))

end Sys2Proof.Machine
end

