-- ==== Sys2Proof/Machine/PortOps.lean ====
section
/-! DEFINITION. Reception and port states: cells asked for and given back, the evaluation of a carriage port's state, the
effects of its changes, link events (01 1.1, 08 8.1, 8.2). -/

namespace Sys2Proof.Machine

open Sys2Proof

/-- Set the receive state of a port. -/
def setRx (p : Port) (x : RxState) (s : State) : State := s.modPort p (fun u => { u with rx := x })

/-- RESET_PORT of a port is in progress (08 R139): it is the item the management unit waits for. -/
def resettingPort (p : Port) (s : State) : Bool :=
  match s.mgmt.exec with
  | some f => decide (f.phase = .portReset p)
  | none => false

/-- A port may receive (01 R1). -/
def mayReceive (p : Port) (s : State) : Bool :=
  if isCarriage p then decide ((s.port p).state = .up ∨ (s.port p).state = .held)
  else running s && (s.port p).link && !resettingPort p s

/-- The frame in reception is abandoned: a STORING frame's record and cells return, and the unit enters `x` (01 R2, R3, R5). -/
def abandon (p : Port) (x : RxState) (s : State) : State :=
  match (s.port p).rx with
  | .storing r _ => setRx p x (releaseRecord r s)
  | _ => s

/-- A port event ends the right to receive: any frame being handled is abandoned uncounted and the unit goes to IDLE (01 R5). -/
def abandonReception (p : Port) (s : State) : State := setRx p .idle (abandon p .idle s)

/-- The frame in reception asks for one more cell (01 R2): given, or the frame is abandoned with reason NOMEM. `count` is the
number of the byte that asks. -/
def requestCell (p : Port) (r : RecordIx) (count : Nat) (s : State) : State :=
  if cellAllowed p s.mem then setRx p (.storing r count) (giveCell r s) else abandon p (.discarding .nomem) s

/-- A byte arrives that does not fit in the cells the frame holds (01 R2). At byte 1,537 and beyond no request is made: the
frame was abandoned at byte 1,523 (01 R3). -/
def outgrow (p : Port) (s : State) : State :=
  match (s.port p).rx with
  | .storing r _ =>
    if (s.record r).cellCount < Config.maxCells then
      requestCell p r ((s.record r).cellCount * Config.cellBytes + 1) s
    else s
  | _ => s

/-- The 1,523rd byte arrives (01 R3). -/
def tooLong (p : Port) (s : State) : State := abandon p (.discarding .long) s

/-- The requests that a frame of `n` bytes has not made yet when it ends, made in order (log 8). -/
def growTo (p : Port) (n : Nat) : Nat → State → State
  | 0, s => s
  | k + 1, s =>
    match (s.port p).rx with
    | .storing r _ =>
      if (s.record r).cellCount * Config.cellBytes < n ∧ (s.record r).cellCount < Config.maxCells then
        growTo p n k (outgrow p s)
      else s
    | _ => s

/-- The bytes up to the end of a frame of `n` bytes have arrived (01 R2, R3, log 8). -/
def arriveTo (p : Port) (n : Nat) (s : State) : State :=
  let s1 := growTo p n Config.maxCells s
  if Config.maxFrame < n then tooLong p s1 else s1

/-! ## Port state -/

/-- The state that enable, link status and hold give a carriage port (08 R132). -/
def evaluatedState (u : PortUnit) : PortState :=
  if !u.enable then .off else if !u.link then .down else if u.hold then .held else .up

/-- A carriage port that is UP or HELD. -/
def isUpOrHeld (st : PortState) : Bool := decide (st = .up ∨ st = .held)

/-- A change of a carriage port's state with the effects of Table 8-1 (08 R132). A port that has the state already is not
changed. -/
def changePort (p : Port) (st : PortState) (s : State) : State :=
  let old := (s.port p).state
  if old = st then s
  else
    let s1 := s.modPort p (fun u => { u with state := st })
    match st with
    | .off =>
      let s2 := abandonReception p s1
      startFlush p (if isUpOrHeld old then detachPort p s2 else s2)
    | .held => abandon p (.discarding .held) s1
    | .up | .down => s1

/-- A carriage port's state is evaluated (08 R132). -/
def evaluatePort (p : Port) (s : State) : State := changePort p (evaluatedState (s.port p)) s

/-! ## Link events -/

/-- The link-status line of a port takes a level (09 9.9). -/
def setLine (p : Port) (up : Bool) (s : State) : State := s.modLine (fun l => { l with lines := l.lines.set p up })

/-- Set the link status of a port. -/
def setLink (p : Port) (up : Bool) (s : State) : State := s.modPort p (fun u => { u with link := up })

/-- A link event takes place: the part is out of RESET and the line differs from the link status (08 R133). -/
def linkEvent (p : Port) (up : Bool) (s : State) : Bool := running s && decide ((s.port p).link ≠ up)

/-- A link-up event (08 R133, R134, R136). -/
def linkUp (p : Port) (s : State) : State :=
  let s1 := setLink p true (noteLinkChange p s)
  if isCarriage p ∧ (s1.port p).state = .down then changePort p (if (s1.port p).hold then .held else .up) s1 else s1

/-- A link-down event at a carriage port (08 R135). An UP or HELD port becomes DOWN with the four effects in order. An OFF port
records the status; a transmission it still has in progress is aborted all the same (07 R121, log 17). -/
def carriageLinkLoss (p : Port) (s : State) : State :=
  let s1 := setLink p false (noteLinkChange p s)
  if isUpOrHeld (s.port p).state then
    startFlush p (detachPort p (abortTransmission p (abandonReception p (s1.modPort p (fun u => { u with state := .down })))))
  else abortTransmission p s1

/-- A link-down event at a backbone port (08 R136). -/
def backboneLinkLoss (b : Side) (s : State) : State :=
  let p := sidePort b
  let s1 := setLink p false (noteLinkChange p s)
  raise .backboneLoss (startFlush p (emptySlot b (abortTransmission p (abandonReception p s1))))

/-! ## Reset -/

/-- Every block at its power-on values (09 R145), with what a reset of any kind keeps: the commands that wait, the device
identifier (09 R149) and the levels of the link-status lines. -/
def powerOn (s : State) : State :=
  { State.reset with
    pending := s.pending
    line := { State.reset.line with deviceId := s.line.deviceId, lines := s.line.lines } }

/-- Every port whose line shows a link is given a link-up event, in ascending port number (08 R133). -/
def linkUpLines (s : State) : State :=
  (List.finRange 58).foldl (fun t p => if s.line.lines.get p then linkUp p t else t) s

/-- The valid strap codes in ascending value (09 R148): exactly three of the six lines high. -/
def strapCodes : List Nat := [7, 11, 13, 14, 19, 21, 22, 25, 26, 28, 35, 37, 38, 41, 42, 44, 49, 50, 52, 56]

/-- The position of a strap code: its place among the valid codes, from 1; 0 for any other code (09 R148). -/
def strapPosition (code : BitVec 6) : Fin 21 :=
  if code.toNat ∈ strapCodes then Fin.ofNat 21 (strapCodes.idxOf code.toNat + 1) else 0

/-- Every port's link status is set absent (08 R133). -/
def clearLinks (s : State) : State := { s with ports := s.ports.mapAll (fun u => { u with link := false }) }

/-- A position of 0 makes STRAP_FAULT pending (09 R147, R154). -/
def checkStraps (s : State) : State := if s.line.position = 0 then raise .strapFault s else s

end Sys2Proof.Machine
end

