-- ==== Sys2Proof/Machine/DecisionFamily.lean ====
section
/-! DEFINITION. TAKE_FRAME: the arbiter (01 R8) and the decision on each kind of frame (01 1.4 to 1.7). -/

namespace Sys2Proof.Machine

open Sys2Proof

/-! ## The classifier -/

/-- A valid entry matches a frame (03 R44). -/
def zoneMatches (z : ZoneEntry) (addr : Addr) (h : Header) : Bool :=
  z.valid && decide (addr &&& z.fields.mask = z.fields.value &&& z.fields.mask)
  && (match z.fields.etype with
      | none => true
      | some t => decide (h.etype = t))
  && (match z.fields.vlan, h.tag with
      | none, _ => true
      | some _, none => false
      | some v, some t => decide (vlanId t = v))

/-- An entry's direction takes part in the classification of a leg (03 R45, R46). -/
def takesPart (l : Leg) (d : Direction) : Bool :=
  match l, d with
  | .up, .down => false
  | .down, .up => false
  | _, _ => true

/-- The zone of a frame: the first matching entry in ascending index order, or 15, DEFAULT (03 R45, R46). -/
def classify (l : Leg) (addr : Addr) (h : Header) (c : Classifier) : Fin 16 :=
  match c.zones.toList.find? (fun z => takesPart l z.fields.dir && zoneMatches z addr h) with
  | some z => z.fields.zone.castLE (by decide)
  | none => 15

/-- The grant of a zone in an entry's profile (03 R50). -/
def grantOf (i : StationIx) (zone : Fin 16) (s : State) : Grant := (s.profile (s.entry i).profile).grants.get zone

/-! ## Ends of a decision -/

/-- A decided frame that is dropped or released: record and cells return (01 R9). -/
def settleVerdict (r : RecordIx) (v : Verdict) : State :=
  match v with
  | .ok s => s
  | .error s => releaseRecord r s

/-- The record of an admitted frame takes its class and its destination (01 R16). -/
def setClass (r : RecordIx) (c : RecordClass) (d : Option StationIx) (s : State) : State :=
  s.modRecord r (fun x => { x with cls := some c, dest := d })

/-- Through traffic is offered to the other backbone port's through queue (01 R20); `b` is the side the frame goes out. -/
def throughOffer (b : Side) (r : RecordIx) (s : State) : Verdict :=
  if !(s.port (sidePort b)).link then .error (countGlobal .throughDrops s)
  else if queueAdmits (.through b) (s.record r).cellCount s then .ok (setClass r .through none (enqueue (.through b) r s))
  else .error (countDrop (.through b) s)

/-! ## Carriage-origin frames (01 1.5) -/

/-- The source entry of a carriage frame (01 R11 step 2): a hit, a learn with its LEARNED report, or LEARN_FAIL. -/
def sourceEntry (a : Addr) (p : Port) (s : State) : Except State (StationIx × State) :=
  match lookup s.table a with
  | some i => .ok (i, s)
  | none => match freeWay s.table a with
    | some i => .ok (i, postLearned i p (createEntry i a s))
    | none => .error (raise .learnFail (countGlobal .learnFail s))

/-- The up leg of an upstream frame and its admission (01 R14, R16). A gateway side of NONE cannot be met in SERVICE (09 R150);
the frame is then dropped uncounted (log 18). -/
def upstream (i : StationIx) (zone : Fin 16) (r : RecordIx) (s : State) : Verdict := do
  let g := grantOf i zone s
  let n := (s.record r).length
  let s ← testPermit .up g i s
  let s ← testPolicing .up g i s
  let s ← testAllowance g i s
  match s.line.gateway with
  | none => .error s
  | some b =>
    let q := QueueId.cls b g.cls
    if queueAdmits q (s.record r).cellCount s then
      let s := setClass r (.grant g.cls) none (enqueue q r s)
      .ok (countStation i .upFrames (chargeAllowance g i n (deductCredit .up g i n s)))
    else .error (raise .queueDrop (countDrop q s))

/-- The destination of a neighbour or downstream frame must be attached (01 R15, R19). -/
def testAttached (d : StationIx) (s : State) : Except State Port :=
  match (s.entry d).attachment with
  | some p => .ok p
  | none => .error (countGlobal .unreachable s)

/-- A BARRED destination drops the frame (01 R15, R19). -/
def testBarred (d : StationIx) (s : State) : Verdict :=
  if (s.entry d).state = .barred then .error (countStation d .refused s) else .ok s

/-- Admission to the queue of the destination's port, with the record's class, its destination and the held count (01 R16). -/
def admitTo (d : StationIx) (p : Port) (g : Grant) (r : RecordIx) (s : State) : Verdict :=
  let q := stationQueue p g.cls
  if queueAdmits q (s.record r).cellCount s then
    .ok ((setClass r (.grant g.cls) (some d) (enqueue q r s)).modEntry d (fun e => { e with heldCount := e.heldCount + 1 }))
  else .error (countDrop q s)

/-- A neighbour frame (01 R14, R15, R16), in the full order: UP permit, destination barred, destination permit, destination
attachment, up policing, down policing, up allowance, down allowance, admission, commit. -/
def neighbour (i d : StationIx) (r : RecordIx) (s : State) : Verdict := do
  let g := grantOf i 14 s
  let h := grantOf d 14 s
  let n := (s.record r).length
  let s ← testPermit .up g i s
  let s ← testBarred d s
  let s ← testPermit .down h d s
  let p ← testAttached d s
  let s ← testPolicing .up g i s
  let s ← testPolicing .down h d s
  let s ← testAllowance g i s
  let s ← testAllowance h d s
  let s ← admitTo d p h r s
  let s := deductCredit .down h d n (deductCredit .up g i n s)
  let s := chargeAllowance h d n (chargeAllowance g i n s)
  .ok (countStation d .downFrames (countStation i .upFrames s))

/-- The decision on a frame from a UP or HELD carriage port in SERVICE (01 R11 to R16). -/
def decideCarriage (p : Port) (r : RecordIx) (s : State) : Verdict := do
  let h := readHeader (frameBytes s.mem r)
  if h.etype.toNat = Config.mgmtType then .error (countGlobal .mgmtFromCarriage s)
  else
    let (i, s) ← sourceEntry h.src p s
    let s ← testBarred i s
    let s ← attachStep i p s
    let s := markSeen i s
    match lookup s.table h.dst with
    | some d => neighbour i d r s
    | none => upstream i (classify .up h.dst h s.cls) r s

/-! ## Backbone-origin frames (01 1.6, 1.7) -/

/-- A matching management frame's content is handed to the management unit (01 R17, 10 R156). -/
def handOver (b : Side) (r : RecordIx) (s : State) : State :=
  let bytes := frameBytes s.mem r
  if (readMgmtHeader bytes).kind ≠ 1 then countGlobal .mgmtBad s
  else if s.mgmt.input.length < Config.inputQueueSize then
    s.modMgmt (fun m =>
      { m with input := m.input ++ [{ bytes := bytes, arrival := b, source := (readHeader bytes).src }] })
  else raise .mgmtOverrun (countGlobal .mgmtOverrun s)

/-- A management frame from a backbone port (01 R17): handed when its target matches, and with target all offered to the
through queue of the other port as well; otherwise through traffic. -/
def decideManagement (b : Side) (r : RecordIx) (s : State) : State :=
  let m := readMgmtHeader (frameBytes s.mem r)
  if targetMatches s.line m then
    let s1 := handOver b r s
    if m.form = 0 then settleVerdict r (throughOffer (otherSide b) r s1) else releaseRecord r s1
  else settleVerdict r (throughOffer (otherSide b) r s)

/-- The queues a group frame from side `b` is offered to (01 R18): the other through queue, and the queue of each carriage
port that is UP or HELD with flood on. -/
def floodQueues (b : Side) (s : State) : List QueueId :=
  .through (otherSide b)
    :: (carriagePorts.filter (fun p => isUpOrHeld (s.port p).state && (s.port p).flood)).map floodQueue

/-- One copy of a group frame is offered to a queue (01 R18): admitted, or refused and counted. -/
def offerCopy (r : RecordIx) (s : State) (q : QueueId) : State :=
  if queueAdmits q (s.record r).cellCount s then enqueue q r s
  else match q with
    | .through b => if (s.port (sidePort b)).link then countDrop q s else countGlobal .throughDrops s
    | _ => countDrop q s

/-- A group frame from the backbone (01 R18, 06 R107). -/
def replicate (b : Side) (r : RecordIx) (s : State) : State :=
  let s1 := (floodQueues b s).foldl (offerCopy r) s
  if (s1.record r).holders = 0 then releaseRecord r s1 else setClass r .through none s1

/-- A downstream frame (01 R19). -/
def downstream (d : StationIx) (h : Header) (r : RecordIx) (s : State) : Verdict := do
  let n := (s.record r).length
  let s ← testBarred d s
  let p ← testAttached d s
  let g := grantOf d (classify .down h.src h s.cls) s
  let s ← testPermit .down g d s
  let s ← testPolicing .down g d s
  let s ← testAllowance g d s
  let s ← admitTo d p g r s
  .ok (countStation d .downFrames (chargeAllowance g d n (deductCredit .down g d n s)))

/-- A frame from a backbone port in SERVICE (01 R17 to R20). -/
def decideBackbone (b : Side) (r : RecordIx) (s : State) : State :=
  let h := readHeader (frameBytes s.mem r)
  if isManagement h then decideManagement b r s
  else if (lookup s.table h.src).isSome then releaseRecord r (countGlobal .localSource s)
  else if isGroup h.dst then replicate b r s
  else match lookup s.table h.dst with
    | some d => settleVerdict r (downstream d h r s)
    | none => settleVerdict r (throughOffer (otherSide b) r s)

/-- A frame from a backbone port in TRANSIT (01 R21). -/
def decideTransit (b : Side) (r : RecordIx) (s : State) : State :=
  if isManagement (readHeader (frameBytes s.mem r)) then decideManagement b r s
  else settleVerdict r (throughOffer (otherSide b) r s)

/-! ## The arbiter -/

/-- A port has a waiting frame. -/
def hasWaiting (s : State) (p : Port) : Bool := !(s.port p).intake.isEmpty

/-- The carriage ports in the order of examination, from the one after the last served, going from 57 back to 2 (01 R8). -/
def carriageOrder (last : Port) : List Port :=
  carriagePorts.filter (fun p => decide (last < p)) ++ carriagePorts.filter (fun p => decide (p ≤ last))

/-- The arbiter's choice (01 R8): the port, and the arbiter afterwards. -/
def arbitrate (s : State) : Option (Port × Arbiter) :=
  let a := s.arb
  let other := otherSide a.lastBackbone
  if hasWaiting s (sidePort other) then some (sidePort other, { a with lastBackbone := other })
  else if hasWaiting s (sidePort a.lastBackbone) then some (sidePort a.lastBackbone, a)
  else ((carriageOrder a.lastCarriage).find? (hasWaiting s)).map (fun p => (p, { a with lastCarriage := p }))

/-- The decision on a frame taken from a port (01 R9, R10, R21), under the part state in force. A carriage port's state is looked at
at the take: DESIGN CHOICE (log 28), a frame that waited while the port's link was lost and came back, and that the flush walk
has not reached, is decided. -/
def decideFrame (p : Port) (r : RecordIx) (s : State) : State :=
  match portClass p, s.line.part with
  | .backbone b, .service => decideBackbone b r s
  | .backbone b, .transit => decideTransit b r s
  | .backbone _, .reset => releaseRecord r s
  | _, .service =>
    if isUpOrHeld (s.port p).state then settleVerdict r (decideCarriage p r s) else releaseRecord r s
  | _, _ => releaseRecord r s

/-- The arbiter picks a port and the decision engine takes its oldest waiting frame and decides it whole (01 R8, R9). With no
frame waiting nothing is taken. -/
def takeOldest (s : State) : State :=
  match arbitrate s with
  | none => s
  | some (p, a) => match (s.port p).intake with
    | [] => s
    | r :: rest => decideFrame p r (({ s with arb := a }).modPort p (fun u => { u with intake := rest }))

/-- TAKE_FRAME (01 R8). -/
def execTakeFrame (s : State) : Host.Outcome State Fault Refusal := .next (takeOldest s)

end Sys2Proof.Machine
end

