-- ==== Sys2Proof/Machine/IntakeFamily.lean ====
section
/-! DEFINITION. Reception: FRAME_START, CELL_REQUEST, FRAME_TOO_LONG, FRAME_END (01 1.1, 1.2). -/

namespace Sys2Proof.Machine

open Sys2Proof

/-- The start of a frame at a port that may receive (01 R1): a HELD port discards; otherwise one record and one cell are asked
for, and without either the frame is discarded with reason NOMEM. A FREE record given starts from its power-on values (06 R102). -/
def beginReception (p : Port) (s : State) : State :=
  if isCarriage p ∧ (s.port p).state = .held then setRx p (.discarding .held) s
  else match freeRecord s.mem with
    | none => setRx p (.discarding .nomem) s
    | some r =>
      if cellAllowed p s.mem then
        setRx p (.storing r 1) (giveCell r (s.modRecord r (fun _ => { FrameRecord.fresh with stage := .receiving })))
      else setRx p (.discarding .nomem) s

/-- FRAME_START (01 R1). A port that may not receive ignores its line. -/
def execFrameStart (p : Port) (s : State) : Host.Outcome State Fault Refusal :=
  .next (if (s.port p).rx = .idle ∧ mayReceive p s then beginReception p s else s)

/-- CELL_REQUEST (01 R2). -/
def execCellRequest (p : Port) (s : State) : Host.Outcome State Fault Refusal := .next (outgrow p s)

/-- FRAME_TOO_LONG (01 R3). -/
def execFrameTooLong (p : Port) (s : State) : Host.Outcome State Fault Refusal := .next (tooLong p s)

/-- A frame that passed its checks joins its port's intake places when there is room (01 R6); its bytes stand in its cells. -/
def joinIntake (p : Port) (r : RecordIx) (bytes : List Byte) (s : State) : State :=
  let s1 := (writeFrame r bytes s).modRecord r (fun x =>
    { x with stage := .deciding, length := bytes.length, ingress := p, arrival := s.time.ms, rehomed := false })
  countPort p .rxFrames (s1.modPort p (fun u => { u with intake := u.intake ++ [r] }))

/-- The counter of a discarded frame (01 R4). -/
def discardCounter : DiscardReason → PortCounter
  | .long => .rxLong
  | .nomem => .rxNomem
  | .held => .rxHeld

/-- The settling of a frame at its end (01 R4): the first case that applies. -/
def settleFrame (p : Port) (bytes : List Byte) (good : Bool) (s : State) : State :=
  match (s.port p).rx with
  | .idle => s
  | .discarding why => setRx p .idle (countPort p (discardCounter why) s)
  | .storing r _ =>
    let s1 := setRx p .idle s
    if bytes.length < Config.minFrame then countPort p .rxShort (releaseRecord r s1)
    else if !good then countPort p .rxCheck (releaseRecord r s1)
    else if isGroup (readHeader bytes).src then countPort p .rxBadsrc (releaseRecord r s1)
    else if (s.port p).intake.length < Config.intakePlaces then joinIntake p r bytes s1
    else countPort p .rxOverrun (releaseRecord r s1)

/-- A frame cannot end before the last byte already counted (log 2). -/
def endsTooSoon (p : Port) (n : Nat) (s : State) : Bool :=
  match (s.port p).rx with
  | .storing _ count => decide (n < count)
  | _ => false

/-- FRAME_END (01 R4, R6), with the cell requests and the length check of the bytes that no command named (01 R2, R3, log 8). -/
def execFrameEnd (p : Port) (bytes : List Byte) (good : Bool) (s : State) : Host.Outcome State Fault Refusal :=
  .next (if endsTooSoon p bytes.length s then s else settleFrame p bytes good (arriveTo p bytes.length s))

end Sys2Proof.Machine
end

