-- ==== Sys2Proof/Machine/LineItems.lean ====
section
/-! DEFINITION. The items of the line controller and the settings of the timebase: IDENTIFY, READ_STATUS, START, STAND_DOWN,
RESTART, SET_LINE, SET_TIMING (09, 10 R162, R165). -/

namespace Sys2Proof.Machine

open Sys2Proof

/-! ## Bringing values into range -/

/-- A value brought into a range. -/
def clampTo (lo hi v : Nat) : Nat := max lo (min hi v)

/-- A value outside a range. -/
def outside (lo hi v : Nat) : Bool := decide (v < lo ∨ hi < v)

/-- A setting after an optional write: kept when absent, brought into range when present. -/
def written (lo hi : Nat) (o : Option Nat) (old : Nat) : Nat :=
  match o with
  | none => old
  | some v => clampTo lo hi v

/-- An optional write was brought into range. -/
def wasOutside (lo hi : Nat) (o : Option Nat) : Bool :=
  match o with
  | none => false
  | some v => outside lo hi v

/-! ## IDENTIFY and READ_STATUS -/

/-- The code of a part state: 1 TRANSIT, 2 SERVICE (12 R173). No item runs in RESET. -/
def partCode : PartState → Nat
  | .reset => 0
  | .transit => 1
  | .service => 2

/-- IDENTIFY data (12 R174). -/
def identifyData (s : State) : List Byte :=
  addrBytes s.line.deviceId ++ beBytes 1 s.line.strapCode.toNat ++ beBytes 1 s.line.position.val
  ++ beBytes 1 (partCode s.line.part)

/-- IDENTIFY (10 R165). -/
def execIdentify (s : State) : Host.Outcome State Fault Refusal :=
  .next (runItem (hasCode 0x01) parseNone (fun _ s => .done s (identifyData s) false) s)

/-- The number whose bit n is set when port n's link is present (12 R174). -/
def linkBits (s : State) : Nat :=
  (List.finRange 58).foldr (fun p n => onOffCode (s.port p).link + 2 * n) 0

/-- The number of FREE frame records. -/
def freeRecords (m : FrameMemory) : Nat := m.records.toList.countP (fun x => decide (x.stage = .free))

/-- READ_STATUS data (12 R174). -/
def statusData (s : State) : List Byte :=
  beBytes 1 (partCode s.line.part) ++ beBytes 1 s.line.position.val ++ beBytes 1 (sideCode s.line.gateway)
  ++ beBytes 2 s.time.seconds.toNat ++ beBytes 2 s.time.ms.toNat ++ beBytes 2 s.time.divisor
  ++ beBytes 2 s.mem.freeCount ++ beBytes 2 (freeRecords s.mem) ++ beBytes 2 s.mem.reserve
  ++ beBytes 1 s.table.reports.length ++ beBytes 8 (linkBits s) ++ beBytes 1 s.mgmt.input.length

/-- READ_STATUS (10 R165). -/
def execReadStatus (s : State) : Host.Outcome State Fault Refusal :=
  .next (runItem (hasCode 0x02) parseNone (fun _ s => .done s (statusData s) false) s)

/-! ## START, STAND_DOWN, RESTART, SET_LINE -/

/-- START (09 R152): in TRANSIT with a position and a gateway side, the part enters SERVICE and every carriage port is
evaluated. -/
def startEffect (s : State) : ItemEffect :=
  if s.line.part = .transit ∧ s.line.position ≠ 0 ∧ s.line.gateway.isSome then
    .done (carriagePorts.foldl (fun t p => evaluatePort p t) (s.modLine (fun l => { l with part := .service }))) [] false
  else .refuse .wrongState

/-- START. -/
def execStart (s : State) : Host.Outcome State Fault Refusal :=
  .next (runItem (hasCode 0x03) parseNone (fun _ s => startEffect s) s)

/-- A class flush starts at a backbone port (06 R114). -/
def startClassFlush (b : Side) (s : State) : State := s.modSide b (fun x => { x with classFlush := some 0 })

/-- STAND_DOWN (09 R153): in SERVICE, the part enters TRANSIT, every carriage port becomes OFF and has a flush walk, each
backbone port a class flush; the item waits for all of them. A frame that waits behind a walk already past the intake places is
flushed (01 R7). The ports follow one another in ascending number, so the cells of their frames join the free cell list in that
order: DESIGN CHOICE (log 26). -/
def standDownEffect (s : State) : ItemEffect :=
  if s.line.part = .service then
    let s1 := carriagePorts.foldl (fun t p => startFlush p (flushLateIntake p (changePort p .off t)))
      (s.modLine (fun l => { l with part := .transit }))
    .wait (startClassFlush .aft (startClassFlush .fore s1)) .standDown
  else .refuse .wrongState

/-- STAND_DOWN. -/
def execStandDown (s : State) : Host.Outcome State Fault Refusal :=
  .next (runItem (hasCode 0x04) parseNone (fun _ s => standDownEffect s) s)

/-- RESTART (09 R154, 10 R167): finishes with DONE at once; the restart follows its response. -/
def execRestart (s : State) : Host.Outcome State Fault Refusal :=
  .next (runItem (hasCode 0x05) parseNone
    (fun _ s => .done (s.modMgmt (fun m => { m with restart := .armed })) [] false) s)

/-- SET_LINE (09 R150): in TRANSIT the gateway side is written. -/
def setLineEffect (b : Side) (s : State) : ItemEffect :=
  if s.line.part = .transit then .done (s.modLine (fun l => { l with gateway := some b })) [] false
  else .refuse .wrongState

/-- SET_LINE. -/
def execSetLine (s : State) : Host.Outcome State Fault Refusal :=
  .next (runItem (hasCode 0x06) parseSetLine setLineEffect s)

/-! ## SET_TIMING -/

/-- The settings SET_TIMING writes, each brought into its range (04 R60, 05 R80, 02 R37, 11 R170). -/
def timingWritten (t : TimingFields) (s : State) : State :=
  { s with
    time := { s.time with divisorWritten := match t.divisor with | none => s.time.divisorWritten | some d => some d }
    roam := { holdOff := written 0 1023 t.holdOff s.roam.holdOff, flapLimit := written 1 15 t.flapLimit s.roam.flapLimit,
              rehomeLimit := written 0 255 t.rehomeLimit s.roam.rehomeLimit }
    table := { s.table with learnedLimit := written 1 255 t.learnedLimit s.table.learnedLimit,
                            admittedLimit := written 1 4095 t.admittedLimit s.table.admittedLimit }
    notice := { s.notice with spacing := written 1 255 t.spacing s.notice.spacing } }

/-- Some field of a SET_TIMING was brought into range. -/
def timingClamped (t : TimingFields) : Bool :=
  wasOutside 0 1023 t.holdOff || wasOutside 1 15 t.flapLimit || wasOutside 0 255 t.rehomeLimit
  || wasOutside 1 255 t.learnedLimit || wasOutside 1 4095 t.admittedLimit || wasOutside 1 255 t.spacing

/-- SET_TIMING (10 R162). -/
def execSetTiming (s : State) : Host.Outcome State Fault Refusal :=
  .next (runItem (hasCode 0x07) parseTiming (fun t s => .done (timingWritten t s) [] (timingClamped t)) s)

end Sys2Proof.Machine
end

