-- ==== Sys2Proof/Machine/LinkFamily.lean ====
section
/-! DEFINITION. The link events: CARRIAGE_LINK_UP, CARRIAGE_LINK_DOWN, BACKBONE_LINK_UP, BACKBONE_LINK_DOWN (08 8.2). While the
part is in RESET the lines are not read (08 R133): the level is kept as a pin and no event takes place. -/

namespace Sys2Proof.Machine

open Sys2Proof

/-- The link-status line of a port shows a link: the level is kept, and a change against the link status is a link-up event. -/
def lineUp (p : Port) (s : State) : State :=
  if linkEvent p true s then linkUp p (setLine p true s) else setLine p true s

/-- CARRIAGE_LINK_UP (08 R134). -/
def execCarriageLinkUp (p : Port) (s : State) : Host.Outcome State Fault Refusal :=
  if isCarriage p then .next (lineUp p s) else .refused .notACarriagePort

/-- CARRIAGE_LINK_DOWN (08 R135). -/
def execCarriageLinkDown (p : Port) (s : State) : Host.Outcome State Fault Refusal :=
  if isCarriage p then
    .next (if linkEvent p false s then carriageLinkLoss p (setLine p false s) else setLine p false s)
  else .refused .notACarriagePort

/-- BACKBONE_LINK_UP (08 R136). -/
def execBackboneLinkUp (b : Side) (s : State) : Host.Outcome State Fault Refusal := .next (lineUp (sidePort b) s)

/-- BACKBONE_LINK_DOWN (08 R136). -/
def execBackboneLinkDown (b : Side) (s : State) : Host.Outcome State Fault Refusal :=
  .next (if linkEvent (sidePort b) false s then backboneLinkLoss b (setLine (sidePort b) false s)
    else setLine (sidePort b) false s)

end Sys2Proof.Machine
end

