-- ==== Sys2Proof/Machine/MgmtFamily.lean ====
section
/-! DEFINITION. MGMT_FRAME_BEGIN, UNKNOWN_ITEM_CODE and RESPONSE_PLACE (10 R157, R158, R166). -/

namespace Sys2Proof.Machine

open Sys2Proof

/-- The items of a request frame whose body header is good (10 R157): version 1, item count 1 to 8, every item within the bytes
before the frame check sequence. -/
def goodItems (bytes : List Byte) : Option (List RawItem) :=
  let m := readMgmtHeader bytes
  if m.version = 1 ∧ 1 ≤ m.count ∧ m.count ≤ 8 then
    splitItems m.count ((bytes.take (bytes.length - 4)).drop ((readHeader bytes).body + 13))
  else none

/-- The frame in execution that a request frame becomes (10 R157): with a bad header its response is built at once. -/
def beginExec (s : State) (f : MgmtFrame) : ExecFrame :=
  match goodItems f.bytes with
  | some items => { frame := f, items := items, pointer := 0, answers := [], phase := .ready }
  | none => { frame := f, items := [], pointer := 0, answers := [], phase := .response (buildResponse s.line f true []) }

/-- The oldest waiting frame becomes the frame in execution (10 R157); none does while a restart is to come (09 R154). -/
def beginFrame (s : State) : State :=
  match s.mgmt.input with
  | [] => s
  | f :: rest =>
    if running s ∧ s.mgmt.exec = none ∧ s.mgmt.restart = .none then
      s.modMgmt (fun m => { m with input := rest, exec := some (beginExec s f) })
    else s

/-- MGMT_FRAME_BEGIN (10 R157). -/
def execMgmtFrameBegin (s : State) : Host.Outcome State Fault Refusal := .next (beginFrame s)

/-- UNKNOWN_ITEM_CODE (10 R158): the item finishes with BAD_ITEM. -/
def execUnknownItemCode (s : State) : Host.Outcome State Fault Refusal :=
  .next (runItem (α := Unit) (fun it => !knownCode it) (fun _ => none) (fun _ _ => .refuse .badItem) s)

/-- The restart after the response of a RESTART has been placed at a side, or discarded (09 R154). -/
def restartAfter (r : RestartPhase) (nxt : RestartPhase) : RestartPhase := if r = .armed then nxt else r

/-- The waiting response is placed in the output slot of its arrival port when the slot is empty, or discarded when the port's
link is absent; either ends the frame in execution (10 R166). With the slot occupied it waits. -/
def placeResponse (s : State) : State :=
  match s.mgmt.exec with
  | none => s
  | some f => match f.phase with
    | .response content =>
      let b := f.frame.arrival
      if !(s.port (sidePort b)).link then
        s.modMgmt (fun m => { m with exec := none, restart := restartAfter m.restart .due })
      else if (s.side b).slot.isNone then
        (s.modSide b (fun x => { x with slot := some content })).modMgmt
          (fun m => { m with exec := none, restart := restartAfter m.restart (.sent b) })
      else s
    | _ => s

/-- RESPONSE_PLACE (10 R166). -/
def execResponsePlace (s : State) : Host.Outcome State Fault Refusal := .next (placeResponse s)

end Sys2Proof.Machine
end

