-- ==== Sys2Proof/Machine/NoticeFamily.lean ====
section
/-! DEFINITION. The notice unit: SET_NOTICES, RETIRE_NOTICES, NOTICE_SEND (11, 12 R175). -/

namespace Sys2Proof.Machine

open Sys2Proof

/-- The destination that SET_NOTICES records: the address, with the arrival port and the VLAN tag of its request (11 R169). -/
def noticeDest (a : Addr) (f : ExecFrame) : NoticeDest :=
  { addr := a, port := f.frame.arrival, tag := (readHeader f.frame.bytes).tag }

/-- The notice unit after SET_NOTICES (11 R169): destination, mode and enables where carried; writing AUTO clears every
in-service flag. -/
def noticesWritten (w : NoticeWrite) (f : Option ExecFrame) (n : NoticeUnit) : NoticeUnit :=
  let enabled := w.enables.foldl (fun t x => t.modify (sourceIx x.1) (fun g => { g with enable := x.2 })) n.flags
  { n with
    dest := match w.dest, f with
      | some a, some g => some (noticeDest a g)
      | _, _ => n.dest
    mode := w.mode.getD n.mode
    flags := if w.mode = some .auto then enabled.mapAll (fun g => { g with inService := false }) else enabled }

/-- SET_NOTICES (11 R169). -/
def execSetNotices (s : State) : Host.Outcome State Fault Refusal :=
  .next (runItem (hasCode 0x19) parseNoticeWrite (fun w s => .done (s.modNotice (noticesWritten w s.mgmt.exec)) [] false) s)

/-- The in-service flag of each named source is cleared (11 R172). -/
def retired (l : List Source) (n : NoticeUnit) : NoticeUnit :=
  { n with flags := l.foldl (fun t x => t.modify (sourceIx x) (fun g => { g with inService := false })) n.flags }

/-- RETIRE_NOTICES (11 R172). -/
def execRetireNotices (s : State) : Host.Outcome State Fault Refusal :=
  .next (runItem (hasCode 0x1A) parseRetire (fun l s => .done (s.modNotice (retired l)) [] false) s)

/-! ## Sending a notice -/

/-- Some source is pending, enabled and not in service (11 R171 condition 1). -/
def somethingToReport (n : NoticeUnit) : Bool := n.flags.toList.any SourceFlags.listed

/-- No response waits for the output slot of a side (11 R171 condition 4). -/
def noResponseWaits (b : Side) (s : State) : Bool :=
  match s.mgmt.exec with
  | none => true
  | some f => match f.phase with
    | .response _ => decide (f.frame.arrival ≠ b)
    | _ => true

/-- The conditions of 11 R171 under which a notice goes to a destination. -/
def noticeReady (d : NoticeDest) (s : State) : Bool :=
  running s && somethingToReport s.notice && !s.notice.spacingRunning && (s.side d.port).slot.isNone
  && (s.port (sidePort d.port)).link && noResponseWaits d.port s

/-- The sources field of a notice: one bit for each listed source (12 R175). -/
def sourceBits (n : NoticeUnit) : Nat := presence (n.flags.toList.map SourceFlags.listed)

/-- The changed ports a notice carries: the members of the set in ascending order when LINK_CHANGE is listed, none otherwise
(12 R175). -/
def changedPorts (n : NoticeUnit) : List Port :=
  if (n.flags.get (sourceIx .linkChange)).listed then (List.finRange 58).filter (fun p => n.changed.get p) else []

/-- The notice frame (11 R171, 12 R175). -/
def noticeFrame (d : NoticeDest) (s : State) : List Byte :=
  let ports := changedPorts s.notice
  padFrame (frameOpening d.addr s.line.deviceId d.tag
    ++ bodyHeader 3 s.line (s.notice.count + 1).toNat 0
    ++ beBytes 2 (sourceBits s.notice) ++ beBytes 1 s.table.reports.length ++ beBytes 2 s.mem.freeCount
    ++ beBytes 1 ports.length ++ ports.flatMap (fun p => beBytes 1 p.val))

/-- The notice unit after a notice (11 R170, R171): the listed sources are cleared and, in EXPLICIT mode, in service; the
changed-port set is emptied when LINK_CHANGE was listed; the count rises; the spacing runs from now. -/
def noticesCleared (now : Stamp) (n : NoticeUnit) : NoticeUnit :=
  { n with
    flags := n.flags.mapAll (fun f =>
      if f.listed then { f with pending := false, inService := decide (n.mode = .explicit) } else f)
    changed := if (n.flags.get (sourceIx .linkChange)).listed then Tab.fill 58 false else n.changed
    count := n.count + 1
    spacingRunning := true
    placedAt := now }

/-- A notice is built and placed when the conditions hold (11 R171). -/
def sendNotice (s : State) : State :=
  match s.notice.dest with
  | none => s
  | some d =>
    if noticeReady d s then
      (s.modSide d.port (fun x => { x with slot := some (noticeFrame d s) })).modNotice (noticesCleared s.time.ms)
    else s

/-- NOTICE_SEND (11 R171). -/
def execNoticeSend (s : State) : Host.Outcome State Fault Refusal := .next (sendNotice s)

end Sys2Proof.Machine
end

