-- ==== Sys2Proof/Machine/PortItems.lean ====
section
/-! DEFINITION. The items of ports, queues and counters: SET_PORT, RESET_PORT, SET_QUEUE, READ_COUNTERS (08 8.3 to 8.5, 06 R110). -/

namespace Sys2Proof.Machine

open Sys2Proof

/-- A limit of a queue is written, at most 2,048 (06 R109). -/
def writeLimit (q : QueueId) (v : Nat) (s : State) : State :=
  s.modQueue q (fun x => { x with limit := clampTo 0 Config.queueLimitMax v })

/-- The limit of a queue named by port and kind; a kind the port does not have names none. -/
def writeNamedLimit (p : Port) (s : State) (x : QueueKind × Nat) : State :=
  match queueNamed p x.1 with
  | none => s
  | some q => writeLimit q x.2 s

/-- The values SET_PORT writes (08 R137). -/
def portWritten (w : PortWrite) (s : State) : State :=
  w.limits.foldl (writeNamedLimit w.port) (s.modPort w.port (fun u =>
    { u with enable := w.enable.getD u.enable, hold := w.hold.getD u.hold, flood := w.flood.getD u.flood,
             seatLimit := written 1 4 w.seatLimit u.seatLimit }))

/-- A seat limit or queue limit of a SET_PORT was brought into range. -/
def portClamped (w : PortWrite) : Bool :=
  wasOutside 1 4 w.seatLimit || w.limits.any (fun x => outside 0 Config.queueLimitMax x.2)

/-- SET_PORT (08 R137, R138): refused while a flush walk of the port runs; in SERVICE a carriage port is evaluated, and the item
waits for the flush walk when that turns the port OFF from another state. -/
def setPortEffect (w : PortWrite) (s : State) : ItemEffect :=
  if (s.port w.port).flush.isSome then .refuse .busy
  else
    let s1 := portWritten w s
    if isCarriage w.port ∧ s.line.part = .service then
      let s2 := evaluatePort w.port s1
      if (s1.port w.port).state ≠ .off ∧ (s2.port w.port).state = .off then .wait s2 (.portOff w.port (portClamped w))
      else .done s2 [] (portClamped w)
    else .done s1 [] (portClamped w)

/-- SET_PORT. -/
def execSetPort (s : State) : Host.Outcome State Fault Refusal := .next (runItem (hasCode 0x15) parsePortWrite setPortEffect s)

/-- RESET_PORT (08 R139): a carriage port not in TRANSIT, no flush walk running; the port stops and its flush walk starts. -/
def resetPortEffect (p : Port) (s : State) : ItemEffect :=
  if isCarriage p ∧ s.line.part ≠ .service then .refuse .wrongState
  else if (s.port p).flush.isSome then .refuse .busy
  else if isCarriage p then .wait (startFlush p (changePort p .off s)) (.portReset p)
  else .wait (startFlush p (abandonReception p s)) (.portReset p)

/-- RESET_PORT. -/
def execResetPort (s : State) : Host.Outcome State Fault Refusal :=
  .next (runItem (hasCode 0x16) (parseIndex 58) resetPortEffect s)

/-- A quantum of a queue is written, 64 to 16,383 (07 R129); a queue without a quantum takes none. -/
def writeQuantum (q : QueueId) (v : Nat) (s : State) : State :=
  match drrOf q with
  | none => s
  | some (b, d) => s.modSide b (fun x => { x with quantum := x.quantum.set (drrIx d) (clampTo 64 16383 v) })

/-- The reserve is written, at most 256 (06 R100); MEMORY_LOW becomes pending when the free cell count is at or below it
(06 R101). -/
def writeReserve (v : Nat) (s : State) : State :=
  let s1 := { s with mem := { s.mem with reserve := clampTo 0 256 v } }
  if s1.mem.freeCount ≤ s1.mem.reserve then raise .memoryLow s1 else s1

/-- An optional value written by `f`. -/
def writeIf (o : Option Nat) (f : Nat → State → State) (s : State) : State :=
  match o with
  | none => s
  | some v => f v s

/-- The values SET_QUEUE writes (06 R110). -/
def queueWritten (w : QueueWrite) (s : State) : State :=
  let s1 := match w.queue.bind (fun x => queueNamed x.1 x.2) with
    | none => s
    | some q => writeIf w.quantum (writeQuantum q) (writeIf w.limit (writeLimit q) s)
  writeIf w.reserve writeReserve s1

/-- A value of a SET_QUEUE was brought into range. -/
def queueClamped (w : QueueWrite) : Bool :=
  wasOutside 0 Config.queueLimitMax w.limit || wasOutside 64 16383 w.quantum || wasOutside 0 256 w.reserve

/-- SET_QUEUE (06 R110). -/
def execSetQueue (s : State) : Host.Outcome State Fault Refusal :=
  .next (runItem (hasCode 0x17) parseQueueWrite (fun w s => .done (queueWritten w s) [] (queueClamped w)) s)

/-- Four bytes for each counter (12 R174). -/
def counterBytes (l : List Nat) : List Byte := l.flatMap (beBytes 4)

/-- READ_COUNTERS (08 R143): every counter of the group as it stands; with the clear flag each returns to 0 in the same event. -/
def readCountersEffect (w : CounterGroup × Bool) (s : State) : ItemEffect :=
  match w.1 with
  | .port p =>
    .done (if w.2 then s.modPort p (fun u => { u with counters := Tab.fill 10 0 }) else s)
      (counterBytes (s.port p).counters.toList) false
  | .queue p k => match queueNamed p k with
    | none => .refuse .badItem
    | some q =>
      .done (if w.2 then s.modQueue q (fun x => { x with drops := 0 }) else s) (counterBytes [(s.queue q).drops]) false
  | .station r => match resolve s r with
    | .error st => .refuse st
    | .ok i =>
      .done (if w.2 then s.modEntry i (fun e => { e with counters := Tab.fill 8 0 }) else s)
        (counterBytes (s.entry i).counters.toList) false
  | .global =>
    .done (if w.2 then { s with globals := Tab.fill 9 0 } else s) (counterBytes s.globals.toList) false

/-- READ_COUNTERS. -/
def execReadCounters (s : State) : Host.Outcome State Fault Refusal :=
  .next (runItem (hasCode 0x18) parseCounters readCountersEffect s)

end Sys2Proof.Machine
end

