-- ==== Sys2Proof/Machine/ResetFamily.lean ====
section
/-! DEFINITION. RESET_PIN_ASSERT, RESET_PIN_RELEASE and RESTART_EVENT (09 R145, R147, R154). -/

namespace Sys2Proof.Machine

open Sys2Proof

/-- Assertion of the reset pin (09 R145). The relay then disconnects the BF and BA transceivers from the line, so their
link-status lines show no link (09 R146, log 5). Asserted again in RESET it changes nothing further. -/
def assertReset (s : State) : State :=
  if s.line.part = .reset then s else setLine 1 false (setLine 0 false (powerOn s))

/-- RESET_PIN_ASSERT. -/
def execResetPinAssert (s : State) : Host.Outcome State Fault Refusal := .next (assertReset s)

/-- The release of the reset pin (09 R147, 08 R133): straps read and position decoded, STRAP_FAULT on position 0, line-join
output released, part state TRANSIT, link-ups of the ports whose line shows a link. -/
def releaseReset (straps : BitVec 6) (s : State) : State :=
  if s.line.part = .reset then
    let s1 := checkStraps (s.modLine (fun l => { l with strapCode := straps, position := strapPosition straps }))
    linkUpLines (clearLinks (s1.modLine (fun l => { l with lineJoin := false, part := .transit })))
  else s

/-- RESET_PIN_RELEASE. -/
def execResetPinRelease (straps : BitVec 6) (s : State) : Host.Outcome State Fault Refusal := .next (releaseReset straps s)

/-- The restart that follows a RESTART item (09 R154), made when it is due: power-on values with the strap code, the position
and the device identifier kept, part state TRANSIT, line-join output still released. -/
def restartPart (s : State) : State :=
  if s.mgmt.restart = .due ∧ running s then
    let s1 := (powerOn s).modLine (fun l =>
      { l with part := .transit, lineJoin := false, strapCode := s.line.strapCode, position := s.line.position })
    linkUpLines (checkStraps s1)
  else s

/-- RESTART_EVENT. -/
def execRestartEvent (s : State) : Host.Outcome State Fault Refusal := .next (restartPart s)

end Sys2Proof.Machine
end

