-- ==== Sys2Proof/Machine/StationItems.lean ====
section
/-! DEFINITION. The items of the station table: ADMIT, BAR, RELEASE, SET_ALLOWANCE in its two forms, TOP_UP, UNPIN, READ_STATION,
FIND_STATION, TAKE_REPORTS (02 2.4, 2.7, 04 4.4, 05 R89). -/

namespace Sys2Proof.Machine

open Sys2Proof

/-- The effect of an item that names a station: refused with the status of 02 R29, or done on the entry. -/
def onStation (r : StationRef) (s : State) (k : StationIx → ItemEffect) : ItemEffect :=
  match resolve s r with
  | .error st => .refuse st
  | .ok i => k i

/-! ## ADMIT and the allowance -/

/-- The allowance of an entry set from a parameter (02 R29, 04 R70, R74, R75, R77): absent makes it unmetered, a value metered; a
value other than 0 and an absent one clear spent and the SPENT pending flag, 0 sets spent. -/
def meteredWith (v : Option Nat) (e : StationEntry) : StationEntry :=
  match v with
  | none => { e with metered := false, allowance := 0, spent := false, spentPending := false }
  | some n =>
    if n = 0 then { e with metered := true, allowance := 0, spent := true }
    else { e with metered := true, allowance := min Config.allowanceMax n, spent := false, spentPending := false }

/-- An allowance parameter is above the largest allowance. -/
def allowanceClamped (v : Option Nat) : Bool :=
  match v with
  | none => false
  | some n => decide (Config.allowanceMax < n)

/-- An entry as ADMIT leaves it (02 R29): credits are the bursts of the new profile unless it was ADMITTED already. -/
def admitted (p : Fin 32) (v : Option Nat) (s : State) (e : StationEntry) : StationEntry :=
  let r := (s.profile p).rates
  let e1 := if e.state = .admitted then e
    else { e with upCredit := (r.upBurst : Nat), downCredit := (r.downBurst : Nat), lastRefill := s.time.tick }
  meteredWith v { e1 with state := .admitted, profile := p, lastSeen := s.time.seconds, expiryDue := false }

/-- ADMIT (02 R29, R30). -/
def admitEffect (w : StationRef × Fin 32 × Option Nat) (s : State) : ItemEffect :=
  match resolveOrCreate s w.1 with
  | .error st => .refuse st
  | .ok (i, t) => .done (t.modEntry i (admitted w.2.1 w.2.2 t)) (beBytes 2 i.val) (allowanceClamped w.2.2)

/-- ADMIT. -/
def execAdmitStation (s : State) : Host.Outcome State Fault Refusal := .next (runItem (hasCode 0x0C) parseAdmit admitEffect s)

/-! ## BAR and RELEASE -/

/-- An entry becomes BARRED, its station is detached, and the purge walk starts (02 R31). -/
def barEntry (i : StationIx) (s : State) : State :=
  let s1 := (detachStation i s).modEntry i (fun e => { e with state := .barred, recentlyMoved := false, expiryDue := false })
  { s1 with purge := some { station := i, visits := 0 } }

/-- BAR (02 R30, R31): it waits for the end of the purge walk. -/
def barEffect (r : StationRef) (s : State) : ItemEffect :=
  match resolveOrCreate s r with
  | .error st => .refuse st
  | .ok (i, t) => .wait (barEntry i t) (.barWalk i)

/-- BAR. -/
def execBarStation (s : State) : Host.Outcome State Fault Refusal := .next (runItem (hasCode 0x0D) parseRef barEffect s)

/-- RELEASE (02 R32): as BAR, and then it waits for the entry to be freed. -/
def execReleaseStation (s : State) : Host.Outcome State Fault Refusal :=
  .next (runItem (hasCode 0x0E) parseRef (fun r s => onStation r s (fun i => .wait (barEntry i s) (.releaseWalk i))) s)

/-! ## SET_ALLOWANCE, TOP_UP, UNPIN -/

/-- SET_ALLOWANCE with a value (04 R74): every SET_ALLOWANCE item but the one of eight parameter bytes. -/
def execSetAllowance (s : State) : Host.Outcome State Fault Refusal :=
  .next (runItem (fun it => hasCode 0x0F it && decide (it.params.length ≠ 8)) parseRefValue (fun w s =>
    onStation w.1 s (fun i => .done (s.modEntry i (meteredWith (some w.2))) [] (allowanceClamped (some w.2)))) s)

/-- SET_ALLOWANCE without a value (04 R75): eight parameter bytes. -/
def execSetAllowanceUnmetered (s : State) : Host.Outcome State Fault Refusal :=
  .next (runItem (fun it => hasCode 0x0F it && decide (it.params.length = 8)) parseRef (fun r s =>
    onStation r s (fun i => .done (s.modEntry i (meteredWith none)) [] false)) s)

/-- The allowance after a top-up, saturating (04 R76). -/
def toppedUp (a v : Nat) : Nat := min Config.allowanceMax (a + min Config.allowanceMax v)

/-- A top-up whose amount or sum was brought into range (04 R76). -/
def topUpClamped (a v : Nat) : Bool := decide (Config.allowanceMax < v ∨ Config.allowanceMax < a + v)

/-- TOP_UP (04 R76, R77): a metered entry gains the amount and is no longer spent; an unmetered one is refused. -/
def topUpEffect (w : StationRef × Nat) (s : State) : ItemEffect :=
  onStation w.1 s (fun i =>
    let a := (s.entry i).allowance
    if (s.entry i).metered then
      .done (s.modEntry i (fun e => { e with allowance := toppedUp a w.2, spent := false, spentPending := false }))
        (beBytes 3 (toppedUp a w.2)) (topUpClamped a w.2)
    else .refuse .wrongState)

/-- TOP_UP. -/
def execTopUp (s : State) : Host.Outcome State Fault Refusal := .next (runItem (hasCode 0x10) parseTopUp topUpEffect s)

/-- UNPIN (05 R89). -/
def execUnpin (s : State) : Host.Outcome State Fault Refusal :=
  .next (runItem (hasCode 0x11) parseRef (fun r s => onStation r s (fun i =>
    .done (s.modEntry i (fun e => { e with pinned := false, flapCount := 0, pinnedPending := none })) [] false)) s)

/-! ## READ_STATION, FIND_STATION -/

/-- The code of an entry state (12 R173); no request returns a FREE entry. -/
def entryCode : EntryState → Nat
  | .free => 0
  | .learned => 1
  | .admitted => 2
  | .barred => 3

/-- An optional port, 0 when absent (12 R174). -/
def portByte (p : Option Port) : List Byte := beBytes 1 (match p with | none => 0 | some q => q.val)

/-- A credit in four bytes, two's complement (12 R174). -/
def creditBytes (c : Int) : List Byte := beBytes 4 (BitVec.ofInt 32 c).toNat

/-- READ_STATION data (12 R174). -/
def stationData (i : StationIx) (e : StationEntry) : List Byte :=
  beBytes 2 i.val ++ beBytes 1 (entryCode e.state) ++ addrBytes e.addr
  ++ beBytes 1 (presence [e.attachment.isSome, e.metered, e.learnedPending.isSome, e.spentPending, e.pinnedPending.isSome])
  ++ portByte e.attachment ++ beBytes 1 e.profile.val ++ beBytes 3 e.allowance
  ++ creditBytes e.upCredit ++ creditBytes e.downCredit ++ beBytes 2 e.lastRefill.toNat ++ beBytes 2 e.lastSeen.toNat
  ++ beBytes 2 e.movedAt.toNat ++ beBytes 1 e.flapCount
  ++ beBytes 1 (presence [e.spent, e.expiryDue, e.recentlyMoved, e.pinned])
  ++ beBytes 2 e.heldCount ++ portByte e.learnedPending ++ portByte e.pinnedPending

/-- READ_STATION (02 R34): the entry is refilled, and its fields are returned. -/
def execReadStation (s : State) : Host.Outcome State Fault Refusal :=
  .next (runItem (hasCode 0x12) parseRef (fun r s => onStation r s (fun i =>
    .done (refill i s) (stationData i ((refill i s).entry i)) false)) s)

/-- FIND_STATION (02 R34). -/
def execFindStation (s : State) : Host.Outcome State Fault Refusal :=
  .next (runItem (hasCode 0x13) parseFindStation (fun a s => onStation (.byAddr a) s (fun i =>
    .done s (beBytes 2 i.val ++ beBytes 1 (entryCode (s.entry i).state)) false)) s)

/-! ## TAKE_REPORTS -/

/-- The records that a TAKE_REPORTS of `n` takes now (02 R42, 10 R163). -/
def takenReports (n : Nat) (s : State) : List Report :=
  match s.mgmt.exec with
  | none => []
  | some f => fittingReports n (reportsRoom f) s.table.reports

/-- TAKE_REPORTS (02 R42): the records taken leave the head of the queue; the data is the number left, then the records. -/
def takeReportsEffect (n : Nat) (s : State) : ItemEffect :=
  let taken := takenReports n s
  let left := s.table.reports.drop taken.length
  .done { s with table := { s.table with reports := left } } (beBytes 1 left.length ++ taken.flatMap reportBytes) false

/-- TAKE_REPORTS. -/
def execTakeReports (s : State) : Host.Outcome State Fault Refusal :=
  .next (runItem (hasCode 0x14) parseTakeReports takeReportsEffect s)

end Sys2Proof.Machine
end

