-- ==== Sys2Proof/Machine/TableItems.lean ====
section
/-! DEFINITION. The items of the classifier: WRITE_ZONE_MATCH, READ_ZONE_MATCH, WRITE_PROFILE, READ_PROFILE (03 3.2, 3.4). -/

namespace Sys2Proof.Machine

open Sys2Proof

/-- A zone match entry as WRITE_ZONE_MATCH leaves it (03 R47): every field as carried, or clear. -/
def zoneWritten : Option ZoneFields → ZoneEntry
  | some z => { valid := true, fields := z }
  | none => ZoneEntry.clear

/-- WRITE_ZONE_MATCH (03 R47). -/
def execWriteZoneMatch (s : State) : Host.Outcome State Fault Refusal :=
  .next (runItem (hasCode 0x08) parseZoneWrite (fun w s =>
    .done { s with cls := { s.cls with zones := s.cls.zones.set w.1 (zoneWritten w.2) } } [] false) s)

/-- READ_ZONE_MATCH data (12 R174). -/
def zoneData (z : ZoneEntry) : List Byte :=
  beBytes 1 (presence [z.valid, z.fields.etype.isSome, z.fields.vlan.isSome]) ++ addrBytes z.fields.value
  ++ addrBytes z.fields.mask ++ beBytes 1 (directionCode z.fields.dir) ++ beBytes 1 z.fields.zone.val
  ++ beBytes 2 (match z.fields.etype with | none => 0 | some t => t.toNat)
  ++ beBytes 2 (match z.fields.vlan with | none => 0 | some v => v.toNat)

/-- READ_ZONE_MATCH (03 R48). -/
def execReadZoneMatch (s : State) : Host.Outcome State Fault Refusal :=
  .next (runItem (hasCode 0x09) (parseIndex 64) (fun i s => .done s (zoneData (s.cls.zones.get i)) false) s)

/-- Rates and bursts brought into range (03 R53). -/
def ratesWritten (r : Rates) : Rates :=
  { upRate := clampTo 0 Config.rateMax r.upRate, upBurst := clampTo Config.burstMin Config.burstMax r.upBurst,
    downRate := clampTo 0 Config.rateMax r.downRate, downBurst := clampTo Config.burstMin Config.burstMax r.downBurst }

/-- A rate or burst was brought into range (03 R53). -/
def ratesClamped (r : Rates) : Bool :=
  outside 0 Config.rateMax r.upRate || outside Config.burstMin Config.burstMax r.upBurst
  || outside 0 Config.rateMax r.downRate || outside Config.burstMin Config.burstMax r.downBurst

/-- A profile as WRITE_PROFILE leaves it (03 R52): the rates part replaces all four values, each grant setting the whole grant
of its zone; what is absent is kept. -/
def profileWritten (w : ProfileWrite) (x : Profile) : Profile :=
  { rates := match w.rates with | none => x.rates | some r => ratesWritten r,
    grants := w.grants.foldl (fun t g => t.set g.1 g.2) x.grants }

/-- WRITE_PROFILE (03 R52, R53). -/
def execWriteProfile (s : State) : Host.Outcome State Fault Refusal :=
  .next (runItem (hasCode 0x0A) parseProfileWrite (fun w s =>
    .done { s with cls := { s.cls with profiles := s.cls.profiles.modify w.profile (profileWritten w) } } []
      (match w.rates with | none => false | some r => ratesClamped r)) s)

/-- READ_PROFILE data (12 R174). -/
def profileData (x : Profile) : List Byte :=
  beBytes 2 x.rates.upRate ++ beBytes 2 x.rates.upBurst ++ beBytes 2 x.rates.downRate ++ beBytes 2 x.rates.downBurst
  ++ x.grants.toList.flatMap grantBytes

/-- READ_PROFILE (03 R56). -/
def execReadProfile (s : State) : Host.Outcome State Fault Refusal :=
  .next (runItem (hasCode 0x0B) (parseIndex 32) (fun n s => .done s (profileData (s.profile n)) false) s)

end Sys2Proof.Machine
end

