-- ==== Sys2Proof/Machine/TimeFamily.lean ====
section
/-! DEFINITION. Time: REFILL_TICK, SLOW_TICK and its parts SECONDS_ADVANCE, LEARNED_EXPIRY, ADMITTED_EXPIRY, HOLD_OFF_END and
SPACING_END, and the microsecond that passes while no command waits (04 4.1, 02 2.6, 11 R170). -/

namespace Sys2Proof.Machine

open Sys2Proof

/-! ## The refill tick -/

/-- The refresh sweep's visit (04 R66): a non-FREE entry is refilled, a FREE one takes the tick; the pointer moves on. -/
def refreshVisit (s : State) : State :=
  let i := s.time.refreshPointer
  let s1 := if (s.entry i).state = .free then s.modEntry i (fun e => { e with lastRefill := s.time.tick }) else refill i s
  { s1 with time := { s1.time with refreshPointer := i + 1 } }

/-- The arrival of a refill tick (04 R59): period count 0, a divisor written takes effect, T advances, one refresh visit. -/
def refillArrives (s : State) : State :=
  refreshVisit { s with time := { s.time with
    periodCount := 0, divisor := s.time.divisorWritten.getD s.time.divisor, divisorWritten := none,
    tick := s.time.tick + 1 } }

/-- REFILL_TICK (04 R59): the command is the arrival of the tick, whatever the period count has reached (log 10). In RESET there
is none (04 R58). -/
def execRefillTick (s : State) : Host.Outcome State Fault Refusal := .next (if running s then refillArrives s else s)

/-! ## The slow tick -/

/-- The millisecond stamp and the millisecond remainder advance (04 R61). -/
def advanceMs (s : State) : State :=
  { s with time := { s.time with ms := s.time.ms + 1, msRemainder := s.time.msRemainder + 1, micro := 0 } }

/-- When the remainder reaches 1,000 it returns to 0 and the seconds counter advances (04 R61). -/
def secondsStep (s : State) : State :=
  if 1000 ≤ s.time.msRemainder then { s with time := { s.time with msRemainder := 0, seconds := s.time.seconds + 1 } } else s

/-- The spacing-running flag clears once the spacing has passed since the last notice was placed (11 R170). -/
def spacingStep (s : State) : State :=
  if s.notice.spacingRunning && decide (s.notice.spacing ≤ Stamp.since s.time.ms s.notice.placedAt) then
    s.modNotice (fun n => { n with spacingRunning := false })
  else s

/-- The arrival of a slow tick (04 R61, 02 R36, 11 R170), in the order stamp, seconds, aging visit, spacing (log 13). -/
def slowArrives (s : State) : State := spacingStep (agingVisit (secondsStep (advanceMs s)))

/-- SLOW_TICK (04 R61). In RESET there is none (04 R58). -/
def execSlowTick (s : State) : Host.Outcome State Fault Refusal := .next (if running s then slowArrives s else s)

/-- SECONDS_ADVANCE: the seconds part of a slow tick, under its own condition (04 R61, log 10). -/
def execSecondsAdvance (s : State) : Host.Outcome State Fault Refusal := .next (if running s then secondsStep s else s)

/-- LEARNED_EXPIRY: the expiry part of an aging visit for a LEARNED entry (02 R38, log 10). -/
def execLearnedExpiry (i : StationIx) (s : State) : Host.Outcome State Fault Refusal :=
  .next (if running s then learnedExpiryStep i s else s)

/-- ADMITTED_EXPIRY: the expiry part of an aging visit for an ADMITTED entry (02 R39, log 10). -/
def execAdmittedExpiry (i : StationIx) (s : State) : Host.Outcome State Fault Refusal :=
  .next (if running s then admittedExpiryStep i s else s)

/-- HOLD_OFF_END: the hold-off part of an aging visit (05 R87, log 10). -/
def execHoldOffEnd (i : StationIx) (s : State) : Host.Outcome State Fault Refusal :=
  .next (if running s then holdOffStep i s else s)

/-- SPACING_END: the spacing part of a slow tick (11 R170, log 10). -/
def execSpacingEnd (s : State) : Host.Outcome State Fault Refusal := .next (if running s then spacingStep s else s)

/-! ## A microsecond of the base -/

/-- One microsecond of the base passes (04 R59, R61, log 1): the period count and the microseconds since the last slow tick
rise; a refill tick arrives when the period count reaches the divisor in force, a slow tick at 1,000 microseconds. In RESET
nothing runs (04 R58). -/
def microsecond (s : State) : State :=
  if running s then
    let s1 := { s with time := { s.time with periodCount := s.time.periodCount + 1, micro := s.time.micro + 1 } }
    let s2 := if s.time.divisor ≤ s1.time.periodCount then refillArrives s1 else s1
    if 1000 ≤ s2.time.micro then slowArrives s2 else s2
  else s

end Sys2Proof.Machine
end

