-- ==== Sys2Proof/Machine/TransmitFamily.lean ====
section
/-! DEFINITION. TRANSMIT_CHOICE and TRANSMIT_COMPLETE (07). -/

namespace Sys2Proof.Machine

open Sys2Proof

/-- A port may transmit (07 R118). -/
def mayTransmit (p : Port) (s : State) : Bool :=
  if isCarriage p then isUpOrHeld (s.port p).state else running s && (s.port p).link

/-- The port is IDLE, may transmit and has no flush walk running (07 R118). -/
def readyToChoose (p : Port) (s : State) : Bool :=
  decide ((s.port p).tx = .idle) && mayTransmit p s && (s.port p).flush.isNone

/-- A queue lists no record. -/
def queueEmpty (q : QueueId) (s : State) : Bool := (s.queue q).records.isEmpty

/-- The guard count after a transmission starts from a queue (07 R124). -/
def guardAfter (q : QueueId) (s : State) (g : Nat) : Nat :=
  match q with
  | .priority r => if queueEmpty (.normal r) s then g else g + 1
  | .normal _ => 0
  | _ => g

/-- The transmission of a record starts (07 R119): SENDING, with 0 bytes sent; the record stays where it is. -/
def startRecord (p : Port) (q : QueueId) (r : RecordIx) (s : State) : State :=
  s.modPort p (fun u => { u with tx := .sending r q 0, guardCount := guardAfter q s u.guardCount })

/-! ## Carriage ports -/

/-- The queue a carriage port picks from (07 R122, R123). -/
def pickQueue (p : Port) (s : State) : Option QueueId :=
  match portClass p with
  | .backbone _ => none
  | .seat k => if queueEmpty (.seat k) s then none else some (.seat k)
  | .radio r =>
    if queueEmpty (.priority r) s then (if queueEmpty (.normal r) s then none else some (.normal r))
    else if queueEmpty (.normal r) s then some (.priority r)
    else if (s.port p).guardCount < Config.guardMax then some (.priority r) else some (.normal r)

/-- The choice of a carriage port (07 R119, R122, R123): the head of the picked queue meets the re-home check, and while the
check drops it or moves it away the choice is made again on the queues as they then stand. `k` bounds the number of
records that can go. -/
def carriageChoice (p : Port) : Nat → State → State
  | 0, s => s
  | k + 1, s =>
    match pickQueue p s with
    | none => s
    | some q => match (s.queue q).records with
      | [] => s
      | r :: _ => match rehomeCheck q r s with
        | .send => startRecord p q r s
        | .gone t => carriageChoice p k t

/-- The number of records listed at a port. -/
def listedAt (p : Port) (s : State) : Nat := ((portQueues p).map (fun q => (s.queue q).records.length)).sum

/-! ## Backbone ports -/

/-- Deficit round robin (07 R128) from the state `x` of its port: the record sent, its queue, and the state at the start of its
transmission. `k` bounds the number of queues looked at; 128 is more than any choice needs (log 18). -/
def drrChoice (b : Side) (s : State) : Nat → BackboneTx → Option (DrrQueue × RecordIx × BackboneTx)
  | 0, _ => none
  | k + 1, x =>
    match (s.queue (drrQueue b x.pointer)).records with
    | [] => drrChoice b s k { x with visitOpen := false, pointer := drrNext x.pointer }
    | r :: _ =>
      let i := drrIx x.pointer
      let y := if x.visitOpen then x
        else { x with visitOpen := true, deficit := x.deficit.set i (x.deficit.get i + x.quantum.get i) }
      let n := (s.record r).length
      if n ≤ y.deficit.get i then some (x.pointer, r, { y with deficit := y.deficit.set i (y.deficit.get i - n) })
      else drrChoice b s k { y with visitOpen := false, pointer := drrNext y.pointer }

/-- Some deficit round robin queue of a port lists a record. -/
def drrWaiting (b : Side) (s : State) : Bool :=
  [DrrQueue.through, .class1, .class2, .class3].any (fun d => !queueEmpty (drrQueue b d) s)

/-- The choice of a backbone port (07 R125): the output slot, class 0, deficit round robin, or nothing. -/
def backboneChoice (b : Side) (s : State) : State :=
  let p := sidePort b
  if (s.side b).slot.isSome then s.modPort p (fun u => { u with tx := .sendingSlot 0 })
  else match (s.queue (.cls b 0)).records with
    | r :: _ => startRecord p (.cls b 0) r s
    | [] =>
      if drrWaiting b s then
        match drrChoice b s 128 (s.side b) with
        | some (d, r, x) => startRecord p (drrQueue b d) r (s.modSide b (fun _ => x))
        | none => s
      else s

/-- A port makes its choice when it may (07 R118). -/
def choose (p : Port) (s : State) : State :=
  if readyToChoose p s then
    match portSide p with
    | some b => backboneChoice b s
    | none => carriageChoice p (listedAt p s + 1) s
  else s

/-- TRANSMIT_CHOICE (07 R118, R119). -/
def execTransmitChoice (p : Port) (s : State) : Host.Outcome State Fault Refusal := .next (choose p s)

/-- A transmission completes with the port's link present (07 R120). -/
def complete (p : Port) (s : State) : State :=
  if (s.port p).tx ≠ .idle ∧ (s.port p).link then endTransmission p (countPort p .txFrames s) else s

/-- TRANSMIT_COMPLETE (07 R120). -/
def execTransmitComplete (p : Port) (s : State) : Host.Outcome State Fault Refusal := .next (complete p s)

end Sys2Proof.Machine
end

