-- ==== Sys2Proof/Machine/WalkFamily.lean ====
section
/-! DEFINITION. The visits and the ends of walks (06 6.4). A walk makes its visits one after another, each when its command
comes, and ends after its last visit. -/

namespace Sys2Proof.Machine

open Sys2Proof

/-! ## The purge walk -/

/-- A visit of the purge walk to its next queue (06 R111). -/
def purgeVisit (s : State) : State :=
  match s.purge with
  | none => s
  | some w => match carriageQueues[w.visits]? with
    | none => s
    | some q =>
      let t := sweepQueue (fun x => decide (x.dest = some w.station)) q s
      { t with purge := some { w with visits := w.visits + 1 } }

/-- PURGE_WALK_VISIT (06 R111). -/
def execPurgeWalkVisit (s : State) : Host.Outcome State Fault Refusal := .next (purgeVisit s)

/-- What the end of the purge walk does for the item that waits (02 R31, R33, 06 R116): BAR finishes with the index as data;
RELEASE frees the entry and finishes when the held count is 0, and otherwise waits for it. -/
def purgeFinish (s : State) : State :=
  match s.mgmt.exec with
  | none => s
  | some f => match f.phase with
    | .barWalk i => finishItem .done (beBytes 2 i.val) s
    | .releaseWalk i => freeReleased i (waitItem (.releaseWait i) s)
    | _ => s

/-- The end of the purge walk, after its visit to the last queue (06 R111). -/
def purgeEnd (s : State) : State :=
  match s.purge with
  | none => s
  | some w => if carriageQueues.length ≤ w.visits then purgeFinish { s with purge := none } else s

/-- PURGE_WALK_END (02 R31, R33). -/
def execPurgeWalkEnd (s : State) : Host.Outcome State Fault Refusal := .next (purgeEnd s)

/-! ## Port flush walks -/

/-- A visit of a port's flush walk (06 R113): first the intake places, then the port's queues in order. -/
def flushVisit (p : Port) (s : State) : State :=
  let moved := fun (k : Nat) (t : State) => t.modPort p (fun u => { u with flush := some (k + 1) })
  match (s.port p).flush with
  | none => s
  | some 0 => moved 0 (flushIntake p s)
  | some (k + 1) => match (portQueues p)[k]? with
    | none => s
    | some q => moved (k + 1) (sweepQueue (fun _ => true) q s)

/-- FLUSH_WALK_VISIT (06 R113). -/
def execFlushWalkVisit (p : Port) (s : State) : Host.Outcome State Fault Refusal := .next (flushVisit p s)

/-- Every walk of a STAND_DOWN has ended: no flush walk of a carriage port and no class flush runs (06 R116). -/
def standDownOver (s : State) : Bool :=
  carriagePorts.all (fun p => (s.port p).flush.isNone) && s.fore.classFlush.isNone && s.aft.classFlush.isNone

/-- What the end of a walk does for the item that waits (06 R116): SET_PORT turning a port OFF finishes (08 R137, log 22); RESET_PORT finishes
after a carriage port in SERVICE has been evaluated (08 R139); STAND_DOWN finishes when every one of its walks has ended. -/
def walkFinish (p : Option Port) (s : State) : State :=
  match s.mgmt.exec with
  | none => s
  | some f => match f.phase with
    | .portOff q clamped => if p = some q then finishItem (doneStatus clamped) [] s else s
    | .portReset q =>
      if p = some q then
        finishItem .done [] (if isCarriage q ∧ s.line.part = .service then evaluatePort q s else s)
      else s
    | .standDown => if standDownOver s then finishItem .done [] s else s
    | _ => s

/-- The end of a port's flush walk, after its visit to the port's last queue (06 R113, R116). -/
def flushEnd (p : Port) (s : State) : State :=
  match (s.port p).flush with
  | none => s
  | some k =>
    if (portQueues p).length + 1 ≤ k then walkFinish (some p) (s.modPort p (fun u => { u with flush := none })) else s

/-- FLUSH_WALK_END (06 R116). -/
def execFlushWalkEnd (p : Port) (s : State) : Host.Outcome State Fault Refusal := .next (flushEnd p s)

/-! ## Class flushes -/

/-- A visit of a class flush to its next class queue (06 R114). -/
def classVisit (b : Side) (s : State) : State :=
  match (s.side b).classFlush with
  | none => s
  | some k =>
    if h : k < 4 then
      (sweepQueue (fun _ => true) (.cls b ⟨k, h⟩) s).modSide b (fun x => { x with classFlush := some (k + 1) })
    else s

/-- CLASS_FLUSH_VISIT (06 R114). -/
def execClassFlushVisit (b : Side) (s : State) : Host.Outcome State Fault Refusal := .next (classVisit b s)

/-- The end of a class flush, after its class 3 queue (06 R114). -/
def classEnd (b : Side) (s : State) : State :=
  match (s.side b).classFlush with
  | none => s
  | some k => if 4 ≤ k then walkFinish none (s.modSide b (fun x => { x with classFlush := none })) else s

/-- CLASS_FLUSH_END (06 R114). -/
def execClassFlushEnd (b : Side) (s : State) : Host.Outcome State Fault Refusal := .next (classEnd b s)

end Sys2Proof.Machine
end

