-- ==== Sys2Proof/Machine/Dispatch.lean ====
section
/-! DEFINITION. The meaning of every command, one arm for each constructor of Instr, in the order of spec/opcode_table.json. -/

namespace Sys2Proof.Machine

open Sys2Proof

/-- The effect of a command on everything but the queue of commands. -/
def exec (i : Instr) (s : State) : Host.Outcome State Fault Refusal :=
  match i with
  | .resetPinAssert => Sys2Proof.Machine.execResetPinAssert s
  | .resetPinRelease straps => Sys2Proof.Machine.execResetPinRelease straps s
  | .carriageLinkUp p => Sys2Proof.Machine.execCarriageLinkUp p s
  | .carriageLinkDown p => Sys2Proof.Machine.execCarriageLinkDown p s
  | .backboneLinkUp b => Sys2Proof.Machine.execBackboneLinkUp b s
  | .backboneLinkDown b => Sys2Proof.Machine.execBackboneLinkDown b s
  | .frameStart p => Sys2Proof.Machine.execFrameStart p s
  | .cellRequest p => Sys2Proof.Machine.execCellRequest p s
  | .frameTooLong p => Sys2Proof.Machine.execFrameTooLong p s
  | .frameEnd p bytes good => Sys2Proof.Machine.execFrameEnd p bytes good s
  | .takeFrame => Sys2Proof.Machine.execTakeFrame s
  | .transmitChoice p => Sys2Proof.Machine.execTransmitChoice p s
  | .transmitComplete p => Sys2Proof.Machine.execTransmitComplete p s
  | .refillTick => Sys2Proof.Machine.execRefillTick s
  | .slowTick => Sys2Proof.Machine.execSlowTick s
  | .secondsAdvance => Sys2Proof.Machine.execSecondsAdvance s
  | .learnedExpiry j => Sys2Proof.Machine.execLearnedExpiry j s
  | .admittedExpiry j => Sys2Proof.Machine.execAdmittedExpiry j s
  | .holdOffEnd j => Sys2Proof.Machine.execHoldOffEnd j s
  | .spacingEnd => Sys2Proof.Machine.execSpacingEnd s
  | .purgeWalkVisit => Sys2Proof.Machine.execPurgeWalkVisit s
  | .purgeWalkEnd => Sys2Proof.Machine.execPurgeWalkEnd s
  | .flushWalkVisit p => Sys2Proof.Machine.execFlushWalkVisit p s
  | .flushWalkEnd p => Sys2Proof.Machine.execFlushWalkEnd p s
  | .classFlushVisit b => Sys2Proof.Machine.execClassFlushVisit b s
  | .classFlushEnd b => Sys2Proof.Machine.execClassFlushEnd b s
  | .mgmtFrameBegin => Sys2Proof.Machine.execMgmtFrameBegin s
  | .unknownItemCode => Sys2Proof.Machine.execUnknownItemCode s
  | .identify => Sys2Proof.Machine.execIdentify s
  | .readStatus => Sys2Proof.Machine.execReadStatus s
  | .start => Sys2Proof.Machine.execStart s
  | .standDown => Sys2Proof.Machine.execStandDown s
  | .restart => Sys2Proof.Machine.execRestart s
  | .restartEvent => Sys2Proof.Machine.execRestartEvent s
  | .setLine => Sys2Proof.Machine.execSetLine s
  | .setTiming => Sys2Proof.Machine.execSetTiming s
  | .writeZoneMatch => Sys2Proof.Machine.execWriteZoneMatch s
  | .readZoneMatch => Sys2Proof.Machine.execReadZoneMatch s
  | .writeProfile => Sys2Proof.Machine.execWriteProfile s
  | .readProfile => Sys2Proof.Machine.execReadProfile s
  | .admitStation => Sys2Proof.Machine.execAdmitStation s
  | .barStation => Sys2Proof.Machine.execBarStation s
  | .releaseStation => Sys2Proof.Machine.execReleaseStation s
  | .setAllowance => Sys2Proof.Machine.execSetAllowance s
  | .setAllowanceUnmetered => Sys2Proof.Machine.execSetAllowanceUnmetered s
  | .topUp => Sys2Proof.Machine.execTopUp s
  | .unpin => Sys2Proof.Machine.execUnpin s
  | .readStation => Sys2Proof.Machine.execReadStation s
  | .findStation => Sys2Proof.Machine.execFindStation s
  | .takeReports => Sys2Proof.Machine.execTakeReports s
  | .setPort => Sys2Proof.Machine.execSetPort s
  | .resetPort => Sys2Proof.Machine.execResetPort s
  | .setQueue => Sys2Proof.Machine.execSetQueue s
  | .readCounters => Sys2Proof.Machine.execReadCounters s
  | .setNotices => Sys2Proof.Machine.execSetNotices s
  | .retireNotices => Sys2Proof.Machine.execRetireNotices s
  | .responsePlace => Sys2Proof.Machine.execResponsePlace s
  | .noticeSend => Sys2Proof.Machine.execNoticeSend s

end Sys2Proof.Machine
end

