-- ==== Sys2Proof/Safety.lean ====
section
/-! DEFINITION. What counts as a safe run, and the invariants of the 4806 that claims speak of. -/

namespace Sys2Proof.Machine

open Sys2Proof

/-! ## Runs -/

/-- Every command that waits is well formed. -/
def State.wellFormed (s : State) : Bool := s.pending.all Instr.wellFormed

/-- A number of steps, each of which answers a next state. -/
def runsTo : Nat → State → State → Prop
  | 0, s, t => t = s
  | n + 1, s, t => ∃ u, step s = .next u ∧ runsTo n u t

/-- A safe run: every step answers a next state; none is refused. -/
def SafeRun (n : Nat) (s : State) : Prop := ∃ t, runsTo n s t

/-! ## Invariants -/

/-- Frame memory has its canonical form. -/
def MemoryCanonical (s : State) : Prop := Memory.wf s.mem.bytes = true

/-- The free cell count is the number of cells on the free cell list (06 R99). -/
def FreeCountAgrees (s : State) : Prop := s.mem.freeCount = s.mem.free.length

/-- The report queue holds at most 48 records (02 R41), an intake at most two frames (01 R6), the management input queue at
most two frames (10 R156), no record is of a frame longer than 1,522 bytes (01 R3), and the last carriage port served is a
carriage port (01 R8). -/
def PlacesBounded (s : State) : Prop :=
  s.table.reports.length ≤ 48 ∧ (∀ p, (s.port p).intake.length ≤ 2) ∧ s.mgmt.input.length ≤ 2
  ∧ (∀ r, (s.record r).length ≤ 1522) ∧ 2 ≤ s.arb.lastCarriage.val

/-- Spent is set exactly when the entry is metered with nothing remaining, an unmetered entry has nothing remaining, and no
allowance exceeds 16,777,215 (04 R70). -/
def AllowanceAgrees (s : State) : Prop :=
  ∀ i, ((s.entry i).spent = true ↔ (s.entry i).metered = true ∧ (s.entry i).allowance = 0)
    ∧ ((s.entry i).metered = false → (s.entry i).allowance = 0) ∧ (s.entry i).allowance ≤ 16777215

/-- Carriage ports: OFF outside SERVICE (08 R131), enabled unless OFF, with a link while UP or HELD (08 R132), and with no frame
in reception while OFF or DOWN (01 R1, R5). -/
def CarriagePortsAgree (s : State) : Prop :=
  ∀ p : Port, isCarriage p = true →
    (s.line.part ≠ .service → (s.port p).state = .off)
    ∧ ((s.port p).state ≠ .off → (s.port p).enable = true)
    ∧ (isUpOrHeld (s.port p).state = true → (s.port p).link = true)
    ∧ (isUpOrHeld (s.port p).state = false → (s.port p).rx = .idle)

/-- Outside SERVICE no frame waits at a carriage port, but where a flush walk has yet to make its first visit, which empties the
intake places (01 R7, 06 R113). -/
def CarriageIntakesFlushed (s : State) : Prop :=
  s.line.part ≠ .service → ∀ p : Port, isCarriage p = true → (s.port p).flush ≠ some 0 → (s.port p).intake = []

/-- In SERVICE the position is 1 to 20 and the gateway side is FORE or AFT (09 R150, R152). -/
def ServiceAgrees (s : State) : Prop := s.line.part = .service → s.line.position ≠ 0 ∧ s.line.gateway ≠ none

/-- Every non-FREE entry sits in the bucket of its address, and no two of them hold one address (02 R23). -/
def TableAgrees (s : State) : Prop :=
  (∀ i, (s.entry i).state ≠ .free → i.val / 4 = (bucketOf (s.entry i).addr).val)
  ∧ (∀ i j, (s.entry i).state ≠ .free → (s.entry j).state ≠ .free → (s.entry i).addr = (s.entry j).addr → i = j)

/-- A station is attached to a carriage port that is UP or HELD, a FREE entry to none, and the station count of a seat port is the
number of entries attached to it (05 R79). -/
def AttachmentsAgree (s : State) : Prop :=
  (∀ i p, (s.entry i).attachment = some p →
      isCarriage p = true ∧ isUpOrHeld (s.port p).state = true ∧ (s.entry i).state ≠ .free)
  ∧ (∀ p : Port, isSeat p = true →
      (s.port p).seatCount = (List.finRange 512).countP (fun i => decide ((s.entry i).attachment = some p)))

/-- The settings that requests write lie in their ranges (04 R60, 05 R80, 02 R37, 11 R170, 06 R100, R109, 05 R90, 07 R129). -/
def SettingsInRange (s : State) : Prop :=
  s.time.divisor ∈ Config.divisors ∧ (∀ d, s.time.divisorWritten = some d → d ∈ Config.divisors)
  ∧ s.roam.holdOff ≤ 1023 ∧ (1 ≤ s.roam.flapLimit ∧ s.roam.flapLimit ≤ 15) ∧ s.roam.rehomeLimit ≤ 255
  ∧ (1 ≤ s.table.learnedLimit ∧ s.table.learnedLimit ≤ 255) ∧ (1 ≤ s.table.admittedLimit ∧ s.table.admittedLimit ≤ 4095)
  ∧ (1 ≤ s.notice.spacing ∧ s.notice.spacing ≤ 255) ∧ s.mem.reserve ≤ 256
  ∧ (∀ q, (s.queue q).limit ≤ 2048) ∧ (∀ p, 1 ≤ (s.port p).seatLimit ∧ (s.port p).seatLimit ≤ 4)
  ∧ (∀ b d, 64 ≤ (s.side b).quantum.get (drrIx d) ∧ (s.side b).quantum.get (drrIx d) ≤ 16383)

/-! ## Who holds what of frame memory -/

/-- Every cell is on the free cell list or held by one record, once (06 R99). A record's chain has as many cells as it counts, 1 to
12, and a FREE record has none (06 R102). -/
def CellsAgree (s : State) : Prop :=
  (s.mem.free ++ (List.finRange 1024).flatMap (cellsOf s.mem)).Perm (List.finRange 2048)
  ∧ ∀ r, (cellsOf s.mem r).length = (s.record r).cellCount ∧ (s.record r).cellCount ≤ 12
    ∧ ((s.record r).stage = .free ↔ (s.record r).cellCount = 0)

/-- A frame in reception has a RECEIVING record, a waiting one a DECIDING record, and no record is in two of these places
(06 R103). -/
def PlacesAgree (s : State) : Prop :=
  (∀ p r n, (s.port p).rx = .storing r n → (s.record r).stage = .receiving)
  ∧ (∀ p p' r n n', (s.port p).rx = .storing r n → (s.port p').rx = .storing r n' → p = p')
  ∧ (∀ p r, r ∈ (s.port p).intake → (s.record r).stage = .deciding)
  ∧ (∀ p, (s.port p).intake.Nodup) ∧ (∀ p p' r, r ∈ (s.port p).intake → r ∈ (s.port p').intake → p = p')

/-- The number of queues that list a record. -/
def listings (s : State) (r : RecordIx) : Nat :=
  (List.finRange 74).countP (fun k => decide (r ∈ (s.queues.get k).records))

/-- A queue lists no record twice and its tally is the sum of its records' cells; the holders of a record are the queues that list
it, and it is QUEUED when there are any (06 R104); a record in transmission at a port is listed by the queue it was taken from,
one of that port's (07 R119). -/
def QueuesAgree (s : State) : Prop :=
  (∀ q, (s.queue q).records.Nodup
    ∧ (s.queue q).tally = ((s.queue q).records.map (fun r => (s.record r).cellCount)).sum)
  ∧ (∀ r, (s.record r).holders = listings s r ∧ ((s.record r).stage = .queued ↔ 0 < (s.record r).holders))
  ∧ (∀ p r q n, (s.port p).tx = .sending r q n → r ∈ (s.queue q).records ∧ queuePort q = p)

/-- The held count of an entry is the number of queued records that name it (02 R35), none for a FREE entry; a record that names a
station is QUEUED in one queue (06 R102, R107). -/
def HeldCountsAgree (s : State) : Prop :=
  (∀ i, (s.entry i).heldCount = (List.finRange 1024).countP (fun r => decide ((s.record r).dest = some i)))
  ∧ (∀ i, (s.entry i).state = .free → (s.entry i).heldCount = 0)
  ∧ (∀ r, (s.record r).dest ≠ none → (s.record r).stage = .queued ∧ (s.record r).holders = 1)

/-- Frame memory, receive states, intakes, queues and held counts agree. -/
def FramesAgree (s : State) : Prop :=
  FreeCountAgrees s ∧ CellsAgree s ∧ PlacesAgree s ∧ QueuesAgree s ∧ HeldCountsAgree s

/-! ## The running item -/

/-- The item that can begin has this code and these parameter bytes (10 R158). -/
def ItemIs (s : State) (code : Nat) (params : List Byte) : Prop :=
  currentItem s = some { code := BitVec.ofNat 8 code, params := params }

end Sys2Proof.Machine
end

