-- ==== Sys2Proof/Certificates/Slice0/Obligations.lean ====
section
/-! DEFINITION. The statements for the provers. A statement about a command gives, under hypotheses on the state and the operands
alone, the next state that exec answers: every field it changes, with everything else as it was. -/

open Sys2Proof Sys2Proof.Machine

/-! ## The step -/

/-- For every command and state, a step of a state with that command at the front of its queue is the command's effect on the state
with the rest of the queue (95: the table lists the part's steps, each whole and indivisible; log 11). -/
def Obligations.StepRunsFrontCommand : Prop :=
  ∀ (c : Instr) (s : State) (rest : List Instr), s.pending = c :: rest → step s = exec c { s with pending := rest }

/-- With no command waiting, a step is one microsecond of the base (the model's choice, log 1): in RESET nothing happens; otherwise
the period count and the microseconds since the last slow tick rise by one, a refill tick arrives exactly when the period count
reaches the divisor in force (04 R59), a slow tick exactly at 1,000 microseconds (04 R61), and nothing else happens when neither
arrives. A tick that arrives does what its command does on the advanced state, the refill tick first where both arrive (log 1). -/
def Obligations.IdleStepIsOneMicrosecond : Prop :=
  ∀ s : State, s.pending = [] →
    (s.line.part = .reset → step s = .next s) ∧
    (s.line.part ≠ .reset →
      let advanced : State :=
        { s with time := { s.time with periodCount := s.time.periodCount + 1, micro := s.time.micro + 1 } }
      (s.time.periodCount + 1 < s.time.divisor → s.time.micro + 1 < 1000 → step s = .next advanced) ∧
      (s.time.divisor ≤ s.time.periodCount + 1 → s.time.micro + 1 < 1000 → step s = exec .refillTick advanced) ∧
      (s.time.periodCount + 1 < s.time.divisor → 1000 ≤ s.time.micro + 1 → step s = exec .slowTick advanced) ∧
      (s.time.divisor ≤ s.time.periodCount + 1 → 1000 ≤ s.time.micro + 1 → ∃ u, exec .refillTick advanced = .next u ∧
        step s = exec .slowTick u) ∧
      ∃ t, step s = .next t ∧
        (s.time.periodCount + 1 < s.time.divisor →
          t.time.periodCount = s.time.periodCount + 1 ∧ t.time.tick = s.time.tick
            ∧ t.time.refreshPointer = s.time.refreshPointer) ∧
        (s.time.divisor ≤ s.time.periodCount + 1 →
          t.time.periodCount = 0 ∧ t.time.tick = s.time.tick + 1 ∧ t.time.refreshPointer = s.time.refreshPointer + 1) ∧
        (s.time.micro + 1 < 1000 →
          t.time.micro = s.time.micro + 1 ∧ t.time.ms = s.time.ms ∧ t.table.agingPointer = s.table.agingPointer) ∧
        (1000 ≤ s.time.micro + 1 →
          t.time.micro = 0 ∧ t.time.ms = s.time.ms + 1 ∧ t.table.agingPointer = s.table.agingPointer + 1))

/-! ## Reset -/

/-- What State.reset holds where the manual gives the value: the power-on values of every block (09 R145): ports (01 R1, R7, 07 R118,
08 R131, R133, 05 R90), arbiter (01 R8), station table (02 R23, R28), classifier (03 R43, R49), timebase (04 R58), memory and records (06
R99, R102), queues (06 R104, 07 R127), no walk running (06 R111, R113, R114), management (10 R156) and notice units (11 R168 to
R171), counters (08 R140). What a FREE entry holds is said for every last refill tick. -/
def Obligations.ResetHoldsPowerOnValues : Prop :=
  State.reset.line.part = .reset ∧ State.reset.line.gateway = none ∧ State.reset.line.lineJoin = true ∧
  (∀ p, (State.reset.port p).link = false ∧ (State.reset.port p).rx = .idle ∧ (State.reset.port p).intake = [] ∧
    (State.reset.port p).tx = .idle ∧ (State.reset.port p).state = .off ∧ (State.reset.port p).enable = true ∧
    (State.reset.port p).hold = false ∧ (State.reset.port p).flood = true ∧ (State.reset.port p).seatLimit = 1 ∧
    (State.reset.port p).seatCount = 0 ∧ (State.reset.port p).guardCount = 0 ∧ (State.reset.port p).flush = none ∧
    ∀ k, (State.reset.port p).counters.get k = 0) ∧
  State.reset.arb = { lastBackbone := .aft, lastCarriage := 57 } ∧
  (∀ i, (State.reset.entry i) = StationEntry.freed 0) ∧ State.reset.table.reports = [] ∧
  (∀ t, StationEntry.freed t = {
    state := .free, addr := 0, attachment := none, profile := 0, metered := false, allowance := 0, spent := false
    upCredit := 0, downCredit := 0, lastRefill := t, lastSeen := 0, expiryDue := false, recentlyMoved := false
    movedAt := 0, flapCount := 0, pinned := false, heldCount := 0, learnedPending := none, spentPending := false
    pinnedPending := none, counters := #v[0, 0, 0, 0, 0, 0, 0, 0] }) ∧
  State.reset.table.agingPointer = 0 ∧ State.reset.table.learnedLimit = 60 ∧ State.reset.table.admittedLimit = 900 ∧
  (∀ i, State.reset.cls.zones.get i = { valid := false, fields :=
    { value := 0, mask := 0, etype := none, vlan := none, dir := .both, zone := 0 } }) ∧
  (∀ n, (State.reset.profile n).rates = { upRate := 0, upBurst := 1522, downRate := 0, downBurst := 1522 } ∧
    ∀ z, (State.reset.profile n).grants.get z
      = { upPermit := false, downPermit := false, policed := false, counted := false, cls := 0 }) ∧
  State.reset.time.divisor = 125 ∧ State.reset.time.divisorWritten = none ∧ State.reset.time.periodCount = 0 ∧
  State.reset.time.tick = 0 ∧ State.reset.time.ms = 0 ∧ State.reset.time.msRemainder = 0 ∧ State.reset.time.seconds = 0 ∧
  State.reset.time.refreshPointer = 0 ∧
  State.reset.roam = { holdOff := 200, flapLimit := 8, rehomeLimit := 50 } ∧
  State.reset.mem.free = List.finRange 2048 ∧ State.reset.mem.freeCount = 2048 ∧ State.reset.mem.reserve = 64 ∧
  (∀ r, (State.reset.record r).stage = .free ∧ (State.reset.record r).cellCount = 0 ∧
    (State.reset.record r).holders = 0 ∧ (State.reset.record r).dest = none ∧ (State.reset.record r).cls = none ∧
    (State.reset.record r).rehomed = false) ∧
  (∀ q, (State.reset.queue q).records = [] ∧ (State.reset.queue q).tally = 0 ∧ (State.reset.queue q).drops = 0 ∧
    (State.reset.queue q).limit = (match q with
      | .through _ => 512
      | .cls _ _ => 128
      | .priority _ => 64
      | .normal _ => 256
      | .seat _ => 64)) ∧
  (∀ b, (State.reset.side b).slot = none ∧ (State.reset.side b).pointer = .through ∧
    (State.reset.side b).visitOpen = false ∧ (∀ d, (State.reset.side b).deficit.get d = 0) ∧
    (State.reset.side b).quantum = #v[3000, 3000, 1500, 1500] ∧ (State.reset.side b).classFlush = none) ∧
  State.reset.purge = none ∧
  State.reset.mgmt.input = [] ∧ State.reset.mgmt.exec = none ∧
  (∀ x, (State.reset.notice.flags.get x) = { enable := false, pending := false, inService := false }) ∧
  State.reset.notice.mode = .explicit ∧ State.reset.notice.dest = none ∧ State.reset.notice.spacing = 10 ∧
  State.reset.notice.spacingRunning = false ∧ State.reset.notice.count = 0 ∧
  (∀ p, State.reset.notice.changed.get p = false) ∧ (∀ g, State.reset.globals.get g = 0)

/-- RESET_PIN_ASSERT outside RESET: every block at its power-on values, with the part state RESET and the line-join output asserted
(09 R145, R146). Kept are the device identifier (09 R149), the waiting commands, and the link-status lines but for those of BF and
BA, whose transceivers the relay takes off the line (the model's choice, log 5). The strap code and the position, to which the manual
gives no value until the release, return to those of State.reset: the model's choice (log 3), as are the other values of State.reset that
the manual does not give (logs 6, 9, 16, 24). In RESET nothing changes further.

RESET_PIN_RELEASE with every carriage port OFF, as they are in RESET (09 R147, 08 R133): the straps are read and the position
decoded, the line-join output is released, the part enters TRANSIT; each port's link status becomes the level of its line, and each
port whose line shows a link joins the changed-port set and makes LINK_CHANGE pending; a position of 0 makes STRAP_FAULT pending.
Everything else is as it was. Outside RESET the pin is not asserted and nothing happens (log 2). -/
def Obligations.ResetPinTaken : Prop :=
  (∀ s : State,
     (s.line.part ≠ .reset → exec .resetPinAssert s = .next { State.reset with
       pending := s.pending
       line := { State.reset.line with deviceId := s.line.deviceId, lines := (s.line.lines.set 0 false).set 1 false } }) ∧
     (s.line.part = .reset → exec .resetPinAssert s = .next s)) ∧
  (∀ (s : State) (straps : BitVec 6),
     (s.line.part ≠ .reset → exec (.resetPinRelease straps) s = .next s) ∧
     (s.line.part = .reset → (∀ p, isCarriage p = true → (s.port p).state = .off) →
       ∃ t, exec (.resetPinRelease straps) s = .next t ∧
         t = { s with
           line := { s.line with part := .transit, lineJoin := false, strapCode := straps, position := strapPosition straps }
           ports := t.ports
           notice := { s.notice with flags := t.notice.flags, changed := t.notice.changed } } ∧
         (∀ p, t.port p = { s.port p with link := s.line.lines.get p }) ∧
         (∀ p, t.notice.changed.get p = (s.notice.changed.get p || s.line.lines.get p)) ∧
         (∀ x, t.notice.flags.get (sourceIx x) = { s.notice.flags.get (sourceIx x) with
           pending := (s.notice.flags.get (sourceIx x)).pending
             || (decide (x = .strapFault) && decide (strapPosition straps = 0))
             || (decide (x = .linkChange) && (List.finRange 58).any (fun p => s.line.lines.get p)) })))

/-- The position of a strap code (09 R148): the table's twenty codes give 1 to 20 and any other 0; so it is 0 unless exactly three of the
six lines are high, and otherwise the code's place among the codes with three lines high, taken in ascending value, from 1. -/
def Obligations.StrapCodeGivesPosition : Prop :=
  (let codes : List (BitVec 6) := [7, 11, 13, 14, 19, 21, 22, 25, 26, 28, 35, 37, 38, 41, 42, 44, 49, 50, 52, 56]
   codes.map (fun c => (strapPosition c).val) = (List.range 20).map (· + 1) ∧ ∀ c, c ∉ codes → strapPosition c = 0) ∧
  ∀ code : BitVec 6, (strapPosition code).val =
    (let high := fun c : BitVec 6 => ((List.finRange 6).countP (fun k => c.getLsbD k.val) : Nat)
     if high code = 3 then
       (List.range 64).countP (fun n => decide (n ≤ code.toNat) && decide (high (BitVec.ofNat 6 n) = 3))
     else 0)

/-- RESTART_EVENT (09 R154): when a restart is due, every block takes its power-on values; the strap code, the position and the device
identifier are kept, the part state is TRANSIT and the line-join output released; each port with a link is given a link-up event, and
STRAP_FAULT becomes pending when the position is 0. When none is due nothing happens (the model's choice, log 2). That a due restart is made by this
command and not at the event that made it due is the model's choice (log 20), as are the values of State.reset that the manual does not give (logs 6, 9,
16, 24). -/
def Obligations.RestartMadeWhenDue : Prop :=
  ∀ s : State, s.line.part ≠ .reset →
    (s.mgmt.restart ≠ .due → exec .restartEvent s = .next s) ∧
    (s.mgmt.restart = .due → ∃ t, exec .restartEvent s = .next t ∧
      t = { State.reset with
        pending := s.pending
        line := { s.line with part := .transit, lineJoin := false, gateway := none }
        ports := t.ports
        notice := { State.reset.notice with flags := t.notice.flags, changed := t.notice.changed } } ∧
      (∀ p, t.port p = { State.reset.port p with link := s.line.lines.get p }) ∧
      (∀ p, t.notice.changed.get p = s.line.lines.get p) ∧
      (∀ x, t.notice.flags.get (sourceIx x) = { enable := false, inService := false, pending :=
        (decide (x = .strapFault) && decide (s.line.position = 0))
          || (decide (x = .linkChange) && (List.finRange 58).any (fun p => s.line.lines.get p)) }))

/-! ## Links -/

/-- CARRIAGE_LINK_UP and BACKBONE_LINK_UP out of RESET, with the port's link absent (08 R133, R134, R136): the link status becomes
present, the port joins the changed-port set, LINK_CHANGE becomes pending; a DOWN carriage port becomes HELD with hold on, UP
without. Everything else is as it was. In RESET, or with the link present already, only the line's level is kept (log 2, 5). -/
def Obligations.LinkUpTaken : Prop :=
  ∀ (s : State) (p : Port) (c : Instr),
    (c = .carriageLinkUp p ∧ isCarriage p = true ∨ ∃ b, c = .backboneLinkUp b ∧ p = sidePort b) →
    (isCarriage p = true → isUpOrHeld (s.port p).state = false → (s.port p).rx = .idle) →
    (s.line.part = .reset ∨ (s.port p).link = true → exec c s = .next { s with line := { s.line with lines := s.line.lines.set p true } }) ∧
    (s.line.part ≠ .reset → (s.port p).link = false → exec c s = .next { s with
      line := { s.line with lines := s.line.lines.set p true }
      ports := s.ports.modify p (fun u => { u with
        link := true
        state := if isCarriage p = true ∧ u.state = .down then (if u.hold then .held else .up) else u.state })
      notice := { s.notice with
        changed := s.notice.changed.set p true
        flags := s.notice.flags.modify (sourceIx .linkChange) (fun f => { f with pending := true }) } })

/-- CARRIAGE_LINK_DOWN and BACKBONE_LINK_DOWN out of RESET with the link present (08 R133, R135, R136, 01 R5, 07 R121, 06 R113). In every case
the link status becomes absent, the port joins the changed-port set and LINK_CHANGE becomes pending. A transmission in progress is
aborted: TX_ABORT counts it, a record leaves its queue (06 R108), and the port is IDLE. A UP or HELD carriage port, or a backbone port,
has a frame in reception abandoned, its record and cells returned; and its flush walk runs, from its start or, if it ran already, from
where it was. The UP or HELD carriage port becomes DOWN, no station stays attached to it, and a seat port's count becomes 0 (05 R91). The
backbone port's output slot empties, BACKBONE_LOSS becomes pending, and a restart that waited for the slot's response is due; that it is
not made at once is the model's choice (log 20). An OFF carriage port that still sends has that aborted too (the model's reading of R121
beside R135, log 17). Nothing else changes.

In RESET, or with the link absent already, a link-down only keeps the line's level (log 2, 5). A carriage link command at port 0 or 1 is
none of the block's and is refused (log 21). -/
def Obligations.LinkDownTaken : Prop :=
  (∀ (s : State) (p : Port) (c : Instr), c = .carriageLinkDown p ∧ isCarriage p = true ∨ (∃ b, c = .backboneLinkDown b ∧ p = sidePort b) →
     s.line.part ≠ .reset → (s.port p).link = true →
     let stops := isCarriage p = false ∨ isUpOrHeld (s.port p).state = true
     let received : State := match (s.port p).rx with
       | .storing r _ => if stops then releaseRecord r s else s
       | _ => s
     let sent : State := match (s.port p).tx with
       | .sending r q _ => leaveQueue q r received
       | _ => received
     let line := { s.line with lines := s.line.lines.set p false }
     let unit := fun u : PortUnit => { u with
       link := false, tx := .idle
       counters := if (s.port p).tx = .idle then u.counters else u.counters.modify (portCounterIx .txAbort) satIncrement }
     let changed := { s.notice with
       changed := s.notice.changed.set p true
       flags := s.notice.flags.modify (sourceIx .linkChange) (fun f => { f with pending := true }) }
     (isCarriage p = true → isUpOrHeld (s.port p).state = false →
       exec c s = .next { sent with line := line, ports := sent.ports.modify p unit, notice := changed }) ∧
     (isCarriage p = true → isUpOrHeld (s.port p).state = true → exec c s = .next { sent with
       line := line, notice := changed
       ports := sent.ports.modify p (fun u => { unit u with
         state := .down, rx := .idle, flush := some (u.flush.getD 0)
         seatCount := if isSeat p then 0 else u.seatCount })
       table := { sent.table with entries := sent.table.entries.mapAll (fun e =>
         if e.attachment = some p then { e with attachment := none } else e) } }) ∧
     (∀ b, p = sidePort b → exec c s = .next { sent.modSide b (fun x => { x with slot := none }) with
       line := line
       ports := sent.ports.modify p (fun u => { unit u with rx := .idle, flush := some (u.flush.getD 0) })
       mgmt := { sent.mgmt with restart := if s.mgmt.restart = .sent b then .due else s.mgmt.restart }
       notice := { changed with
         flags := changed.flags.modify (sourceIx .backboneLoss) (fun f => { f with pending := true }) } })) ∧
  (∀ (s : State) (p : Port), s.line.part = .reset ∨ (s.port p).link = false →
    let level : State := { s with line := { s.line with lines := s.line.lines.set p false } }
    (isCarriage p = true → exec (.carriageLinkDown p) s = .next level) ∧
    (∀ b, p = sidePort b → exec (.backboneLinkDown b) s = .next level)) ∧
  (∀ (s : State) (p : Port), isCarriage p = false →
    exec (.carriageLinkUp p) s = .refused .notACarriagePort ∧ exec (.carriageLinkDown p) s = .refused .notACarriagePort)

/-! ## Reception -/

/-- FRAME_START at a port whose receive state is IDLE (01 R1, R2, 06 R99 to R103). A HELD port discards under HELD. At any other port
that may receive: without a FREE record, or with the first cell refused, it discards under NOMEM; otherwise the lowest-numbered FREE
record (log 9) is RECEIVING with the head of the free cell list as its one cell, and MEMORY_LOW becomes pending when the cells left
are at or below the reserve. Everything else is as it was. -/
def Obligations.FrameStartTaken : Prop :=
  ∀ (s : State) (p : Port), (s.port p).rx = .idle →
    (isCarriage p = true → (s.port p).state = .held →
      exec (.frameStart p) s = .next (s.modPort p (fun u => { u with rx := .discarding .held }))) ∧
    ((isCarriage p = true ∧ (s.port p).state = .up) ∨
      (isCarriage p = false ∧ s.line.part ≠ .reset ∧ (s.port p).link = true
        ∧ ∀ f, s.mgmt.exec = some f → f.phase ≠ .portReset p) →
      ((∀ r, (s.record r).stage ≠ .free) →
        exec (.frameStart p) s = .next (s.modPort p (fun u => { u with rx := .discarding .nomem }))) ∧
      ((isCarriage p = true ∧ s.mem.freeCount ≤ s.mem.reserve) ∨ (isCarriage p = false ∧ s.mem.freeCount = 0) →
        exec (.frameStart p) s = .next (s.modPort p (fun u => { u with rx := .discarding .nomem }))) ∧
      (∀ r c rest, (s.record r).stage = .free → (∀ r' < r, (s.record r').stage ≠ .free) → s.mem.free = c :: rest →
        s.mem.freeCount = s.mem.free.length → (isCarriage p = true → s.mem.reserve < s.mem.freeCount) →
        exec (.frameStart p) s = .next { s with
          ports := s.ports.modify p (fun u => { u with rx := .storing r 1 })
          mem := { s.mem with
            next := s.mem.next.set c none, free := rest, freeCount := rest.length
            records := s.mem.records.set r { FrameRecord.fresh with stage := .receiving, firstCell := c, cellCount := 1 } }
          notice := { s.notice with
            flags := if rest.length ≤ s.mem.reserve then
                s.notice.flags.modify (sourceIx .memoryLow) (fun f => { f with pending := true })
              else s.notice.flags } })) ∧
    ((isCarriage p = true ∧ (s.port p).state = .off) ∨ (isCarriage p = true ∧ (s.port p).state = .down) ∨
      (isCarriage p = false ∧ ((s.port p).link = false ∨ s.line.part = .reset
        ∨ ∃ f, s.mgmt.exec = some f ∧ f.phase = .portReset p)) → exec (.frameStart p) s = .next s)

/-- CELL_REQUEST of a STORING frame that holds fewer than 12 cells (01 R2, 06 R99 to R101): given, the head of the free cell list is
linked to the end of the frame's chain; refused, the frame's record and cells return and the unit discards under NOMEM. FRAME_TOO_LONG
of a STORING frame (01 R3): record and cells return and the unit discards under LONG. In both, a unit that is not STORING is
unchanged, the model's choice for an event that cannot be (log 2).

The release of a record (06 R99, R103): its cells join the tail of the free cell list in chain order, the free cell count rises by
their number, the record takes its power-on values; every byte, every chain and every other record is as it was. -/
def Obligations.CellsRequestedAndReturned : Prop :=
  (∀ (s : State) (p : Port),
     ((∀ r n, (s.port p).rx ≠ .storing r n) →
       exec (.cellRequest p) s = .next s ∧ exec (.frameTooLong p) s = .next s) ∧
     (∀ r n, (s.port p).rx = .storing r n →
       exec (.frameTooLong p) s = .next ((releaseRecord r s).modPort p (fun u => { u with rx := .discarding .long })) ∧
       (12 ≤ (s.record r).cellCount → exec (.cellRequest p) s = .next s) ∧
       ((s.record r).cellCount < 12 →
         ((isCarriage p = true ∧ s.mem.freeCount ≤ s.mem.reserve) ∨ (isCarriage p = false ∧ s.mem.freeCount = 0) →
           exec (.cellRequest p) s = .next ((releaseRecord r s).modPort p (fun u => { u with rx := .discarding .nomem }))) ∧
         (∀ c rest l, s.mem.free = c :: rest → s.mem.freeCount = s.mem.free.length → (cellsOf s.mem r).getLast? = some l →
           (isCarriage p = true → s.mem.reserve < s.mem.freeCount) →
           exec (.cellRequest p) s = .next { s with
             ports := s.ports.modify p (fun u => { u with rx := .storing r ((s.record r).cellCount * 128 + 1) })
             mem := { s.mem with
               next := (s.mem.next.set c none).set l (some c), free := rest, freeCount := rest.length
               records := s.mem.records.modify r (fun x => { x with cellCount := x.cellCount + 1 }) }
             notice := { s.notice with
               flags := if rest.length ≤ s.mem.reserve then
                   s.notice.flags.modify (sourceIx .memoryLow) (fun f => { f with pending := true })
                 else s.notice.flags } })))) ∧
  (∀ (s : State) (r : RecordIx),
     (releaseRecord r s).mem.free = s.mem.free ++ cellsOf s.mem r ∧
     (releaseRecord r s).mem.freeCount = s.mem.freeCount + (cellsOf s.mem r).length ∧
     ((releaseRecord r s).record r).stage = .free ∧ ((releaseRecord r s).record r).cellCount = 0 ∧
     ((releaseRecord r s).record r).holders = 0 ∧ ((releaseRecord r s).record r).dest = none ∧
     ((releaseRecord r s).record r).cls = none ∧ ((releaseRecord r s).record r).rehomed = false ∧
     (∀ r', r' ≠ r → (releaseRecord r s).record r' = s.record r') ∧
     (∀ a, Memory.read (releaseRecord r s).mem.bytes a = Memory.read s.mem.bytes a) ∧
     releaseRecord r s = { s with mem := (releaseRecord r s).mem } ∧
     (releaseRecord r s).mem.next = s.mem.next ∧ (releaseRecord r s).mem.reserve = s.mem.reserve)

/-- FRAME_END that keeps no frame (01 R4, R6): a DISCARDING unit counts the frame under its reason; a STORING frame whose cells hold it
counts, in this order, as short, with a wrong check sequence, with a group source, or, with both intake places full, as an overrun, and
its record and cells return. The unit is IDLE afterwards, and exactly one counter of the port rises.

FRAME_END of a frame that passes its checks and finds room (01 R6, 06 R102): the record is DECIDING with its length, ingress port and
arrival stamp, and is the port's newest waiting frame; RX_FRAMES counts it; the frame reads back from its chain of cells byte for
byte, and no byte of memory outside those cells changes.

A frame that needs more cells than it holds first makes its next cell request (01 R2, log 8). One longer than 1,522 bytes is counted
RX_LONG (01 R3, R4). At an IDLE unit, or with fewer bytes than have arrived, nothing happens (log 2). -/
def Obligations.FrameEndTaken : Prop :=
  (∀ (s : State) (p : Port) (bytes : List Byte) (good : Bool),
     (∀ why, (s.port p).rx = .discarding why → exec (.frameEnd p bytes good) s = .next (s.modPort p (fun u =>
       { u with rx := .idle, counters := u.counters.modify (portCounterIx (match why with
           | .long => .rxLong
           | .nomem => .rxNomem
           | .held => .rxHeld)) satIncrement }))) ∧
     (∀ r n, (s.port p).rx = .storing r n → n ≤ bytes.length → bytes.length ≤ (s.record r).cellCount * 128 →
       bytes.length ≤ 1522 →
       (bytes.length < 64 ∨ good = false ∨ ((addrOf ((bytes.drop 6).take 6)).getLsbD 40 = true) ∨
         2 ≤ (s.port p).intake.length) →
       exec (.frameEnd p bytes good) s = .next ((releaseRecord r s).modPort p (fun u =>
         { u with rx := .idle, counters := u.counters.modify (portCounterIx (
             if bytes.length < 64 then .rxShort
             else if good = false then .rxCheck
             else if (addrOf ((bytes.drop 6).take 6)).getLsbD 40 = true then .rxBadsrc
             else .rxOverrun)) satIncrement })))) ∧
  (∀ (s : State) (p : Port) (bytes : List Byte) (r : RecordIx) (n : Nat),
     (s.port p).rx = .storing r n → n ≤ bytes.length → 64 ≤ bytes.length → bytes.length ≤ 1522 →
     bytes.length ≤ (s.record r).cellCount * 128 → (addrOf ((bytes.drop 6).take 6)).getLsbD 40 = false →
     (s.port p).intake.length < 2 → (cellsOf s.mem r).length = (s.record r).cellCount → (cellsOf s.mem r).Nodup →
     MemoryCanonical s →
     ∃ t, exec (.frameEnd p bytes true) s = .next t ∧
       t = { s with
         ports := s.ports.modify p (fun u => { u with
           rx := .idle, intake := u.intake ++ [r]
           counters := u.counters.modify (portCounterIx .rxFrames) satIncrement })
         mem := { s.mem with
           bytes := t.mem.bytes
           records := s.mem.records.modify r (fun x => { x with
             stage := .deciding, length := bytes.length, ingress := p, arrival := s.time.ms, rehomed := false }) } } ∧
       frameBytes t.mem r = bytes ∧ MemoryCanonical t ∧
       (∀ a, a ∉ (cellAddresses (cellsOf s.mem r)).take bytes.length →
         Memory.read t.mem.bytes a = Memory.read s.mem.bytes a)) ∧
  (∀ (s : State) (p : Port) (bytes : List Byte) (good : Bool),
    ((s.port p).rx = .idle → exec (.frameEnd p bytes good) s = .next s) ∧
    (∀ r n, (s.port p).rx = .storing r n →
      (bytes.length < n → exec (.frameEnd p bytes good) s = .next s) ∧
      (n ≤ bytes.length → 1 ≤ (s.record r).cellCount → (s.record r).cellCount < 12 →
        (s.record r).cellCount * 128 < bytes.length → ∃ t, exec (.cellRequest p) s = .next t ∧
          exec (.frameEnd p bytes good) s = exec (.frameEnd p bytes good) t) ∧
      (n ≤ bytes.length → 1522 < bytes.length → 12 ≤ (s.record r).cellCount ∨ bytes.length ≤ (s.record r).cellCount * 128 →
        exec (.frameEnd p bytes good) s = .next ((releaseRecord r s).modPort p (fun u =>
          { u with rx := .idle, counters := u.counters.modify (portCounterIx .rxLong) satIncrement })))))

/-! ## The decision -/

/-- The arbiter (01 R8): with a backbone frame waiting the other backbone port goes first, then the last one served; with none, the first
carriage port with a waiting frame going up from the one after the last served and round from 57 to 2. TAKE_FRAME takes the oldest
frame of the port chosen, which becomes the last served. At reset the last served are BA and 57. That TAKE_FRAME with nothing waiting
changes nothing is the model's choice (log 2). -/
def Obligations.ArbiterChoosesPort : Prop :=
  State.reset.arb = { lastBackbone := .aft, lastCarriage := 57 } ∧
  ∀ s : State,
    (∀ p, hasWaiting s p = true ↔ (s.port p).intake ≠ []) ∧
    (∀ p a r rest, arbitrate s = some (p, a) → (s.port p).intake = r :: rest →
      ∃ t, exec .takeFrame s = .next t ∧ t.arb = a ∧ (t.port p).intake = rest) ∧
    (∀ b, s.arb.lastBackbone = b → hasWaiting s (sidePort (otherSide b)) = true →
      arbitrate s = some (sidePort (otherSide b), { s.arb with lastBackbone := otherSide b })) ∧
    (∀ b, s.arb.lastBackbone = b → hasWaiting s (sidePort (otherSide b)) = false → hasWaiting s (sidePort b) = true →
      arbitrate s = some (sidePort b, s.arb)) ∧
    (hasWaiting s 0 = false → hasWaiting s 1 = false → 2 ≤ s.arb.lastCarriage.val → ∀ p : Port, isCarriage p = true →
      hasWaiting s p = true →
      (∀ q : Port, isCarriage q = true → hasWaiting s q = true →
        (p.val + 55 - s.arb.lastCarriage.val) % 56 ≤ (q.val + 55 - s.arb.lastCarriage.val) % 56) →
      arbitrate s = some (p, { s.arb with lastCarriage := p })) ∧
    ((∀ p, hasWaiting s p = false) → exec .takeFrame s = .next s)

/-- TAKE_FRAME of a carriage frame that is not decided (01 R10), or that carries the management type code (01 R11): it leaves its intake
place and its record and cells return, uncounted in the first case and counted MGMT_FROM_CARRIAGE in the second. No station is looked
up or learned. That the state of the port at the take decides also for a frame that waited while the link was lost and came back is the
model's choice (log 28).

TAKE_FRAME of a backbone frame in TRANSIT that is no management frame for this part (01 R20, R21, 06 R105): it is offered to the other
backbone port's through queue. Admitted, it is QUEUED there with class THROUGH and no destination; without that port's link it is
dropped as THROUGH_DROPS; refused otherwise, as ADMIT_DROPS of that queue.

TAKE_FRAME of any other frame, by its kind (01 R11 to R13, R17 to R20): a carriage frame in SERVICE goes through the source lookup, the
BARRED test, the attachment step, last seen, and then as a neighbour frame when its destination is in the table, upstream otherwise; a
management frame from the backbone goes to its decision, in SERVICE a group frame is replicated and an unknown destination passed
through. -/
def Obligations.FrameTakenByKind : Prop :=
  (∀ (s : State) (p : Port) (a : Arbiter) (r : RecordIx) (rest : List RecordIx),
     arbitrate s = some (p, a) → isCarriage p = true → (s.port p).intake = r :: rest →
     (s.line.part ≠ .service ∨ (s.port p).state = .off ∨ (s.port p).state = .down →
       exec .takeFrame s = .next (releaseRecord r
         { s with arb := a, ports := s.ports.modify p (fun u => { u with intake := rest }) })) ∧
     (s.line.part = .service → isUpOrHeld (s.port p).state = true →
       (readHeader (frameBytes s.mem r)).etype.toNat = 0x9A47 →
       exec .takeFrame s = .next (releaseRecord r
         { s with arb := a, ports := s.ports.modify p (fun u => { u with intake := rest })
                  globals := s.globals.modify (globalCounterIx .mgmtFromCarriage) satIncrement }))) ∧
  (∀ (s : State) (b : Side) (a : Arbiter) (r : RecordIx) (rest : List RecordIx),
     arbitrate s = some (sidePort b, a) → (s.port (sidePort b)).intake = r :: rest → s.line.part = .transit →
     (isManagement (readHeader (frameBytes s.mem r)) = true →
       targetMatches s.line (readMgmtHeader (frameBytes s.mem r)) = false) →
     let taken : State := { s with arb := a, ports := s.ports.modify (sidePort b) (fun u => { u with intake := rest }) }
     let out := sidePort (otherSide b)
     let q := QueueId.through (otherSide b)
     ((s.port out).link = false → exec .takeFrame s = .next (releaseRecord r
       { taken with globals := s.globals.modify (globalCounterIx .throughDrops) satIncrement })) ∧
     ((s.port out).link = true →
       ((s.port out).flush = none → (s.queue q).tally + (s.record r).cellCount ≤ (s.queue q).limit →
         exec .takeFrame s = .next { taken with
           queues := s.queues.modify (queueIx q) (fun x =>
             { x with records := x.records ++ [r], tally := x.tally + (s.record r).cellCount })
           mem := { s.mem with records := s.mem.records.modify r (fun x =>
             { x with stage := .queued, holders := x.holders + 1, cls := some .through, dest := none }) } }) ∧
       ((s.port out).flush ≠ none ∨ (s.queue q).limit < (s.queue q).tally + (s.record r).cellCount →
         exec .takeFrame s = .next (releaseRecord r
           { taken with queues := s.queues.modify (queueIx q) (fun x => { x with drops := satIncrement x.drops }) })))) ∧
  (∀ (s : State) (p : Port) (a : Arbiter) (r : RecordIx) (rest : List RecordIx),
    arbitrate s = some (p, a) → isCarriage p = true → (s.port p).intake = r :: rest → s.line.part = .service →
    isUpOrHeld (s.port p).state = true → (readHeader (frameBytes s.mem r)).etype.toNat ≠ 0x9A47 →
    let h := readHeader (frameBytes s.mem r)
    let taken : State := { s with arb := a, ports := s.ports.modify p (fun u => { u with intake := rest }) }
    (∀ t, sourceEntry h.src p taken = .error t → exec .takeFrame s = .next (releaseRecord r t)) ∧
    (∀ i t, sourceEntry h.src p taken = .ok (i, t) →
      ((t.entry i).state = .barred → exec .takeFrame s = .next (releaseRecord r (countStation i .refused t))) ∧
      ((t.entry i).state ≠ .barred →
        (∀ u, attachStep i p t = .error u → exec .takeFrame s = .next (releaseRecord r u)) ∧
        (∀ u, attachStep i p t = .ok u →
          let v := u.modEntry i (fun e => { e with lastSeen := s.time.seconds, expiryDue := false })
          (∀ d, lookup v.table h.dst = some d → exec .takeFrame s = .next (settleVerdict r (neighbour i d r v))) ∧
          (lookup v.table h.dst = none →
            exec .takeFrame s = .next (settleVerdict r (upstream i (classify .up h.dst h s.cls) r v))))))) ∧
  (∀ (s : State) (b : Side) (a : Arbiter) (r : RecordIx) (rest : List RecordIx),
    arbitrate s = some (sidePort b, a) → (s.port (sidePort b)).intake = r :: rest →
    let h := readHeader (frameBytes s.mem r)
    let taken : State := { s with arb := a, ports := s.ports.modify (sidePort b) (fun u => { u with intake := rest }) }
    (s.line.part ≠ .reset → isManagement h = true → exec .takeFrame s = .next (decideManagement b r taken)) ∧
    (s.line.part = .service → isManagement h = false → lookup s.table h.src = none →
      (isGroup h.dst = true → exec .takeFrame s = .next (replicate b r taken)) ∧
      (isGroup h.dst = false → lookup s.table h.dst = none →
        exec .takeFrame s = .next (settleVerdict r (throughOffer (otherSide b) r taken)))))

/-- A backbone management frame whose target matches (01 R17, 10 R156): not of kind 1, it counts MGMT_BAD; with the input queue full it
counts MGMT_OVERRUN and makes that source pending; otherwise its bytes, arrival port and source address join the input queue. Of
target position or identifier its record and cells then return; of target all it is offered to the other through queue as well.

A target matches (01 R17) when its form is 0; or 1 and the position is this part's and not 0; or 2 and the identifier is this part's. The
header of a frame and of its management body are read at their places, with a VLAN tag and without one (01 R9, 12 R173). -/
def Obligations.ManagementFrameHanded : Prop :=
  (∀ (l : LineController) (m : MgmtHeader), targetMatches l m = true ↔
    m.form = 0 ∨ (m.form = 1 ∧ m.position = l.position.val ∧ l.position ≠ 0) ∨ (m.form = 2 ∧ m.ident = l.deviceId)) ∧
  (∀ (h : Header) (rest : List Byte), (h.tag = none → h.etype.toNat ≠ 0x8100) → h.body = (if h.tag = none then 14 else 18) →
    readHeader (addrBytes h.dst ++ addrBytes h.src
      ++ (match h.tag with | none => [] | some t => [0x81, 0x00] ++ beBytes 2 t.toNat) ++ beBytes 2 h.etype.toNat ++ rest) = h) ∧
  (∀ (m : MgmtHeader) (bytes rest : List Byte), (∀ x ∈ [m.version, m.kind, m.form, m.position, m.count], x < 256) →
    bytes.drop (readHeader bytes).body = beBytes 1 m.version ++ beBytes 1 m.kind ++ beBytes 1 m.form ++ beBytes 1 m.position
      ++ addrBytes m.ident ++ beBytes 2 m.tag.toNat ++ beBytes 1 m.count ++ rest → readMgmtHeader bytes = m) ∧
  (∀ (s : State) (b : Side) (r : RecordIx),
    let bytes := frameBytes s.mem r
    targetMatches s.line (readMgmtHeader bytes) = true →
    let handed : State :=
      if (readMgmtHeader bytes).kind ≠ 1 then
        { s with globals := s.globals.modify (globalCounterIx .mgmtBad) satIncrement }
      else if s.mgmt.input.length < 2 then
        { s with mgmt := { s.mgmt with
            input := s.mgmt.input ++ [{ bytes := bytes, arrival := b, source := addrOf ((bytes.drop 6).take 6) }] } }
      else
        { s with
          globals := s.globals.modify (globalCounterIx .mgmtOverrun) satIncrement
          notice := { s.notice with
            flags := s.notice.flags.modify (sourceIx .mgmtOverrun) (fun f => { f with pending := true }) } }
    ((readMgmtHeader bytes).form ≠ 0 → decideManagement b r s = releaseRecord r handed) ∧
    ((readMgmtHeader bytes).form = 0 → decideManagement b r s = settleVerdict r (throughOffer (otherSide b) r handed)))

/-! ## The station table -/

/-- The bucket of an address is the exclusive-or of its six bytes modulo 128 (02 R24), so three given addresses are of bucket 88. A lookup
answers a non-FREE way of that bucket holding the address, and misses only where none does (02 R25); the way that a new entry takes is
the lowest FREE one of the bucket (02 R26). -/
def Obligations.LookupFindsWayOfBucket : Prop :=
  (∀ a : Addr, (bucketOf a).val = (a.extractLsb' 40 8 ^^^ a.extractLsb' 32 8 ^^^ a.extractLsb' 24 8 ^^^ a.extractLsb' 16 8
    ^^^ a.extractLsb' 8 8 ^^^ a.extractLsb' 0 8).toNat % 128) ∧
  bucketOf 0x021A3C4D5E6F = 88 ∧ bucketOf 0x0A0000000052 = 88 ∧ bucketOf 0x12000000004A = 88 ∧
  (∀ i : StationIx, i.val / 4 = 88 ↔ 352 ≤ i.val ∧ i.val ≤ 355) ∧
  (∀ (t : StationTable) (a : Addr),
    (∀ i, lookup t a = some i →
      i.val / 4 = (bucketOf a).val ∧ (t.entries.get i).state ≠ .free ∧ (t.entries.get i).addr = a) ∧
    (lookup t a = none ↔ ∀ i : StationIx, i.val / 4 = (bucketOf a).val →
      (t.entries.get i).state = .free ∨ (t.entries.get i).addr ≠ a) ∧
    (∀ i, freeWay t a = some i ↔ i.val / 4 = (bucketOf a).val ∧ (t.entries.get i).state = .free ∧
      ∀ j < i, j.val / 4 = (bucketOf a).val → (t.entries.get j).state ≠ .free) ∧
    (freeWay t a = none ↔ ∀ i : StationIx, i.val / 4 = (bucketOf a).val → (t.entries.get i).state ≠ .free))

/-- The source lookup of a carriage frame (01 R11, 02 R26, R27, R41). A hit names its entry and changes nothing. On a miss the lowest
FREE way of the bucket becomes LEARNED with profile 0, unmetered, detached, its credits the bursts of profile 0, its last refill tick
and last seen now; a LEARNED record with the ingress port is posted, or, with 48 records in the report queue, marked pending. With no
FREE way the frame is dropped, LEARN_FAIL counted and pending, and no entry changes. -/
def Obligations.SourceLearned : Prop :=
  ∀ (s : State) (a : Addr) (p : Port),
    (∀ i, lookup s.table a = some i → sourceEntry a p s = .ok (i, s)) ∧
    (lookup s.table a = none →
      (∀ i, freeWay s.table a = some i → sourceEntry a p s = .ok (i, { s with
        table := { s.table with
          entries := s.table.entries.set i { StationEntry.freed s.time.tick with
            state := .learned, addr := a, upCredit := ((s.profile 0).rates.upBurst : Int)
            downCredit := ((s.profile 0).rates.downBurst : Int), lastSeen := s.time.seconds
            learnedPending := if s.table.reports.length < 48 then none else some p }
          reports := s.table.reports ++ (if s.table.reports.length < 48 then [.learned i a p] else []) }
        notice := { s.notice with
          flags := s.notice.flags.modify
            (sourceIx (if s.table.reports.length < 48 then .reports else .reportBacklog))
            (fun f => { f with pending := true }) } })) ∧
      (freeWay s.table a = none → sourceEntry a p s = .error { s with
        globals := s.globals.modify (globalCounterIx .learnFail) satIncrement
        notice := { s.notice with
          flags := s.notice.flags.modify (sourceIx .learnFail) (fun f => { f with pending := true }) } }))

/-- The attachment step of station i heard on port p (05 R81 to R86). On its own port it continues unchanged. Detached, it attaches,
unless p is a seat port at its seat limit. On another port it is dropped when pinned; within the hold-off it is refused, its flap count
rises to at most 15, and at the flap limit it is pinned with a PINNED record, or a mark with 48 records in the queue; a full seat port
refuses it; otherwise the seat counts and the attachment follow it. -/
def Obligations.AttachmentStepTaken : Prop :=
  ∀ (s : State) (i : StationIx) (p : Port),
    let counted : StationCounter → Except State State := fun c =>
      .error { s with table := { s.table with entries := s.table.entries.modify i (fun e =>
        { e with counters := e.counters.modify (stationCounterIx c) satIncrement }) } }
    let seats := fun (q : Port) (f : Nat → Nat) (t : Tab PortUnit 58) =>
      if 10 ≤ q.val then t.modify q (fun u => { u with seatCount := f u.seatCount }) else t
    let full := 10 ≤ p.val ∧ (s.port p).seatLimit ≤ (s.port p).seatCount
    let attached := s.table.entries.modify i (fun e =>
      { e with attachment := some p, recentlyMoved := true, movedAt := s.time.ms })
    ((s.entry i).attachment = some p → attachStep i p s = .ok s) ∧
    ((s.entry i).attachment = none →
      (full → attachStep i p s = counted .seatLimit) ∧
      (¬ full → attachStep i p s = .ok { s with
        ports := seats p (· + 1) s.ports, table := { s.table with entries := attached } })) ∧
    (∀ j, (s.entry i).attachment = some j → j ≠ p →
      ((s.entry i).pinned = true → attachStep i p s = counted .pinnedDrop) ∧
      ((s.entry i).pinned = false →
        let held := (s.entry i).recentlyMoved = true ∧ (s.time.ms - (s.entry i).movedAt).toNat < s.roam.holdOff
        let flap := min 15 ((s.entry i).flapCount + 1)
        (held → flap < s.roam.flapLimit → attachStep i p s = .error { s with
          table := { s.table with entries := s.table.entries.modify i (fun e => { e with
            flapCount := flap, counters := e.counters.modify (stationCounterIx .refused) satIncrement }) } }) ∧
        (held → s.roam.flapLimit ≤ flap → attachStep i p s = .error { s with
          table := { s.table with
            entries := s.table.entries.modify i (fun e => { e with
              flapCount := flap, pinned := true
              pinnedPending := if s.table.reports.length < 48 then none else some p
              counters := e.counters.modify (stationCounterIx .refused) satIncrement })
            reports := s.table.reports
              ++ (if s.table.reports.length < 48 then [.pinned i (s.entry i).addr p] else []) }
          notice := { s.notice with
            flags := s.notice.flags.modify
              (sourceIx (if s.table.reports.length < 48 then .reports else .reportBacklog))
              (fun f => { f with pending := true }) } }) ∧
        (¬ held → full → attachStep i p s = counted .seatLimit) ∧
        (¬ held → ¬ full → attachStep i p s = .ok { s with
          ports := seats p (· + 1) (seats j (· - 1) s.ports), table := { s.table with entries := attached } })))

/-! ## Metering and the decision of frames of stations -/

/-- The charge of a frame of n bytes at commit (04 R71, R72, R73): under a COUNTED grant a metered station that is not spent pays n
divided by 64, rounded up. Where that is less than the allowance, the allowance falls by it; otherwise it becomes 0, spent is set, and a
SPENT record is posted, or marked with 48 records in the queue. In every other case nothing changes. -/
def Obligations.AllowanceCharged : Prop :=
  ∀ (s : State) (i : StationIx) (g : Grant) (n : Nat),
    let pays := g.counted = true ∧ (s.entry i).metered = true ∧ (s.entry i).spent = false
    (¬ pays → chargeAllowance g i n s = s) ∧
    (pays → (n + 63) / 64 < (s.entry i).allowance → chargeAllowance g i n s = { s with
      table := { s.table with entries := s.table.entries.modify i (fun e =>
        { e with allowance := e.allowance - (n + 63) / 64 }) } }) ∧
    (pays → (s.entry i).allowance ≤ (n + 63) / 64 → chargeAllowance g i n s = { s with
      table := { s.table with
        entries := s.table.entries.modify i (fun e => { e with
          allowance := 0, spent := true, spentPending := decide (48 ≤ s.table.reports.length) })
        reports := s.table.reports ++ (if s.table.reports.length < 48 then [.spent i (s.entry i).addr] else []) }
      notice := { s.notice with
        flags := s.notice.flags.modify (sourceIx (if s.table.reports.length < 48 then .reports else .reportBacklog))
          (fun f => { f with pending := true }) } })

/-- TAKE_FRAME of an upstream frame in SERVICE whose source is known, not BARRED and attached to the ingress port (01 R12 to R16, 04
R67 to R69). The source's last seen is now. The up permit, the up policing and the allowance are tested in this order; the first that
fails counts REFUSED, UP_POLICED or SPENT_DROPS, and record and cells return; a refill made stays made. Refused by the class queue of the
gateway side, it counts ADMIT_DROPS, makes QUEUE_DROP pending and costs nothing. Admitted, it joins that queue, the up credit falls by
its length under POLICED, the allowance is charged, and UP_FRAMES counts it.

The zone of a frame (03 R44 to R46) is that of the first entry, in ascending index, that takes part in the leg and matches, and 15 when
none does. An entry matches when it is valid, agrees with the address wherever its mask has a one, and its type code and VLAN identifier,
where present, are the frame's. That the identifier is the low 12 bits of the tag's control field is PRESUMED (log 23). -/
def Obligations.UpstreamFrameDecided : Prop :=
  (∀ (z : ZoneEntry) (a : Addr) (h : Header), zoneMatches z a h = true ↔
    z.valid = true ∧ (∀ k, z.fields.mask.getLsbD k = true → a.getLsbD k = z.fields.value.getLsbD k) ∧
    (∀ t, z.fields.etype = some t → h.etype = t) ∧
    (∀ v, z.fields.vlan = some v → ∃ t, h.tag = some t ∧ t.toNat % 4096 = v.toNat)) ∧
  (∀ (l : Leg) (a : Addr) (h : Header) (c : Classifier),
    let agrees := fun i : Fin 64 => (c.zones.get i).fields.dir ≠ (match l with | .up => .down | .down => .up)
      ∧ zoneMatches (c.zones.get i) a h = true
    (∀ i, agrees i → (∀ j < i, ¬ agrees j) → (classify l a h c).val = (c.zones.get i).fields.zone.val) ∧
    ((∀ i, ¬ agrees i) → classify l a h c = 15)) ∧
  (∀ (s : State) (p : Port) (a : Arbiter) (r : RecordIx) (rest : List RecordIx) (i : StationIx) (b : Side),
     arbitrate s = some (p, a) → isCarriage p = true → (s.port p).intake = r :: rest → s.line.part = .service →
     isUpOrHeld (s.port p).state = true → s.line.gateway = some b →
     let h := readHeader (frameBytes s.mem r)
     h.etype.toNat ≠ 0x9A47 → lookup s.table h.src = some i → (s.entry i).state ≠ .barred →
     (s.entry i).attachment = some p → lookup s.table h.dst = none →
     let g := (s.profile (s.entry i).profile).grants.get (classify .up h.dst h s.cls)
     let n := (s.record r).length
     let q := QueueId.cls b g.cls
     let seen := { s.entry i with lastSeen := s.time.seconds, expiryDue := false }
     let tested := if g.policed then refilled (s.profile (s.entry i).profile).rates s.time.tick seen else seen
     let taken : State := { s with arb := a, ports := s.ports.modify p (fun u => { u with intake := rest }) }
     let source := fun e : StationEntry => { s.table with entries := s.table.entries.set i e }
     let dropped := fun (e : StationEntry) (c : StationCounter) =>
       Host.Outcome.next (φ := Fault) (ρ := Refusal) (releaseRecord r { taken with
         table := source { e with counters := e.counters.modify (stationCounterIx c) satIncrement } })
     (g.upPermit = false → exec .takeFrame s = dropped seen .refused) ∧
     (g.upPermit = true →
       (g.policed = true → tested.upCredit < 1 → exec .takeFrame s = dropped tested .upPoliced) ∧
       ((g.policed = true → 1 ≤ tested.upCredit) →
         (g.counted = true ∧ (s.entry i).metered = true ∧ (s.entry i).spent = true →
           exec .takeFrame s = dropped tested .spentDrops) ∧
         (¬ (g.counted = true ∧ (s.entry i).metered = true ∧ (s.entry i).spent = true) →
           (queueAdmits q (s.record r).cellCount s = false → exec .takeFrame s = .next (releaseRecord r { taken with
             table := source tested
             queues := s.queues.modify (queueIx q) (fun x => { x with drops := satIncrement x.drops })
             notice := { s.notice with
               flags := s.notice.flags.modify (sourceIx .queueDrop) (fun f => { f with pending := true }) } })) ∧
           (queueAdmits q (s.record r).cellCount s = true → exec .takeFrame s = .next
             (countStation i .upFrames (chargeAllowance g i n { taken with
               table := source (if g.policed then { tested with upCredit := tested.upCredit - (n : Int) } else tested)
               queues := s.queues.modify (queueIx q) (fun x =>
                 { x with records := x.records ++ [r], tally := x.tally + (s.record r).cellCount })
               mem := { s.mem with records := s.mem.records.modify r (fun x =>
                 { x with stage := .queued, holders := x.holders + 1, cls := some (.grant g.cls), dest := none }) } })))))))

/-- A neighbour frame from station i to another station d (01 R14 to R16, 04 R67 to R69), with the tests in this order, the first
failure dropping it: up permit, destination BARRED, destination permit, destination attached, up policing, down policing, up allowance,
down allowance, admission to the queue of d's port. Refills made stay made; nothing is deducted before commit. Admitted, the record
names d, whose held count rises, both credits fall under POLICED, i's allowance is charged before d's, and UP_FRAMES and DOWN_FRAMES
count it.

A frame that a station sends to itself (04 R67, R69, R72) meets the same tests with its one entry as source and destination: it is refilled
once in effect, up credit and down credit are both tested and both fall, the allowance is charged twice, and both counters rise. -/
def Obligations.NeighbourFrameDecided : Prop :=
  (∀ (s : State) (i d : StationIx) (r : RecordIx), i ≠ d →
     let g := (s.profile (s.entry i).profile).grants.get 14
     let h := (s.profile (s.entry d).profile).grants.get 14
     let n := (s.record r).length
     let x := if g.policed then refilled (s.profile (s.entry i).profile).rates s.time.tick (s.entry i) else s.entry i
     let y := if h.policed then refilled (s.profile (s.entry d).profile).rates s.time.tick (s.entry d) else s.entry d
     let both := fun e f : StationEntry => { s with
       table := { s.table with entries := (s.table.entries.set i e).set d f } }
     let counting := fun (c : StationCounter) (e : StationEntry) =>
       { e with counters := e.counters.modify (stationCounterIx c) satIncrement }
     let spent := fun (u : Grant) (e : StationEntry) => u.counted = true ∧ e.metered = true ∧ e.spent = true
     (g.upPermit = false → neighbour i d r s = .error (both (counting .refused (s.entry i)) (s.entry d))) ∧
     (g.upPermit = true →
       ((s.entry d).state = .barred ∨ h.downPermit = false →
         neighbour i d r s = .error (both (s.entry i) (counting .refused (s.entry d)))) ∧
       ((s.entry d).state ≠ .barred → h.downPermit = true →
         ((s.entry d).attachment = none → neighbour i d r s
           = .error { s with globals := s.globals.modify (globalCounterIx .unreachable) satIncrement }) ∧
         (∀ p, (s.entry d).attachment = some p →
           (g.policed = true → x.upCredit < 1 →
             neighbour i d r s = .error (both (counting .upPoliced x) (s.entry d))) ∧
           ((g.policed = true → 1 ≤ x.upCredit) →
             (h.policed = true → y.downCredit < 1 → neighbour i d r s = .error (both x (counting .downPoliced y))) ∧
             ((h.policed = true → 1 ≤ y.downCredit) →
               (spent g (s.entry i) → neighbour i d r s = .error (both (counting .spentDrops x) y)) ∧
               (¬ spent g (s.entry i) → spent h (s.entry d) →
                 neighbour i d r s = .error (both x (counting .spentDrops y))) ∧
               (¬ spent g (s.entry i) → ¬ spent h (s.entry d) →
                 let q := stationQueue p h.cls
                 (queueAdmits q (s.record r).cellCount s = false → neighbour i d r s = .error { both x y with
                   queues := s.queues.modify (queueIx q) (fun z => { z with drops := satIncrement z.drops }) }) ∧
                 (queueAdmits q (s.record r).cellCount s = true → neighbour i d r s = .ok
                   (countStation d .downFrames (countStation i .upFrames (chargeAllowance h d n (chargeAllowance g i n
                     { both (if g.policed then { x with upCredit := x.upCredit - (n : Int) } else x)
                         (if h.policed then { y with downCredit := y.downCredit - (n : Int), heldCount := y.heldCount + 1 }
                          else { y with heldCount := y.heldCount + 1 }) with
                       queues := s.queues.modify (queueIx q) (fun z =>
                         { z with records := z.records ++ [r], tally := z.tally + (s.record r).cellCount })
                       mem := { s.mem with records := s.mem.records.modify r (fun z => { z with
                         stage := .queued, holders := z.holders + 1, cls := some (.grant h.cls)
                         dest := some d }) } })))))))))))) ∧
  (∀ (s : State) (i : StationIx) (r : RecordIx),
    let g := (s.profile (s.entry i).profile).grants.get 14
    let n := (s.record r).length
    let x := if g.policed then refilled (s.profile (s.entry i).profile).rates s.time.tick (s.entry i) else s.entry i
    let own := fun e : StationEntry => { s with table := { s.table with entries := s.table.entries.set i e } }
    let dropped := fun (c : StationCounter) (e : StationEntry) => Except.error (α := State)
      (own { e with counters := e.counters.modify (stationCounterIx c) satIncrement })
    (g.upPermit = false ∨ (s.entry i).state = .barred ∨ g.downPermit = false →
      neighbour i i r s = dropped .refused (s.entry i)) ∧
    (g.upPermit = true → (s.entry i).state ≠ .barred → g.downPermit = true →
      ((s.entry i).attachment = none → neighbour i i r s
        = .error { s with globals := s.globals.modify (globalCounterIx .unreachable) satIncrement }) ∧
      (∀ p, (s.entry i).attachment = some p →
        (g.policed = true → x.upCredit < 1 → neighbour i i r s = dropped .upPoliced x) ∧
        (g.policed = true → 1 ≤ x.upCredit → x.downCredit < 1 → neighbour i i r s = dropped .downPoliced x) ∧
        ((g.policed = true → 1 ≤ x.upCredit ∧ 1 ≤ x.downCredit) →
          let spent := g.counted = true ∧ (s.entry i).metered = true ∧ (s.entry i).spent = true
          let q := stationQueue p g.cls
          (spent → neighbour i i r s = dropped .spentDrops x) ∧
          (¬ spent → queueAdmits q (s.record r).cellCount s = false → neighbour i i r s = .error { own x with
            queues := s.queues.modify (queueIx q) (fun z => { z with drops := satIncrement z.drops }) }) ∧
          (¬ spent → queueAdmits q (s.record r).cellCount s = true → neighbour i i r s = .ok
            (countStation i .downFrames (countStation i .upFrames (chargeAllowance g i n (chargeAllowance g i n
              { own { x with
                  upCredit := if g.policed then x.upCredit - (n : Int) else x.upCredit
                  downCredit := if g.policed then x.downCredit - (n : Int) else x.downCredit
                  heldCount := x.heldCount + 1 } with
                queues := s.queues.modify (queueIx q) (fun z =>
                  { z with records := z.records ++ [r], tally := z.tally + (s.record r).cellCount })
                mem := { s.mem with records := s.mem.records.modify r (fun z => { z with
                  stage := .queued, holders := z.holders + 1, cls := some (.grant g.cls), dest := some i }) } })))))))))

/-- TAKE_FRAME in SERVICE of a backbone frame that is no management frame (01 R18, R19). From a local source it is dropped as
LOCAL_SOURCE. For a station of the table, tested in this order: BARRED, attached, down permit of the zone of its source address, down
policing, allowance, admission to the queue of the station's port. Admitted, the record names the station, whose held count rises, the
down credit falls under POLICED, the allowance is charged, DOWN_FRAMES counts it, and last seen stays.

The queue of a station's port (01 R16, 03 R51) is the seat queue, or at a radio port the priority queue for class 0 and the normal queue for
the others. A queue admits a frame (06 R105) exactly when its port takes frames (a carriage port UP or HELD, a backbone port with its
link), no flush walk of the port runs, and the tally with the frame's cells is within the limit. -/
def Obligations.DownstreamFrameDecided : Prop :=
  (∀ (k : Fin 48) (c : Fin 4) (p : Port), p.val = 10 + k.val → stationQueue p c = .seat k) ∧
  (∀ (k : Fin 8) (c : Fin 4) (p : Port), p.val = 2 + k.val → stationQueue p c = if c = 0 then .priority k else .normal k) ∧
  (∀ (s : State) (q : QueueId) (cells : Nat), queueAdmits q cells s = true ↔
    (isCarriage (queuePort q) = true → (s.port (queuePort q)).state = .up ∨ (s.port (queuePort q)).state = .held) ∧
    (isCarriage (queuePort q) = false → (s.port (queuePort q)).link = true) ∧
    (s.port (queuePort q)).flush = none ∧ (s.queue q).tally + cells ≤ (s.queue q).limit) ∧
  (∀ (s : State) (b : Side) (a : Arbiter) (r : RecordIx) (rest : List RecordIx),
     arbitrate s = some (sidePort b, a) → (s.port (sidePort b)).intake = r :: rest → s.line.part = .service →
     let h := readHeader (frameBytes s.mem r)
     isManagement h = false →
     let taken : State := { s with arb := a, ports := s.ports.modify (sidePort b) (fun u => { u with intake := rest }) }
     let released := fun t : State => Host.Outcome.next (φ := Fault) (ρ := Refusal) (releaseRecord r t)
     (lookup s.table h.src ≠ none → exec .takeFrame s
       = released { taken with globals := s.globals.modify (globalCounterIx .localSource) satIncrement }) ∧
     (lookup s.table h.src = none → isGroup h.dst = false → ∀ d, lookup s.table h.dst = some d →
       let g := (s.profile (s.entry d).profile).grants.get (classify .down h.src h s.cls)
       let n := (s.record r).length
       let y := if g.policed then refilled (s.profile (s.entry d).profile).rates s.time.tick (s.entry d) else s.entry d
       let station := fun e : StationEntry => { s.table with entries := s.table.entries.set d e }
       let dropped := fun (e : StationEntry) (c : StationCounter) => released { taken with
         table := station { e with counters := e.counters.modify (stationCounterIx c) satIncrement } }
       ((s.entry d).state = .barred → exec .takeFrame s = dropped (s.entry d) .refused) ∧
       ((s.entry d).state ≠ .barred →
         ((s.entry d).attachment = none → exec .takeFrame s
           = released { taken with globals := s.globals.modify (globalCounterIx .unreachable) satIncrement }) ∧
         (∀ p, (s.entry d).attachment = some p →
           (g.downPermit = false → exec .takeFrame s = dropped (s.entry d) .refused) ∧
           (g.downPermit = true → g.policed = true → y.downCredit < 1 → exec .takeFrame s = dropped y .downPoliced) ∧
           (g.downPermit = true → (g.policed = true → 1 ≤ y.downCredit) →
             (g.counted = true ∧ (s.entry d).metered = true ∧ (s.entry d).spent = true →
               exec .takeFrame s = dropped y .spentDrops) ∧
             (¬ (g.counted = true ∧ (s.entry d).metered = true ∧ (s.entry d).spent = true) →
               let q := stationQueue p g.cls
               (queueAdmits q (s.record r).cellCount taken = false → exec .takeFrame s = released { taken with
                 table := station y
                 queues := s.queues.modify (queueIx q) (fun x => { x with drops := satIncrement x.drops }) }) ∧
               (queueAdmits q (s.record r).cellCount taken = true → exec .takeFrame s = .next
                 (countStation d .downFrames (chargeAllowance g d n { taken with
                   table := station (if g.policed
                     then { y with downCredit := y.downCredit - (n : Int), heldCount := y.heldCount + 1 }
                     else { y with heldCount := y.heldCount + 1 })
                   queues := s.queues.modify (queueIx q) (fun x =>
                     { x with records := x.records ++ [r], tally := x.tally + (s.record r).cellCount })
                   mem := { s.mem with records := s.mem.records.modify r (fun x => { x with
                     stage := .queued, holders := x.holders + 1, cls := some (.grant g.cls)
                     dest := some d }) } })))))))))

/-- A group frame taken from a backbone port (01 R18, 06 R106, R107): a copy is offered to the other through queue and to the flood queue
of each carriage port that is UP or HELD with flood on. Each queue that admits it lists it once more and counts its cells; the through
queue of a port without link counts THROUGH_DROPS, any other that refuses counts ADMIT_DROPS. The record, of class THROUGH without a
destination, has as many holders as queues admitted it; with none its record and cells return. -/
def Obligations.GroupFrameReplicated : Prop :=
  ∀ (s : State) (b : Side) (r : RecordIx), (s.record r).holders = 0 →
    let cells := (s.record r).cellCount
    let offered := fun q : QueueId => q ∈ floodQueues b s
    let n := (floodQueues b s).countP (fun q => queueAdmits q cells s)
    let t := replicate b r s
    (floodQueues b s).Nodup ∧
    (∀ q, offered q ↔ q = .through (otherSide b) ∨ (isCarriage (queuePort q) = true ∧
      isUpOrHeld (s.port (queuePort q)).state = true ∧ (s.port (queuePort q)).flood = true ∧ ∀ k, q ≠ .priority k)) ∧
    (n ≠ 0 → (t.record r).holders = n ∧ (t.record r).stage = .queued ∧ (t.record r).cls = some .through ∧
      (t.record r).dest = none ∧ t.mem.free = s.mem.free) ∧
    (n = 0 → (t.record r).stage = .free ∧ t.mem.free = s.mem.free ++ cellsOf s.mem r) ∧
    (∀ q, offered q → queueAdmits q cells s = true → t.queue q = { s.queue q with
      records := (s.queue q).records ++ [r], tally := (s.queue q).tally + cells }) ∧
    (∀ q, offered q → queueAdmits q cells s = false →
      ((q = .through (otherSide b) ∧ (s.port (sidePort (otherSide b))).link = false) →
        t.queue q = s.queue q ∧ t.globals = s.globals.modify (globalCounterIx .throughDrops) satIncrement) ∧
      (¬ (q = .through (otherSide b) ∧ (s.port (sidePort (otherSide b))).link = false) →
        t.queue q = { s.queue q with drops := satIncrement (s.queue q).drops })) ∧
    (∀ q, ¬ offered q → t.queue q = s.queue q) ∧
    ((s.port (sidePort (otherSide b))).link = true → t.globals = s.globals) ∧
    (∀ r', r' ≠ r → t.record r' = s.record r') ∧ t.mem.bytes = s.mem.bytes ∧
    t = { s with queues := t.queues, mem := t.mem, globals := t.globals }

/-! ## Queues and transmission -/

/-- A record leaves a queue (06 R108, 02 R33, R35, 07 R124, R127): the queue loses it and its cells, a normal queue left empty has its
port's guard count at 0, a deficit round robin queue its deficit; the holders fall by one and at 0 the record and its cells return; the
held count of the station it names falls by one, and at 0 a released station whose walk has ended is freed, RELEASE finishing DONE. -/
def Obligations.RecordLeavesQueue : Prop :=
  ∀ (s : State) (q : QueueId) (r : RecordIx),
    let t := leaveQueue q r s
    let left := (s.queue q).records.erase r
    t.queue q = { s.queue q with records := left, tally := (s.queue q).tally - (s.record r).cellCount } ∧
    (∀ q', q' ≠ q → t.queue q' = s.queue q') ∧
    (left = [] → (∀ k, q = .normal k → (t.port (queuePort q)).guardCount = 0) ∧
      (∀ b d, q = drrQueue b d → (t.side b).deficit.get (drrIx d) = 0)) ∧
    (left ≠ [] → t.fore = s.fore ∧ t.aft = s.aft ∧ ∀ p, (t.port p).guardCount = (s.port p).guardCount) ∧
    ((s.record r).holders ≤ 1 → (t.record r).stage = .free ∧ t.mem.free = s.mem.free ++ cellsOf s.mem r) ∧
    (1 < (s.record r).holders → t.record r = { s.record r with holders := (s.record r).holders - 1 } ∧
      t.mem.free = s.mem.free) ∧
    (∀ r', r' ≠ r → t.record r' = s.record r') ∧ t.mem.bytes = s.mem.bytes ∧
    ((s.record r).dest = none → t.table = s.table ∧ t.mgmt = s.mgmt) ∧
    (∀ i, (s.record r).dest = some i → (∀ j, j ≠ i → t.entry j = s.entry j) ∧
      ((∀ f, s.mgmt.exec = some f → f.phase ≠ .releaseWait i) ∨ 1 < (s.entry i).heldCount →
        t.entry i = { s.entry i with heldCount := (s.entry i).heldCount - 1 } ∧ t.mgmt = s.mgmt) ∧
      ((∃ f, s.mgmt.exec = some f ∧ f.phase = .releaseWait i) → (s.entry i).heldCount ≤ 1 →
        t.entry i = StationEntry.freed (s.entry i).lastRefill ∧ t.mgmt = (finishItem .done [] s).mgmt)) ∧
    t.table.reports = s.table.reports ∧ t.notice = s.notice ∧ t.globals = s.globals ∧ t.line = s.line ∧ t.time = s.time ∧
    ∀ p, (t.port p).link = (s.port p).link ∧ (t.port p).tx = (s.port p).tx ∧ (t.port p).intake = (s.port p).intake

/-- The re-home check of the head r of a carriage-port queue q (05 R93 to R97). Without a destination it is sent. A BARRED destination
drops it as REFUSED, a detached one as UNREACHABLE; one attached to this port has it sent. For one attached to another port p, a record
not yet re-homed, no older than the re-home limit, that p's queue admits moves to the tail of that queue, marked re-homed, counted
REHOMED, its holders and its station's held count as they were; any other is dropped as STALE_DROPS. -/
def Obligations.HeadMeetsRehomeCheck : Prop :=
  ∀ (s : State) (q : QueueId) (r : RecordIx) (l : List RecordIx), isCarriage (queuePort q) = true →
    (s.queue q).records = r :: l →
    ((s.record r).dest = none → rehomeCheck q r s = .send) ∧
    (∀ i, (s.record r).dest = some i →
      ((s.entry i).state = .barred → rehomeCheck q r s = .gone (leaveQueue q r (countStation i .refused s))) ∧
      ((s.entry i).state ≠ .barred →
        ((s.entry i).attachment = none → rehomeCheck q r s = .gone (leaveQueue q r (countGlobal .unreachable s))) ∧
        ((s.entry i).attachment = some (queuePort q) → rehomeCheck q r s = .send) ∧
        (∀ p c, (s.entry i).attachment = some p → p ≠ queuePort q → isCarriage p = true →
          (s.record r).cls = some (.grant c) →
          let q' := stationQueue p c
          let moves := (s.record r).rehomed = false ∧ (s.time.ms - (s.record r).arrival).toNat ≤ s.roam.rehomeLimit ∧
            queueAdmits q' (s.record r).cellCount s = true
          (¬ moves → rehomeCheck q r s = .gone (leaveQueue q r (countGlobal .staleDrops s))) ∧
          (moves → ∃ t, rehomeCheck q r s = .gone t ∧
            t.queue q = { s.queue q with records := l, tally := (s.queue q).tally - (s.record r).cellCount } ∧
            t.queue q' = { s.queue q' with
              records := (s.queue q').records ++ [r], tally := (s.queue q').tally + (s.record r).cellCount } ∧
            (∀ k, k ≠ q → k ≠ q' → t.queue k = s.queue k) ∧
            (∀ x, t.port x = if x = queuePort q ∧ l = [] ∧ (∃ k, q = .normal k) then { s.port x with guardCount := 0 }
              else s.port x) ∧
            t = { s with
              queues := t.queues, ports := t.ports
              mem := { s.mem with records := s.mem.records.modify r (fun x => { x with rehomed := true }) }
              globals := s.globals.modify (globalCounterIx .rehomed) satIncrement }))))

/-- TRANSMIT_CHOICE of a carriage port (07 R118, R119, R122 to R124). A port that is not IDLE, not UP or HELD, in a flush walk, or with
empty queues changes nothing. Otherwise the seat queue, or at a radio port the priority queue, or the normal queue when the priority
queue is empty or the guard count has reached 16, gives its head r. Passed by the re-home check, r is in transmission with 0 bytes
sent, and the guard count follows; dropped or moved by it, the choice is made again on what is left. -/
def Obligations.CarriageChoiceTaken : Prop :=
  ∀ (s : State) (p : Port), isCarriage p = true →
    let ready := (s.port p).tx = .idle ∧ isUpOrHeld (s.port p).state = true ∧ (s.port p).flush = none
    (¬ ready → exec (.transmitChoice p) s = .next s) ∧
    ((∀ q, queuePort q = p → (s.queue q).records = []) → exec (.transmitChoice p) s = .next s) ∧
    (ready → ∀ q r l, queuePort q = p → (s.queue q).records = r :: l →
      (∀ k, q = .priority k → (s.queue (.normal k)).records = [] ∨ (s.port p).guardCount < 16) →
      (∀ k, q = .normal k → (s.queue (.priority k)).records = [] ∨ 16 ≤ (s.port p).guardCount) →
      (rehomeCheck q r s = .send → exec (.transmitChoice p) s = .next { s with
        ports := s.ports.modify p (fun u => { u with
          tx := .sending r q 0
          guardCount := match q with
            | .priority k => if (s.queue (.normal k)).records = [] then u.guardCount else u.guardCount + 1
            | .normal _ => 0
            | _ => u.guardCount }) }) ∧
      (∀ t, rehomeCheck q r s = .gone t → exec (.transmitChoice p) s = exec (.transmitChoice p) t))

/-- TRANSMIT_CHOICE of a backbone port (07 R118, R119, R125). In RESET, without its link, not IDLE, in a flush walk, or with nothing to
send it changes nothing. Otherwise a frame in the output slot is sent first, then the head of class 0, in both cases with 0 bytes sent
and the deficit round robin state as it was. -/
def Obligations.BackboneChoiceTaken : Prop :=
  ∀ (s : State) (b : Side),
    let p := sidePort b
    let ready := (s.port p).tx = .idle ∧ s.line.part ≠ .reset ∧ (s.port p).link = true ∧ (s.port p).flush = none
    (¬ ready → exec (.transmitChoice p) s = .next s) ∧
    ((s.side b).slot = none → (∀ q, queuePort q = p → (s.queue q).records = []) →
      exec (.transmitChoice p) s = .next s) ∧
    (ready → ∀ f, (s.side b).slot = some f → exec (.transmitChoice p) s = .next { s with
      ports := s.ports.modify p (fun u => { u with tx := .sendingSlot 0 }) }) ∧
    (ready → (s.side b).slot = none → ∀ r l, (s.queue (.cls b 0)).records = r :: l →
      exec (.transmitChoice p) s = .next { s with
        ports := s.ports.modify p (fun u => { u with tx := .sending r (.cls b 0) 0 }) })

/-- The deficit round robin choice of a ready backbone port with an empty slot, an empty class 0 queue and another queue not empty (07
R127, R128). At the pointer's queue an unopened visit opens and adds the quantum; a head no longer than the deficit is sent and its
length taken from the deficit, the visit staying open; an empty queue, or a head too long, closes the visit and moves the pointer on,
and the choice goes on from there. It ends by sending the head of one of the queues. Premises: quanta of at least 64, lengths of at most
1,522. -/
def Obligations.DeficitRoundRobinSends : Prop :=
  ∀ (s : State) (b : Side),
    let p := sidePort b
    let x := s.side b
    (s.port p).tx = .idle → s.line.part ≠ .reset → (s.port p).link = true → (s.port p).flush = none → x.slot = none →
    (s.queue (.cls b 0)).records = [] → (∀ d, 64 ≤ x.quantum.get (drrIx d)) → (∀ r, (s.record r).length ≤ 1522) →
    (∃ d, (s.queue (drrQueue b d)).records ≠ []) →
    let i := drrIx x.pointer
    let opened := if x.visitOpen then x.deficit.get i else x.deficit.get i + x.quantum.get i
    ((s.queue (drrQueue b x.pointer)).records = [] → exec (.transmitChoice p) s = exec (.transmitChoice p)
      (s.modSide b (fun y => { y with visitOpen := false, pointer := drrNext x.pointer }))) ∧
    (∀ r l, (s.queue (drrQueue b x.pointer)).records = r :: l →
      ((s.record r).length ≤ opened → exec (.transmitChoice p) s = .next
        ((s.modSide b (fun y => { y with
          visitOpen := true, deficit := y.deficit.set i (opened - (s.record r).length) })).modPort p
          (fun u => { u with tx := .sending r (drrQueue b x.pointer) 0 }))) ∧
      (opened < (s.record r).length → exec (.transmitChoice p) s = exec (.transmitChoice p)
        (s.modSide b (fun y => { y with
          visitOpen := false, pointer := drrNext x.pointer, deficit := y.deficit.set i opened })))) ∧
    (∃ d r l y, (s.queue (drrQueue b d)).records = r :: l ∧ y.pointer = d ∧ y.visitOpen = true ∧ y.quantum = x.quantum ∧
      exec (.transmitChoice p) s = .next ((s.modSide b (fun _ => y)).modPort p
        (fun u => { u with tx := .sending r (drrQueue b d) 0 })))

/-- TRANSMIT_COMPLETE (07 R120, 09 R154): with the link present TX_FRAMES counts it, a queued record leaves the queue it was taken from, a
slot frame leaves the slot, a restart that waited for the slot's response becomes due, and the port is IDLE. A port that is IDLE or has
no link completes nothing, the model's choice for an event that cannot be (log 2). That the restart becomes due, where R154 makes it
at this event, is the model's choice (log 20). -/
def Obligations.TransmissionCompleted : Prop :=
  ∀ (s : State) (p : Port),
    let sent : State := { s with ports := s.ports.modify p (fun u =>
      { u with counters := u.counters.modify (portCounterIx .txFrames) satIncrement }) }
    ((s.port p).tx = .idle ∨ (s.port p).link = false → exec (.transmitComplete p) s = .next s) ∧
    ((s.port p).link = true →
      (∀ r q n, (s.port p).tx = .sending r q n → exec (.transmitComplete p) s = .next
        ((leaveQueue q r sent).modPort p (fun u => { u with tx := .idle }))) ∧
      (∀ b n, p = sidePort b → (s.port p).tx = .sendingSlot n → exec (.transmitComplete p) s = .next
        { (s.modSide b (fun x => { x with slot := none })) with
          ports := s.ports.modify p (fun u =>
            { u with tx := .idle, counters := u.counters.modify (portCounterIx .txFrames) satIncrement })
          mgmt := { s.mgmt with restart := if s.mgmt.restart = .sent b then .due else s.mgmt.restart } }))

/-! ## Time -/

/-- REFILL_TICK out of RESET (04 R59, R60, R63, R66): the period count becomes 0, a divisor written takes effect, T advances, and the
refresh sweep visits the entry at its pointer and moves on. A FREE entry takes T as its last refill tick; any other gains, for each
direction, its profile's rate times the ticks since its last refill, up to the burst, and takes T. In RESET nothing happens. -/
def Obligations.RefillTickTaken : Prop :=
  ∀ s : State,
    (s.line.part = .reset → exec .refillTick s = .next s) ∧
    (s.line.part ≠ .reset →
      let i := s.time.refreshPointer
      let now := s.time.tick + 1
      let n : Nat := (now - (s.entry i).lastRefill).toNat
      let rates := (s.profile (s.entry i).profile).rates
      exec .refillTick s = .next { s with
        time := { s.time with
          periodCount := 0, divisor := s.time.divisorWritten.getD s.time.divisor, divisorWritten := none, tick := now
          refreshPointer := i + 1 }
        table := { s.table with entries := s.table.entries.modify i (fun e =>
          if e.state = .free then { e with lastRefill := now }
          else { e with
            upCredit := min (rates.upBurst : Int) (e.upCredit + (rates.upRate * n : Nat))
            downCredit := min (rates.downBurst : Int) (e.downCredit + (rates.downRate * n : Nat))
            lastRefill := now }) } })

/-- SLOW_TICK out of RESET (04 R61, 02 R36, 11 R170; in the order stamp, seconds, aging visit, spacing, log 13): the millisecond stamp and
remainder advance; at 1,000 the remainder returns to 0 and the seconds counter advances; the four ways of the bucket at the aging
pointer are visited in order and no other entry changes; the pointer moves on; spacing that has passed stops running. -/
def Obligations.SlowTickTaken : Prop :=
  ∀ s : State, s.line.part ≠ .reset →
    let time := { s.time with
      ms := s.time.ms + 1, micro := 0
      msRemainder := if 1000 ≤ s.time.msRemainder + 1 then 0 else s.time.msRemainder + 1
      seconds := if 1000 ≤ s.time.msRemainder + 1 then s.time.seconds + 1 else s.time.seconds }
    let visited := (waysOf s.table.agingPointer).foldl visitWay { s with time := time }
    exec .slowTick s = .next { visited with
      table := { visited.table with agingPointer := s.table.agingPointer + 1 }
      notice := { visited.notice with
        spacingRunning := visited.notice.spacingRunning && decide ((time.ms - s.notice.placedAt).toNat < s.notice.spacing) } } ∧
    visited.time = time ∧
    (∀ i : StationIx, i.val / 4 ≠ s.table.agingPointer.val → visited.entry i = s.entry i)

/-- The aging visit of one way (02 R36, R38, R39, 05 R87, R88). A FREE way is passed over. A LEARNED or ADMITTED entry idle for its limit is
due; a due one held by no queued frame is expired, but for an ADMITTED one with 48 records in the report queue, which stays and makes
REPORT_BACKLOG pending. An entry that stays loses recently moved once the hold-off has passed since moved-at, and then, not recently
moved, one of its flap count; last, its pending reports are posted. With none pending nothing else changes.

The pending reports of an entry (02 R41) are posted in the order LEARNED, SPENT, PINNED, each with the entry's index and address and the
port marked, while the report queue has room. The mark of one posted is cleared and REPORTS is pending; the mark of one that finds no
room stays and REPORT_BACKLOG is pending. -/
def Obligations.AgingVisitsWay : Prop :=
  (∀ (s : State) (i : StationIx),
     let e := s.entry i
     let idle := (s.time.seconds - e.lastSeen).toNat
     let due := e.expiryDue || (decide (e.state = .learned) && decide (s.table.learnedLimit ≤ idle))
       || (decide (e.state = .admitted) && decide (s.table.admittedLimit ≤ idle))
     let moved := e.recentlyMoved && decide ((s.time.ms - e.movedAt).toNat < s.roam.holdOff)
     let settled : State := { s with
       table := { s.table with entries := s.table.entries.modify i (fun x => { x with
         expiryDue := due, recentlyMoved := moved
         flapCount := if moved then x.flapCount else x.flapCount - 1 }) } }
     (e.state = .free → visitWay s i = s) ∧
     (e.state = .learned → due = true → e.heldCount = 0 → visitWay s i = learnedExpiryStep i
       (s.modEntry i (fun x => { x with expiryDue := true }))) ∧
     (e.state = .admitted → due = true → e.heldCount = 0 → s.table.reports.length < 48 → visitWay s i = admittedExpiryStep i
       (s.modEntry i (fun x => { x with expiryDue := true }))) ∧
     (e.state ≠ .free → (due = false ∨ e.heldCount ≠ 0 ∨ e.state = .barred) →
       visitWay s i = pendingReportsStep i settled) ∧
     (e.state = .admitted → due = true → e.heldCount = 0 → 48 ≤ s.table.reports.length →
       visitWay s i = pendingReportsStep i { settled with notice := { s.notice with
         flags := s.notice.flags.modify (sourceIx .reportBacklog) (fun f => { f with pending := true }) } }) ∧
     (e.state ≠ .free → (due = false ∨ e.heldCount ≠ 0 ∨ e.state = .barred) →
       e.learnedPending = none → e.spentPending = false → e.pinnedPending = none → visitWay s i = { s with
         table := { s.table with entries := s.table.entries.modify i (fun x => { x with
           expiryDue := due, recentlyMoved := moved
           flapCount := if moved then x.flapCount else x.flapCount - 1 }) } })) ∧
  (∀ (s : State) (i : StationIx),
     let e := s.entry i
     let posts : List Report := (match e.learnedPending with | none => [] | some p => [.learned i e.addr p])
       ++ (if e.spentPending then [.spent i e.addr] else [])
       ++ (match e.pinnedPending with | none => [] | some p => [.pinned i e.addr p])
     let pending := fun src : Source => if posts = [] then s.notice.flags
       else s.notice.flags.modify (sourceIx src) (fun f => { f with pending := true })
     (s.table.reports.length + 3 ≤ 48 → pendingReportsStep i s = { s with
       table := { s.table with
         entries := s.table.entries.modify i (fun x =>
           { x with learnedPending := none, spentPending := false, pinnedPending := none })
         reports := s.table.reports ++ posts }
       notice := { s.notice with flags := pending .reports } }) ∧
     (48 ≤ s.table.reports.length → pendingReportsStep i s = { s with
       notice := { s.notice with flags := pending .reportBacklog } }) ∧
     let room := 48 - s.table.reports.length
     let before := fun l : List Bool => l.countP (fun b => b)
     pendingReportsStep i s = { s with
       table := { s.table with
         entries := s.table.entries.modify i (fun x => { x with
           learnedPending := if 0 < room then none else x.learnedPending
           spentPending := x.spentPending && !decide (before [x.learnedPending.isSome] < room)
           pinnedPending := if before [x.learnedPending.isSome, x.spentPending] < room then none else x.pinnedPending })
         reports := s.table.reports ++ posts.take room }
       notice := { s.notice with
         flags :=
           let shown := if posts.take room = [] then s.notice.flags
             else s.notice.flags.modify (sourceIx .reports) (fun f => { f with pending := true })
           if posts.drop room = [] then shown
           else shown.modify (sourceIx .reportBacklog) (fun f => { f with pending := true }) } })

/-- The parts of a slow tick commanded by themselves, out of RESET, each under its own condition (04 R61, 02 R38, R39, R28, 05 R87, 11
R170; log 10). SECONDS_ADVANCE at a remainder of 1,000. LEARNED_EXPIRY frees a due LEARNED entry held by no frame, without a report;
ADMITTED_EXPIRY posts EXPIRED and frees the entry, or with 48 records makes REPORT_BACKLOG pending and leaves it. HOLD_OFF_END clears
recently moved, SPACING_END spacing running, once their times have passed. -/
def Obligations.PartsOfSlowTick : Prop :=
  ∀ (s : State) (i : StationIx), s.line.part ≠ .reset →
    let e := s.entry i
    let freed := fun t : State => { t with
      ports := (match e.attachment with
        | none => t.ports
        | some p => if 10 ≤ p.val then t.ports.modify p (fun u => { u with seatCount := u.seatCount - 1 }) else t.ports)
      table := { t.table with entries := t.table.entries.set i (StationEntry.freed e.lastRefill) } }
    let expires := fun st : EntryState => e.state = st ∧ e.expiryDue = true ∧ e.heldCount = 0
    (exec .secondsAdvance s = .next (if 1000 ≤ s.time.msRemainder then
      { s with time := { s.time with msRemainder := 0, seconds := s.time.seconds + 1 } } else s)) ∧
    (exec (.learnedExpiry i) s = .next (if expires .learned then freed s else s)) ∧
    (¬ expires .admitted → exec (.admittedExpiry i) s = .next s) ∧
    (expires .admitted → s.table.reports.length < 48 → exec (.admittedExpiry i) s = .next (freed { s with
      table := { s.table with reports := s.table.reports
        ++ [.expired e.addr e.profile (if e.metered then some e.allowance else none) e.attachment] }
      notice := { s.notice with
        flags := s.notice.flags.modify (sourceIx .reports) (fun f => { f with pending := true }) } })) ∧
    (expires .admitted → 48 ≤ s.table.reports.length → exec (.admittedExpiry i) s = .next { s with
      notice := { s.notice with
        flags := s.notice.flags.modify (sourceIx .reportBacklog) (fun f => { f with pending := true }) } }) ∧
    (exec (.holdOffEnd i) s = .next { s with
      table := { s.table with entries := s.table.entries.modify i (fun x => { x with
        recentlyMoved := x.recentlyMoved && decide ((s.time.ms - x.movedAt).toNat < s.roam.holdOff) }) } }) ∧
    (exec .spacingEnd s = .next { s with
      notice := { s.notice with
        spacingRunning := s.notice.spacingRunning && decide ((s.time.ms - s.notice.placedAt).toNat < s.notice.spacing) } })

/-! ## Walks -/

/-- A walk's visit to a queue that lists no record twice (06 R108, R111, R113). The records that it picks leave the queue, but for one in
transmission on the queue's port; the others stay in their order, and the tally falls by the cells of those that left. Every other
queue, every counter, every link and every transmission is as it was; a record that stays, or is not picked, is as it was. -/
def Obligations.WalkVisitRemovesRecords : Prop :=
  ∀ (s : State) (q : QueueId) (picks : FrameRecord → Bool), (s.queue q).records.Nodup →
    let leaves := fun r : RecordIx => picks (s.record r) && !inTransmission q r s
    let t := sweepQueue picks q s
    t.queue q = { s.queue q with
      records := (s.queue q).records.filter (fun r => !leaves r)
      tally := (s.queue q).tally - (((s.queue q).records.filter leaves).map (fun r => (s.record r).cellCount)).sum } ∧
    (∀ q', q' ≠ q → t.queue q' = s.queue q') ∧
    (∀ r, r ∈ (s.queue q).records → leaves r = true → (s.record r).holders ≤ 1 → (t.record r).stage = .free) ∧
    (∀ r, r ∈ (s.queue q).records → leaves r = true → 1 < (s.record r).holders →
      t.record r = { s.record r with holders := (s.record r).holders - 1 }) ∧
    (∀ r, r ∉ (s.queue q).records ∨ leaves r = false → t.record r = s.record r) ∧
    (∀ i, (∀ f, s.mgmt.exec = some f → f.phase ≠ .releaseWait i) → t.entry i = { s.entry i with
      heldCount := (s.entry i).heldCount
        - ((s.queue q).records.filter leaves).countP (fun r => decide ((s.record r).dest = some i)) }) ∧
    (∀ p, (t.port p).counters = (s.port p).counters ∧ (t.port p).tx = (s.port p).tx ∧ (t.port p).link = (s.port p).link ∧
      (t.port p).intake = (s.port p).intake ∧ (t.port p).flush = (s.port p).flush) ∧
    t.globals = s.globals ∧ t.notice = s.notice ∧ t.table.reports = s.table.reports ∧ t.purge = s.purge ∧ t.line = s.line

/-- The visits of the three kinds of walk. The purge walk (06 R111) goes over the 64 carriage-port queues, CR1 to CR8 with priority before
normal, then SP1 to SP48, and picks the records that name its station. A port flush walk (06 R113) empties the intake places, then
visits each queue of the port; a class flush (06 R114) visits classes 0 to 3. That nothing happens
without a walk, or after its last visit, is the model's choice (log 2). That the cells of the older waiting frame return first is
the model's choice (log 25). -/
def Obligations.WalkVisitsTaken : Prop :=
  ∀ (s : State),
    carriageQueues.length = 64 ∧
    (∀ r : Fin 8, carriageQueues[2 * r.val]? = some (.priority r) ∧ carriageQueues[2 * r.val + 1]? = some (.normal r)) ∧
    (∀ k : Fin 48, carriageQueues[16 + k.val]? = some (.seat k)) ∧
    (∀ w q, s.purge = some w → carriageQueues[w.visits]? = some q → exec .purgeWalkVisit s = .next
      { sweepQueue (fun x => decide (x.dest = some w.station)) q s with purge := some { w with visits := w.visits + 1 } }) ∧
    (s.purge = none ∨ (∃ w, s.purge = some w ∧ 64 ≤ w.visits) → exec .purgeWalkVisit s = .next s) ∧
    (∀ p, (s.port p).flush = some 0 → (s.port p).intake.Nodup → ∃ t, exec (.flushWalkVisit p) s = .next t ∧
      t = { s with
        ports := s.ports.modify p (fun u => { u with intake := [], flush := some 1 })
        mem := { s.mem with free := t.mem.free, freeCount := t.mem.freeCount, records := t.mem.records } } ∧
      t.mem.free = s.mem.free ++ (s.port p).intake.flatMap (cellsOf s.mem) ∧
      ∀ r, t.record r = if r ∈ (s.port p).intake then FrameRecord.fresh else s.record r) ∧
    (∀ p k q, (s.port p).flush = some (k + 1) → (portQueues p)[k]? = some q → exec (.flushWalkVisit p) s = .next
      ((sweepQueue (fun _ => true) q s).modPort p (fun u => { u with flush := some (k + 2) }))) ∧
    (∀ b, portQueues (sidePort b) = [.through b, .cls b 0, .cls b 1, .cls b 2, .cls b 3]) ∧
    (∀ k, portQueues (queuePort (.normal k)) = [.priority k, .normal k]) ∧
    (∀ k, portQueues (queuePort (.seat k)) = [.seat k]) ∧
    (∀ p, (s.port p).flush = none ∨ (s.port p).flush = some ((portQueues p).length + 1) →
      exec (.flushWalkVisit p) s = .next s) ∧
    (∀ b (k : Fin 4), (s.side b).classFlush = some k.val → exec (.classFlushVisit b) s = .next
      ((sweepQueue (fun _ => true) (.cls b k) s).modSide b (fun x => { x with classFlush := some (k.val + 1) }))) ∧
    (∀ b, (s.side b).classFlush = none ∨ (s.side b).classFlush = some 4 → exec (.classFlushVisit b) s = .next s)

/-- The ends of the three kinds of walk, each after its last visit (06 R111, R113, R114, R116); before it, or without a walk, nothing
happens (the model's choice, log 2). The purge walk's end
finishes BAR with DONE and the index, and for RELEASE frees the entry and finishes when its held count is 0, or lets the item wait for
that (02 R31, R33). A flush walk's end finishes the SET_PORT that waits for it, and RESET_PORT after a carriage port in SERVICE is
evaluated (08 R137 to R139, log 22); the end of the last of its walks finishes STAND_DOWN (09 R153). Otherwise the walk just ends. -/
def Obligations.WalkEndsTaken : Prop :=
  ∀ (s : State),
    (∀ w, s.purge = some w → w.visits < 64 → exec .purgeWalkEnd s = .next s) ∧
    (s.purge = none → exec .purgeWalkEnd s = .next s) ∧
    (∀ w, s.purge = some w → 64 ≤ w.visits →
      let t : State := { s with purge := none }
      ((∀ f, s.mgmt.exec = some f → ∀ i, f.phase ≠ .barWalk i ∧ f.phase ≠ .releaseWalk i) →
        exec .purgeWalkEnd s = .next t) ∧
      (∀ f i, s.mgmt.exec = some f → f.phase = .barWalk i →
        exec .purgeWalkEnd s = .next (finishItem .done (beBytes 2 i.val) t)) ∧
      (∀ f i, s.mgmt.exec = some f → f.phase = .releaseWalk i →
        let u : State := { t with mgmt := { s.mgmt with exec := some { f with phase := .releaseWait i } } }
        ((s.entry i).heldCount = 0 → exec .purgeWalkEnd s = .next (finishItem .done [] (freeEntry i u))) ∧
        ((s.entry i).heldCount ≠ 0 → exec .purgeWalkEnd s = .next u))) ∧
    (∀ p, (s.port p).flush = none → exec (.flushWalkEnd p) s = .next s) ∧
    (∀ p k, (s.port p).flush = some k →
      let last := if p.val < 2 then 6 else if p.val < 10 then 3 else 2
      let t : State := { s with ports := s.ports.modify p (fun u => { u with flush := none }) }
      let ended := (∀ q : Port, isCarriage q = true → q ≠ p → (s.port q).flush = none) ∧ s.fore.classFlush = none
        ∧ s.aft.classFlush = none
      (k < last → exec (.flushWalkEnd p) s = .next s) ∧
      (last ≤ k → s.mgmt.exec = none → exec (.flushWalkEnd p) s = .next t) ∧
      (last ≤ k → ∀ f, s.mgmt.exec = some f →
        (∀ q c, f.phase = .portOff q c → exec (.flushWalkEnd p) s
          = .next (if q = p then finishItem (if c then .doneClamped else .done) [] t else t)) ∧
        (∀ q, f.phase = .portReset q → exec (.flushWalkEnd p) s = .next (if q = p then
          finishItem .done [] (if isCarriage p = true ∧ s.line.part = .service then evaluatePort p t else t) else t)) ∧
        (f.phase = .standDown → (ended → exec (.flushWalkEnd p) s = .next (finishItem .done [] t)) ∧
          (¬ ended → exec (.flushWalkEnd p) s = .next t)) ∧
        ((∀ q c, f.phase ≠ .portOff q c) → (∀ q, f.phase ≠ .portReset q) → f.phase ≠ .standDown →
          exec (.flushWalkEnd p) s = .next t))) ∧
    (∀ b, (s.side b).classFlush = none → exec (.classFlushEnd b) s = .next s) ∧
    (∀ b k, (s.side b).classFlush = some k →
      let t := s.modSide b (fun x => { x with classFlush := none })
      let ended := (∀ q : Port, isCarriage q = true → (s.port q).flush = none) ∧ (s.side (otherSide b)).classFlush = none
      (k < 4 → exec (.classFlushEnd b) s = .next s) ∧
      (4 ≤ k → (∃ f, s.mgmt.exec = some f ∧ f.phase = .standDown) → ended →
        exec (.classFlushEnd b) s = .next (finishItem .done [] t)) ∧
      (4 ≤ k → ((∀ f, s.mgmt.exec = some f → f.phase ≠ .standDown) ∨ ¬ ended) → exec (.classFlushEnd b) s = .next t))

/-! ## The management unit -/

/-- MGMT_FRAME_BEGIN with no frame in execution and no restart to come (10 R157, 12 R173). The oldest waiting frame leaves the input
queue. Its header is good when the version is 1, the item count 1 to 8, and that many items, each a code, a length and so many parameter
bytes, stand after the header and before the check sequence, whatever follows them: those items are then executed from the first. With a
bad header none is, and the response waits with the BAD_FRAME mark and item count 0. -/
def Obligations.RequestFrameBegun : Prop :=
  ∀ (s : State),
    (s.mgmt.input = [] ∨ s.mgmt.exec ≠ none ∨ s.mgmt.restart ≠ .none ∨ s.line.part = .reset →
      exec .mgmtFrameBegin s = .next s) ∧
    (∀ f rest, s.mgmt.input = f :: rest → s.mgmt.exec = none → s.mgmt.restart = .none → s.line.part ≠ .reset →
      let m := readMgmtHeader f.bytes
      let body := (f.bytes.take (f.bytes.length - 4)).drop ((readHeader f.bytes).body + 13)
      let good := fun (items : List RawItem) (after : List Byte) =>
        m.version = 1 ∧ 1 ≤ m.count ∧ m.count ≤ 8 ∧ items.length = m.count ∧ (∀ it ∈ items, it.params.length ≤ 255) ∧
        body = items.flatMap (fun it => it.code :: BitVec.ofNat 8 it.params.length :: it.params) ++ after
      (∀ items after, good items after → exec .mgmtFrameBegin s = .next { s with
        mgmt := { s.mgmt with
          input := rest
          exec := some { frame := f, items := items, pointer := 0, answers := [], phase := .ready } } }) ∧
      ((∀ items after, ¬ good items after) → exec .mgmtFrameBegin s = .next { s with
        mgmt := { s.mgmt with
          input := rest
          exec := some { frame := f, items := [], pointer := 0, answers := [],
                         phase := .response (buildResponse s.line f true []) } } }))

/-- An item finishes (10 R158, R164, R167): its code, status and data join the answers and the pointer moves to the next item. After the
last item, or after a RESTART, whose later items are all NOT_RUN, the response is built and waits to be placed. Nothing outside the
management unit changes.

An item of an unknown code, or whose parameters its kind does not take, finishes with BAD_ITEM and changes nothing else (10 R158,
R160): UNKNOWN_ITEM_CODE for a code outside 01 to 1A, and the command of each code where its parser answers none. A command whose code is
not the current item's is not sent (log 2): the state stays, also where SET_ALLOWANCE is of the other form.

The bytes that each kind takes (12 R173) are exactly the layouts given here, of values with the conditions given; of any other bytes the
parser answers none. So refused are: a wrong length; an index, port, profile, zone or enumerated value outside its range; a set bit that
the layout does not name; a group address; no part at all; a name given twice; a divisor that is not in the list (04 R60); a top-up of 0
(04 R76); a parameter that the port or the queue does not have (08 R137, 06 R110); a count outside its range (02 R42, 03 R47, R52, 08
R143, 11 R169, R172). -/
def Obligations.ItemFinished : Prop :=
  (∀ (s : State) (f : ExecFrame) (it : RawItem) (st : Status) (data : List Byte),
     s.mgmt.exec = some f → f.items[f.pointer]? = some it →
     let own := f.answers ++ [{ code := it.code, status := st, data := data }]
     let all := own ++ (f.items.drop (f.pointer + 1)).map (fun x => { code := x.code, status := .notRun, data := [] })
     let after := fun g : ExecFrame => { s with mgmt := { s.mgmt with exec := some g } }
     (f.pointer + 1 < f.items.length → s.mgmt.restart ≠ .armed → finishItem st data s
       = after { f with pointer := f.pointer + 1, answers := own, phase := .ready }) ∧
     (f.pointer + 1 = f.items.length → finishItem st data s = after { f with
       pointer := f.items.length, answers := own, phase := .response (buildResponse s.line f.frame false own) }) ∧
     (s.mgmt.restart = .armed → finishItem st data s = after { f with
       pointer := f.items.length, answers := all, phase := .response (buildResponse s.line f.frame false all) })) ∧
  (∀ (s : State) (ps : List Byte),
     let bad := Host.Outcome.next (φ := Fault) (ρ := Refusal) (finishItem .badItem [] s)
     (∀ n, n < 256 → (n = 0 ∨ 0x1A < n) → ItemIs s n ps → exec .unknownItemCode s = bad) ∧
     (ps ≠ [] → (ItemIs s 0x01 ps → exec .identify s = bad) ∧ (ItemIs s 0x02 ps → exec .readStatus s = bad) ∧
       (ItemIs s 0x03 ps → exec .start s = bad) ∧ (ItemIs s 0x04 ps → exec .standDown s = bad) ∧
       (ItemIs s 0x05 ps → exec .restart s = bad)) ∧
     (parseSetLine ps = none → ItemIs s 0x06 ps → exec .setLine s = bad) ∧
     (parseTiming ps = none → ItemIs s 0x07 ps → exec .setTiming s = bad) ∧
     (parseZoneWrite ps = none → ItemIs s 0x08 ps → exec .writeZoneMatch s = bad) ∧
     (parseIndex 64 ps = none → ItemIs s 0x09 ps → exec .readZoneMatch s = bad) ∧
     (parseProfileWrite ps = none → ItemIs s 0x0A ps → exec .writeProfile s = bad) ∧
     (parseIndex 32 ps = none → ItemIs s 0x0B ps → exec .readProfile s = bad) ∧
     (parseAdmit ps = none → ItemIs s 0x0C ps → exec .admitStation s = bad) ∧
     (parseRef ps = none → (ItemIs s 0x0D ps → exec .barStation s = bad) ∧
       (ItemIs s 0x0E ps → exec .releaseStation s = bad) ∧ (ItemIs s 0x11 ps → exec .unpin s = bad) ∧
       (ItemIs s 0x12 ps → exec .readStation s = bad)) ∧
     (ps.length ≠ 8 → parseRefValue ps = none → ItemIs s 0x0F ps → exec .setAllowance s = bad) ∧
     (ps.length = 8 → parseRef ps = none → ItemIs s 0x0F ps → exec .setAllowanceUnmetered s = bad) ∧
     (parseTopUp ps = none → ItemIs s 0x10 ps → exec .topUp s = bad) ∧
     (parseFindStation ps = none → ItemIs s 0x13 ps → exec .findStation s = bad) ∧
     (parseTakeReports ps = none → ItemIs s 0x14 ps → exec .takeReports s = bad) ∧
     (parsePortWrite ps = none → ItemIs s 0x15 ps → exec .setPort s = bad) ∧
     (parseIndex 58 ps = none → ItemIs s 0x16 ps → exec .resetPort s = bad) ∧
     (parseQueueWrite ps = none → ItemIs s 0x17 ps → exec .setQueue s = bad) ∧
     (parseCounters ps = none → ItemIs s 0x18 ps → exec .readCounters s = bad) ∧
     (parseNoticeWrite ps = none → ItemIs s 0x19 ps → exec .setNotices s = bad) ∧
     (parseRetire ps = none → ItemIs s 0x1A ps → exec .retireNotices s = bad)) ∧
  (∀ s : State,
     (∀ x ∈ ([(0x01, .identify), (0x02, .readStatus), (0x03, .start), (0x04, .standDown), (0x05, .restart), (0x06, .setLine),
         (0x07, .setTiming), (0x08, .writeZoneMatch), (0x09, .readZoneMatch), (0x0A, .writeProfile), (0x0B, .readProfile),
         (0x0C, .admitStation), (0x0D, .barStation), (0x0E, .releaseStation), (0x0F, .setAllowance),
         (0x0F, .setAllowanceUnmetered), (0x10, .topUp), (0x11, .unpin), (0x12, .readStation), (0x13, .findStation),
         (0x14, .takeReports), (0x15, .setPort), (0x16, .resetPort), (0x17, .setQueue), (0x18, .readCounters),
         (0x19, .setNotices), (0x1A, .retireNotices)] : List (Nat × Instr)),
       (∀ it, currentItem s = some it → it.code.toNat ≠ x.1) → exec x.2 s = .next s) ∧
     ((∀ it, currentItem s = some it → 1 ≤ it.code.toNat ∧ it.code.toNat ≤ 0x1A) → exec .unknownItemCode s = .next s) ∧
     ((∀ it, currentItem s = some it → it.params.length = 8) → exec .setAllowance s = .next s) ∧
     ((∀ it, currentItem s = some it → it.params.length ≠ 8) → exec .setAllowanceUnmetered s = .next s)) ∧
  (∀ ps : List Byte,
     let field := fun (k : Nat) (o : Option Nat) => (match o with | none => [] | some v => beBytes k v : List Byte)
     let fits := fun (k : Nat) (o : Option Nat) => ∀ v, o = some v → v < 256 ^ k
     let marks := fun l : List Bool => beBytes 1 (l.zipIdx.map (fun x => if x.1 then 2 ^ x.2 else 0)).sum
     let flag := fun b : Bool => if b then 1 else 0
     let ref := fun r : StationRef => match r with
       | .indexed i a => beBytes 2 i.val ++ beBytes 6 a.toNat
       | .byAddr a => beBytes 2 0xFFFF ++ beBytes 6 a.toNat
     let individual := fun r : StationRef => (match r with | .indexed _ a => a | .byAddr a => a).getLsbD 40 = false
     let kind := fun k : QueueKind => match k with
       | .through => 0 | .class0 => 1 | .class1 => 2 | .class2 => 3 | .class3 => 4 | .priority => 5 | .normal => 6 | .seat => 7
     let has := fun (p : Port) (k : QueueKind) => match k with
       | .priority | .normal => 2 ≤ p.val ∧ p.val < 10
       | .seat => 10 ≤ p.val
       | _ => p.val < 2
     let source := fun x : Source => match x with
       | .reports => 0 | .reportBacklog => 1 | .learnFail => 2 | .memoryLow => 3 | .linkChange => 4 | .backboneLoss => 5
       | .mgmtOverrun => 6 | .queueDrop => 7 | .strapFault => 8
     (∀ k n, beBytes k n = (List.range k).map (fun j => BitVec.ofNat 8 (n / 256 ^ (k - 1 - j)))) ∧
     (∀ b, parseSetLine ps = some b ↔ ps = beBytes 1 (match b with | .fore => 1 | .aft => 2)) ∧
     (∀ n, n ≤ 256 → ∀ i : Fin n, parseIndex n ps = some i ↔ ps = beBytes 1 i.val) ∧
     (∀ r, parseRef ps = some r ↔ individual r ∧ ps = ref r) ∧
     (∀ r n v, parseAdmit ps = some (r, n, v) ↔ individual r ∧ fits 4 v ∧ ps = ref r ++ beBytes 1 n.val ++ field 4 v) ∧
     (∀ r v, parseRefValue ps = some (r, v) ↔ individual r ∧ v < 256 ^ 4 ∧ ps = ref r ++ beBytes 4 v) ∧
     (∀ r v, parseTopUp ps = some (r, v) ↔ individual r ∧ 0 < v ∧ v < 256 ^ 4 ∧ ps = ref r ++ beBytes 4 v) ∧
     (∀ a, parseFindStation ps = some a ↔ a.getLsbD 40 = false ∧ ps = beBytes 6 a.toNat) ∧
     (∀ n, parseTakeReports ps = some n ↔ 1 ≤ n ∧ n ≤ 16 ∧ ps = beBytes 1 n) ∧
     (∀ w, parseTiming ps = some w ↔
       let l := [w.divisor, w.holdOff, w.rehomeLimit, w.learnedLimit, w.admittedLimit, w.flapLimit, w.spacing]
       (∃ o ∈ l, o ≠ none) ∧ (∀ d, w.divisor = some d → d ∈ [2, 5, 8, 25, 40, 125, 250, 500]) ∧ (∀ o ∈ l, fits 2 o) ∧
       ps = marks (l.map (·.isSome)) ++ l.flatMap (field 2)) ∧
     (∀ i, parseZoneWrite ps = some (i, none) ↔ ps = beBytes 1 i.val ++ [0]) ∧
     (∀ i z, parseZoneWrite ps = some (i, some z) ↔ ps = beBytes 1 i.val ++ marks [true, z.etype.isSome, z.vlan.isSome]
       ++ beBytes 6 z.value.toNat ++ beBytes 6 z.mask.toNat ++ beBytes 1 (match z.dir with | .up => 1 | .down => 2 | .both => 3)
       ++ beBytes 1 z.zone.val ++ field 2 (z.etype.map (·.toNat)) ++ field 2 (z.vlan.map (·.toNat))) ∧
     (∀ w, parseProfileWrite ps = some w ↔
       (w.rates ≠ none ∨ w.grants ≠ []) ∧ (w.grants.map (·.1)).Nodup ∧
       (∀ r, w.rates = some r → r.upRate < 256 ^ 2 ∧ r.upBurst < 256 ^ 4 ∧ r.downRate < 256 ^ 2 ∧ r.downBurst < 256 ^ 4) ∧
       ps = beBytes 1 w.profile.val ++ marks [w.rates.isSome, !w.grants.isEmpty]
         ++ (match w.rates with
           | none => []
           | some r => beBytes 2 r.upRate ++ beBytes 4 r.upBurst ++ beBytes 2 r.downRate ++ beBytes 4 r.downBurst)
         ++ (if w.grants = [] then [] else beBytes 1 w.grants.length ++ w.grants.flatMap (fun x => beBytes 1 x.1.val
           ++ marks [x.2.upPermit, x.2.downPermit, x.2.policed, x.2.counted] ++ beBytes 1 x.2.cls.val))) ∧
     (∀ w, parsePortWrite ps = some w ↔
       (w.enable ≠ none ∨ w.hold ≠ none ∨ w.flood ≠ none ∨ w.seatLimit ≠ none ∨ w.limits ≠ []) ∧
       (w.port.val < 2 → w.enable = none ∧ w.hold = none ∧ w.flood = none) ∧ (w.port.val < 10 → w.seatLimit = none) ∧
       (∀ x ∈ w.limits, has w.port x.1 ∧ x.2 < 256 ^ 2) ∧ (w.limits.map (·.1)).Nodup ∧ fits 1 w.seatLimit ∧
       ps = beBytes 1 w.port.val
         ++ marks [w.enable.isSome, w.hold.isSome, w.flood.isSome, w.seatLimit.isSome, !w.limits.isEmpty]
         ++ field 1 (w.enable.map flag) ++ field 1 (w.hold.map flag) ++ field 1 (w.flood.map flag) ++ field 1 w.seatLimit
         ++ (if w.limits = [] then [] else beBytes 1 w.limits.length
           ++ w.limits.flatMap (fun x => beBytes 1 (kind x.1) ++ beBytes 2 x.2))) ∧
     (∀ w, parseQueueWrite ps = some w ↔
       (w.limit ≠ none ∨ w.quantum ≠ none ∨ w.reserve ≠ none) ∧ (w.queue ≠ none ↔ w.limit ≠ none ∨ w.quantum ≠ none) ∧
       (∀ p k, w.queue = some (p, k) → has p k ∧
         (w.quantum ≠ none → k ∈ [QueueKind.through, .class1, .class2, .class3])) ∧
       fits 2 w.limit ∧ fits 2 w.quantum ∧ fits 2 w.reserve ∧
       ps = marks [w.limit.isSome, w.quantum.isSome, w.reserve.isSome]
         ++ (match w.queue with | none => [] | some (p, k) => beBytes 1 p.val ++ beBytes 1 (kind k))
         ++ field 2 w.limit ++ field 2 w.quantum ++ field 2 w.reserve) ∧
     (∀ g c, parseCounters ps = some (g, c) ↔ match g with
       | .port p => ps = beBytes 1 1 ++ beBytes 1 (flag c) ++ beBytes 1 p.val
       | .queue p k => has p k ∧ ps = beBytes 1 2 ++ beBytes 1 (flag c) ++ beBytes 1 p.val ++ beBytes 1 (kind k)
       | .station r => individual r ∧ ps = beBytes 1 3 ++ beBytes 1 (flag c) ++ ref r
       | .global => ps = beBytes 1 4 ++ beBytes 1 (flag c)) ∧
     (∀ w, parseNoticeWrite ps = some w ↔
       (w.dest ≠ none ∨ w.mode ≠ none ∨ w.enables ≠ []) ∧ (∀ a, w.dest = some a → a.getLsbD 40 = false) ∧
       (w.enables.map (·.1)).Nodup ∧
       ps = marks [w.dest.isSome, w.mode.isSome, !w.enables.isEmpty] ++ field 6 (w.dest.map (·.toNat))
         ++ field 1 (w.mode.map (fun m => match m with | .explicit => 1 | .auto => 2))
         ++ (if w.enables = [] then [] else beBytes 1 w.enables.length
           ++ w.enables.flatMap (fun x => beBytes 1 (source x.1) ++ beBytes 1 (flag x.2)))) ∧
     (∀ l, parseRetire ps = some l ↔ l ≠ [] ∧ l.Nodup ∧
       ps = beBytes 1 l.length ++ l.flatMap (fun x => beBytes 1 (source x))))

/-- RESPONSE_PLACE (10 R166, 07 R126, 09 R154): a response that waits goes into the output slot of its arrival port when the slot is
empty and the link present; without the link it is discarded; either ends the frame in execution, and after a RESTART the restart waits
for the slot frame's end, or is due at once; that it only becomes due is the model's choice (log 20). With the slot occupied
nothing happens, nor with no response waiting (the model's choice, log 2).

The bytes of a response (10 R164, 12 R173, R174): to the request's source, from this part's identifier, the request's VLAN tag with its whole
control field (log 19), type code 0x9A47, version 1, kind 2, form 2, position, identifier, the request's tag, the item count, and per item
code, status, length and data; with a bad header kind 0x82, item count 0 and no item. Zero bytes fill it up to 60, the four check bytes
standing outside (log 7). -/
def Obligations.ResponsePlaced : Prop :=
  (∀ (s : State),
     ((∀ f c, s.mgmt.exec = some f → f.phase ≠ .response c) → exec .responsePlace s = .next s) ∧
     (∀ f content, s.mgmt.exec = some f → f.phase = .response content →
       let b := f.frame.arrival
       let ended := fun r : RestartPhase => { s.mgmt with
         exec := none, restart := if s.mgmt.restart = .armed then r else s.mgmt.restart }
       ((s.port (sidePort b)).link = false → exec .responsePlace s = .next { s with mgmt := ended .due }) ∧
       ((s.port (sidePort b)).link = true → (s.side b).slot ≠ none → exec .responsePlace s = .next s) ∧
       ((s.port (sidePort b)).link = true → (s.side b).slot = none → exec .responsePlace s = .next
         { s.modSide b (fun x => { x with slot := some content }) with mgmt := ended (.sent b) }))) ∧
  (∀ (l : LineController) (f : MgmtFrame) (bad : Bool) (answers : List ItemAnswer),
    let content := addrBytes f.source ++ addrBytes l.deviceId
      ++ (match (readHeader f.bytes).tag with | none => [] | some t => [0x81, 0x00] ++ beBytes 2 t.toNat) ++ [0x9A, 0x47]
      ++ [1, if bad then 0x82 else 2, 2] ++ beBytes 1 l.position.val ++ addrBytes l.deviceId
      ++ beBytes 2 (readMgmtHeader f.bytes).tag.toNat ++ beBytes 1 (if bad then 0 else answers.length)
      ++ (if bad then [] else answers.flatMap (fun a => [a.code] ++ beBytes 1 (match a.status with
          | .done => 0 | .doneClamped => 1 | .busy => 2 | .wrongState => 3 | .noEntry => 4 | .stale => 5 | .badItem => 6
          | .notRun => 7 | .bucketFull => 8) ++ beBytes 1 a.data.length ++ a.data))
    buildResponse l f bad answers = content ++ List.replicate (60 - content.length) 0)

/-! ## Items -/

/-- The items that only read (10 R165, 03 R48, R56, 02 R34, 12 R174): each finishes with DONE and its data in the layout of chapter 12.
READ_STATION first refills the entry's credits and changes nothing else; the others change nothing. A station that is not found is
NO_ENTRY, an index without the address STALE; an index above the last one, or a group address, is BAD_ITEM. -/
def Obligations.ReadsAnswered : Prop :=
  ∀ (s : State) (ps : List Byte), s.line.part ≠ .reset →
    let part := if s.line.part = .service then 2 else 1
    (ItemIs s 0x01 [] → exec .identify s = .next (finishItem .done (addrBytes s.line.deviceId
      ++ beBytes 1 s.line.strapCode.toNat ++ beBytes 1 s.line.position.val ++ beBytes 1 part) s)) ∧
    (ItemIs s 0x02 [] → exec .readStatus s = .next (finishItem .done (beBytes 1 part ++ beBytes 1 s.line.position.val
      ++ beBytes 1 (match s.line.gateway with | none => 0 | some .fore => 1 | some .aft => 2)
      ++ beBytes 2 s.time.seconds.toNat ++ beBytes 2 s.time.ms.toNat ++ beBytes 2 s.time.divisor
      ++ beBytes 2 s.mem.freeCount ++ beBytes 2 ((List.finRange 1024).countP (fun r => decide ((s.record r).stage = .free)))
      ++ beBytes 2 s.mem.reserve ++ beBytes 1 s.table.reports.length
      ++ beBytes 8 ((List.finRange 58).map (fun p => if (s.port p).link then 2 ^ p.val else 0)).sum
      ++ beBytes 1 s.mgmt.input.length) s)) ∧
    (∀ x : Byte, 64 ≤ x.toNat → ItemIs s 0x09 [x] → exec .readZoneMatch s = .next (finishItem .badItem [] s)) ∧
    (∀ x : Byte, 32 ≤ x.toNat → ItemIs s 0x0B [x] → exec .readProfile s = .next (finishItem .badItem [] s)) ∧
    (∀ a, isGroup a = true → ItemIs s 0x13 (addrBytes a) → exec .findStation s = .next (finishItem .badItem [] s)) ∧
    (∀ i : Fin 64, ItemIs s 0x09 ps → parseIndex 64 ps = some i →
      let z := s.cls.zones.get i
      exec .readZoneMatch s = .next (finishItem .done (beBytes 1 (presence [z.valid, z.fields.etype.isSome,
        z.fields.vlan.isSome]) ++ addrBytes z.fields.value ++ addrBytes z.fields.mask
        ++ beBytes 1 (match z.fields.dir with | .up => 1 | .down => 2 | .both => 3) ++ beBytes 1 z.fields.zone.val
        ++ beBytes 2 (match z.fields.etype with | none => 0 | some t => t.toNat)
        ++ beBytes 2 (match z.fields.vlan with | none => 0 | some v => v.toNat)) s)) ∧
    (∀ n : Fin 32, ItemIs s 0x0B ps → parseIndex 32 ps = some n →
      let x := s.profile n
      exec .readProfile s = .next (finishItem .done (beBytes 2 x.rates.upRate ++ beBytes 2 x.rates.upBurst
        ++ beBytes 2 x.rates.downRate ++ beBytes 2 x.rates.downBurst ++ (List.finRange 16).flatMap (fun z =>
          let g := x.grants.get z
          beBytes 1 (presence [g.upPermit, g.downPermit, g.policed, g.counted]) ++ beBytes 1 g.cls.val)) s)) ∧
    (∀ r, ItemIs s 0x12 ps → parseRef ps = some r →
      (∀ st, resolve s r = .error st → exec .readStation s = .next (finishItem st [] s)) ∧
      (∀ i, resolve s r = .ok i →
        let e := refilled (s.profile (s.entry i).profile).rates s.time.tick (s.entry i)
        let port := fun p : Option Port => beBytes 1 (match p with | none => 0 | some q => q.val)
        exec .readStation s = .next (finishItem .done (beBytes 2 i.val
          ++ beBytes 1 (match e.state with | .free => 0 | .learned => 1 | .admitted => 2 | .barred => 3) ++ addrBytes e.addr
          ++ beBytes 1 (presence [e.attachment.isSome, e.metered, e.learnedPending.isSome, e.spentPending,
            e.pinnedPending.isSome]) ++ port e.attachment ++ beBytes 1 e.profile.val ++ beBytes 3 e.allowance
          ++ beBytes 4 (BitVec.ofInt 32 e.upCredit).toNat ++ beBytes 4 (BitVec.ofInt 32 e.downCredit).toNat
          ++ beBytes 2 e.lastRefill.toNat ++ beBytes 2 e.lastSeen.toNat ++ beBytes 2 e.movedAt.toNat
          ++ beBytes 1 e.flapCount ++ beBytes 1 (presence [e.spent, e.expiryDue, e.recentlyMoved, e.pinned])
          ++ beBytes 2 e.heldCount ++ port e.learnedPending ++ port e.pinnedPending)
          { s with table := { s.table with entries := s.table.entries.set i e } }))) ∧
    (∀ a, ItemIs s 0x13 ps → parseFindStation ps = some a →
      (lookup s.table a = none → exec .findStation s = .next (finishItem .noEntry [] s)) ∧
      (∀ i, lookup s.table a = some i → exec .findStation s = .next (finishItem .done (beBytes 2 i.val
        ++ beBytes 1 (match (s.entry i).state with | .free => 0 | .learned => 1 | .admitted => 2 | .barred => 3)) s)))

/-- START, STAND_DOWN, SET_LINE and RESTART (09 R150, R152 to R154, 08 R132, 10 R160, R167), with the carriage ports as the part keeps them
(OFF outside SERVICE, no reception while OFF or DOWN). START needs TRANSIT, a position and a gateway side, and gives every carriage port
the state of its settings and link. STAND_DOWN needs SERVICE: every carriage port is OFF with its stations detached and its flush walk
running, each backbone port has a class flush, and the item waits; a flush walk that runs already goes on from where it is (R115), and where
it is past its intake visit the intake places are emptied (01 R7), at this event by the model's choice (log 27). The records of frames in
reception and of frames so flushed return with their cells, in ascending port number (log 26). SET_LINE needs TRANSIT. RESTART asks
for a restart. What is refused is WRONG_STATE. -/
def Obligations.LineItemsCarriedOut : Prop :=
  ∀ (s : State) (ps : List Byte),
    (∀ p : Port, isCarriage p = true → (s.line.part ≠ .service → (s.port p).state = .off) ∧
      (isUpOrHeld (s.port p).state = false → (s.port p).rx = .idle)) →
    let wrong := Host.Outcome.next (φ := Fault) (ρ := Refusal) (finishItem .wrongState [] s)
    (ItemIs s 0x03 [] →
      (s.line.part ≠ .transit ∨ s.line.position = 0 ∨ s.line.gateway = none → exec .start s = wrong) ∧
      (s.line.part = .transit → s.line.position ≠ 0 → s.line.gateway ≠ none → ∃ t,
        exec .start s = .next (finishItem .done [] t) ∧
        t = { s with line := { s.line with part := .service }, ports := t.ports } ∧
        ∀ p, t.port p = if isCarriage p then { s.port p with
            state := if (s.port p).enable = false then .off
              else if (s.port p).link = false then .down
              else if (s.port p).hold = true then .held else .up }
          else s.port p)) ∧
    (ItemIs s 0x04 [] →
      (s.line.part ≠ .service → exec .standDown s = wrong) ∧
      (s.line.part = .service →
        let returned : List RecordIx := (List.finRange 58).flatMap (fun p => if isCarriage p = false then [] else
          (match (s.port p).rx with
            | .storing r _ => [r]
            | _ => []) ++ (match (s.port p).flush with
            | some (_ + 1) => (s.port p).intake
            | _ => []))
        ∃ t, exec .standDown s = .next t ∧
        t = { s with
          line := { s.line with part := .transit }, ports := t.ports
          table := { s.table with entries := t.table.entries }
          mem := { s.mem with free := t.mem.free, freeCount := t.mem.freeCount, records := t.mem.records }
          fore := { s.fore with classFlush := some 0 }, aft := { s.aft with classFlush := some 0 }
          mgmt := { s.mgmt with exec := s.mgmt.exec.map (fun f => { f with phase := .standDown }) } } ∧
        (∀ p, t.port p = if isCarriage p then { s.port p with
            state := .off, rx := .idle, flush := some ((s.port p).flush.getD 0)
            intake := match (s.port p).flush with
              | some (_ + 1) => []
              | _ => (s.port p).intake
            seatCount := if isSeat p && isUpOrHeld (s.port p).state then 0 else (s.port p).seatCount }
          else s.port p) ∧
        (∀ i, t.entry i = { s.entry i with attachment := match (s.entry i).attachment with
          | none => none
          | some p => if isCarriage p && isUpOrHeld (s.port p).state then none else some p }) ∧
        (∀ r, t.record r = if r ∈ returned then FrameRecord.fresh else s.record r) ∧
        (returned.Nodup → t.mem.free = s.mem.free ++ returned.flatMap (cellsOf s.mem) ∧
          t.mem.freeCount = s.mem.freeCount + (returned.flatMap (cellsOf s.mem)).length) ∧
        (returned = [] → t.mem = s.mem))) ∧
    (∀ b, ItemIs s 0x06 ps → parseSetLine ps = some b →
      (s.line.part ≠ .transit → exec .setLine s = wrong) ∧
      (s.line.part = .transit → exec .setLine s
        = .next (finishItem .done [] { s with line := { s.line with gateway := some b } }))) ∧
    (ItemIs s 0x05 [] → exec .restart s
      = .next (finishItem .done [] { s with mgmt := { s.mgmt with restart := .armed } }))

/-- SET_TIMING, WRITE_ZONE_MATCH and WRITE_PROFILE (10 R162, 04 R60, 02 R37, 05 R80, 11 R170, 03 R47, R52, R53). What an item carries is
written, each value outside its range as the nearest limit, and the status is then DONE_CLAMPED, otherwise DONE; what it does not carry
is kept. A divisor waits for the end of its period. A zone match entry written without valid is clear. -/
def Obligations.SettingsWritten : Prop :=
  ∀ (s : State) (ps : List Byte),
    let out := fun (lo hi : Nat) (o : Option Nat) => ∃ v, o = some v ∧ (v < lo ∨ hi < v)
    let put := fun (lo hi : Nat) (o : Option Nat) (old : Nat) => (o.map (fun v => max lo (min hi v))).getD old
    (∀ w, ItemIs s 0x07 ps → parseTiming ps = some w →
      let t : State := { s with
        time := { s.time with divisorWritten := if w.divisor = none then s.time.divisorWritten else w.divisor }
        roam := { holdOff := put 0 1023 w.holdOff s.roam.holdOff, flapLimit := put 1 15 w.flapLimit s.roam.flapLimit
                  rehomeLimit := put 0 255 w.rehomeLimit s.roam.rehomeLimit }
        table := { s.table with
          learnedLimit := put 1 255 w.learnedLimit s.table.learnedLimit
          admittedLimit := put 1 4095 w.admittedLimit s.table.admittedLimit }
        notice := { s.notice with spacing := put 1 255 w.spacing s.notice.spacing } }
      let clamped := out 0 1023 w.holdOff ∨ out 1 15 w.flapLimit ∨ out 0 255 w.rehomeLimit ∨ out 1 255 w.learnedLimit
        ∨ out 1 4095 w.admittedLimit ∨ out 1 255 w.spacing
      (clamped → exec .setTiming s = .next (finishItem .doneClamped [] t)) ∧
      (¬ clamped → exec .setTiming s = .next (finishItem .done [] t))) ∧
    (∀ i o, ItemIs s 0x08 ps → parseZoneWrite ps = some (i, o) → exec .writeZoneMatch s = .next (finishItem .done [] { s with
      cls := { s.cls with zones := s.cls.zones.set i (match o with
        | some z => { valid := true, fields := z }
        | none => { valid := false, fields := ZoneEntry.clear.fields }) } })) ∧
    (∀ w, ItemIs s 0x0A ps → parseProfileWrite ps = some w → ∃ x : Profile,
      let t : State := { s with cls := { s.cls with profiles := s.cls.profiles.set w.profile x } }
      (∀ g ∈ w.grants, x.grants.get g.1 = g.2) ∧
      (∀ z, z ∉ w.grants.map (·.1) → x.grants.get z = (s.profile w.profile).grants.get z) ∧
      (w.rates = none → x.rates = (s.profile w.profile).rates ∧ exec .writeProfile s = .next (finishItem .done [] t)) ∧
      (∀ r, w.rates = some r →
        let clamped := 4095 < r.upRate ∨ 4095 < r.downRate ∨ r.upBurst < 1522 ∨ 65535 < r.upBurst ∨ r.downBurst < 1522
          ∨ 65535 < r.downBurst
        x.rates = { upRate := min 4095 r.upRate, upBurst := max 1522 (min 65535 r.upBurst)
                    downRate := min 4095 r.downRate, downBurst := max 1522 (min 65535 r.downBurst) } ∧
        (clamped → exec .writeProfile s = .next (finishItem .doneClamped [] t)) ∧
        (¬ clamped → exec .writeProfile s = .next (finishItem .done [] t))))

/-- A station reference (02 R29): an index with address names the entry there when it is not FREE and holds the address, and is STALE
otherwise; an address alone names what a lookup finds, and is NO_ENTRY otherwise. Every item that names a station is refused with that
status and changes nothing but its answer; ADMIT and BAR of an address that misses are refused only with its bucket full (02 R30). -/
def Obligations.StationReferenceResolved : Prop :=
  ∀ (s : State) (ps : List Byte) (r : StationRef),
    (∀ i a, r = .indexed i a →
      ((s.entry i).state ≠ .free → (s.entry i).addr = a → resolve s r = .ok i) ∧
      ((s.entry i).state = .free ∨ (s.entry i).addr ≠ a → resolve s r = .error .stale)) ∧
    (∀ a, r = .byAddr a → (∀ i, lookup s.table a = some i → resolve s r = .ok i) ∧
      (lookup s.table a = none → resolve s r = .error .noEntry)) ∧
    (∀ st, resolve s r = .error st →
      let refused := Host.Outcome.next (φ := Fault) (ρ := Refusal) (finishItem st [] s)
      (ItemIs s 0x0E ps → parseRef ps = some r → exec .releaseStation s = refused) ∧
      (∀ v, ItemIs s 0x0F ps → ps.length ≠ 8 → parseRefValue ps = some (r, v) → exec .setAllowance s = refused) ∧
      (ItemIs s 0x0F ps → ps.length = 8 → parseRef ps = some r → exec .setAllowanceUnmetered s = refused) ∧
      (∀ v, ItemIs s 0x10 ps → parseTopUp ps = some (r, v) → exec .topUp s = refused) ∧
      (ItemIs s 0x11 ps → parseRef ps = some r → exec .unpin s = refused) ∧
      (ItemIs s 0x12 ps → parseRef ps = some r → exec .readStation s = refused) ∧
      (∀ c, ItemIs s 0x18 ps → parseCounters ps = some (.station r, c) → exec .readCounters s = refused) ∧
      (∀ i a, r = .indexed i a →
        (∀ n v, ItemIs s 0x0C ps → parseAdmit ps = some (r, n, v) → exec .admitStation s = refused) ∧
        (ItemIs s 0x0D ps → parseRef ps = some r → exec .barStation s = refused))) ∧
    (∀ a, r = .byAddr a → lookup s.table a = none → freeWay s.table a = none →
      (∀ n v, ItemIs s 0x0C ps → parseAdmit ps = some (r, n, v) →
        exec .admitStation s = .next (finishItem .bucketFull [] s)) ∧
      (ItemIs s 0x0D ps → parseRef ps = some r → exec .barStation s = .next (finishItem .bucketFull [] s)))

/-- ADMIT (02 R29, R30, 04 R70, R77). The entry named, or the new entry in the lowest FREE way of the bucket of an address that misses,
becomes ADMITTED with the profile, last seen now and no expiry due; unless it was ADMITTED its credits are the bursts of the profile and
its last refill tick is now. Without an allowance it is unmetered, with one metered, at most 16,777,215; 0 sets spent, anything else
clears it and the SPENT mark. It finishes with the index, DONE_CLAMPED for an allowance above the largest. -/
def Obligations.StationAdmitted : Prop :=
  ∀ (s : State) (ps : List Byte) (r : StationRef) (n : Fin 32) (v : Option Nat),
    ItemIs s 0x0C ps → parseAdmit ps = some (r, n, v) →
    let rates := (s.profile n).rates
    let status := if 16777215 < v.getD 0 then Status.doneClamped else .done
    let metered := fun e : StationEntry => { e with
      metered := v.isSome, allowance := min 16777215 (v.getD 0), spent := decide (v = some 0)
      spentPending := if v = some 0 then e.spentPending else false }
    let admitted := fun e : StationEntry => metered { e with
      state := .admitted, profile := n, lastSeen := s.time.seconds, expiryDue := false
      upCredit := if e.state = .admitted then e.upCredit else (rates.upBurst : Int)
      downCredit := if e.state = .admitted then e.downCredit else (rates.downBurst : Int)
      lastRefill := if e.state = .admitted then e.lastRefill else s.time.tick }
    (∀ i, resolve s r = .ok i → exec .admitStation s = .next (finishItem status (beBytes 2 i.val) { s with
      table := { s.table with entries := s.table.entries.modify i admitted } })) ∧
    (∀ a i, r = .byAddr a → lookup s.table a = none → freeWay s.table a = some i →
      exec .admitStation s = .next (finishItem status (beBytes 2 i.val) { s with
        table := { s.table with
          entries := s.table.entries.set i (admitted { StationEntry.freed s.time.tick with addr := a, state := .learned }) } }))

/-- BAR and RELEASE (02 R30 to R32, 06 R111). The entry named, or for BAR the new entry of an address that misses, is BARRED at once and
detached, a seat port's count falling by one; recently moved and expiry due are cleared and everything else is kept; the purge walk of
the station starts, and the item waits, BAR for the walk's end, RELEASE for the entry to be freed. -/
def Obligations.StationBarred : Prop :=
  ∀ (s : State) (ps : List Byte) (r : StationRef), parseRef ps = some r →
    let waits := fun (ph : ExecPhase) (i : StationIx) (t : State) => Host.Outcome.next (φ := Fault) (ρ := Refusal) { t with
      purge := some { station := i, visits := 0 }
      mgmt := { s.mgmt with exec := s.mgmt.exec.map (fun f => { f with phase := ph }) } }
    let barred := fun i : StationIx => { s with
      ports := (match (s.entry i).attachment with
        | none => s.ports
        | some p => if 10 ≤ p.val then s.ports.modify p (fun u => { u with seatCount := u.seatCount - 1 }) else s.ports)
      table := { s.table with entries := s.table.entries.modify i (fun e =>
        { e with state := .barred, attachment := none, recentlyMoved := false, expiryDue := false }) } }
    (∀ i, ItemIs s 0x0D ps → resolve s r = .ok i → exec .barStation s = waits (.barWalk i) i (barred i)) ∧
    (∀ i, ItemIs s 0x0E ps → resolve s r = .ok i → exec .releaseStation s = waits (.releaseWalk i) i (barred i)) ∧
    (∀ a i, ItemIs s 0x0D ps → r = .byAddr a → lookup s.table a = none → freeWay s.table a = some i →
      exec .barStation s = waits (.barWalk i) i { s with
        table := { s.table with entries := s.table.entries.set i { StationEntry.freed s.time.tick with
          state := .barred, addr := a, upCredit := ((s.profile 0).rates.upBurst : Int)
          downCredit := ((s.profile 0).rates.downBurst : Int), lastSeen := s.time.seconds } } })

/-- SET_ALLOWANCE with and without a value, and TOP_UP (04 R74 to R77), on the entry named. A value makes it metered with at most
16,777,215; 0 sets spent without a report, any other clears spent and the SPENT mark. Without a value it is unmetered. A top-up of a
metered entry adds its amount, saturating at 16,777,215, clears spent and the mark, and returns the allowance; of an unmetered one it is
WRONG_STATE, and of amount 0 BAD_ITEM. What was brought into range finishes with DONE_CLAMPED. Nothing else of the entry changes. -/
def Obligations.AllowanceItemsCarriedOut : Prop :=
  ∀ (s : State) (ps : List Byte) (r : StationRef) (i : StationIx), resolve s r = .ok i →
    let entry := fun f : StationEntry → StationEntry => { s with
      table := { s.table with entries := s.table.entries.modify i f } }
    (∀ v, ItemIs s 0x0F ps → ps.length ≠ 8 → parseRefValue ps = some (r, v) →
      exec .setAllowance s = .next (finishItem (if 16777215 < v then .doneClamped else .done) [] (entry (fun e => { e with
        metered := true, allowance := min 16777215 v, spent := decide (v = 0)
        spentPending := if v = 0 then e.spentPending else false })))) ∧
    (ItemIs s 0x0F ps → ps.length = 8 → parseRef ps = some r →
      exec .setAllowanceUnmetered s = .next (finishItem .done [] (entry (fun e =>
        { e with metered := false, allowance := 0, spent := false, spentPending := false })))) ∧
    (ItemIs s 0x10 (encodeRefValue r 0) → exec .topUp s = .next (finishItem .badItem [] s)) ∧
    (∀ v, ItemIs s 0x10 ps → parseTopUp ps = some (r, v) → 0 < v ∧
      ((s.entry i).metered = false → exec .topUp s = .next (finishItem .wrongState [] s)) ∧
      ((s.entry i).metered = true →
        let sum := min 16777215 ((s.entry i).allowance + v)
        exec .topUp s = .next (finishItem (if 16777215 < (s.entry i).allowance + v then .doneClamped else .done)
          (beBytes 3 sum) (entry (fun e => { e with allowance := sum, spent := false, spentPending := false })))))

/-- UNPIN (05 R89) names a station in any non-FREE state: pinned is cleared, the flap count becomes 0, the PINNED mark is cleared, and the
item finishes with DONE, pinned or not. The attachment, recently moved, moved-at, everything else of the entry, and the records already in
the report queue are kept. A reference that does not resolve is refused with its status and no entry changes. -/
def Obligations.StationUnpinned : Prop :=
  ∀ (s : State) (ps : List Byte) (r : StationRef), ItemIs s 0x11 ps → parseRef ps = some r →
    (∀ i, resolve s r = .ok i → exec .unpin s = .next (finishItem .done [] { s with
      table := { s.table with entries := s.table.entries.modify i (fun e =>
        { e with pinned := false, flapCount := 0, pinnedPending := none }) } })) ∧
    (∀ st, resolve s r = .error st → exec .unpin s = .next (finishItem st [] s) ∧
      (finishItem st [] s).table = s.table)

/-- TAKE_REPORTS (02 R42, 10 R163, R164): from the head of the report queue it takes records in their order while fewer than the count
asked for are taken and the next one fits in the room the response has left; they leave the queue, and the data is the number left and
then the records, each in its layout (12 R174). The room gives up, for each later item, the largest data that its kind returns. -/
def Obligations.ReportsTaken : Prop :=
  (∀ x : Report, reportBytes x = match x with
    | .learned i a p => [1] ++ beBytes 2 i.val ++ addrBytes a ++ beBytes 1 p.val
    | .spent i a => [2] ++ beBytes 2 i.val ++ addrBytes a
    | .pinned i a p => [3] ++ beBytes 2 i.val ++ addrBytes a ++ beBytes 1 p.val
    | .expired a profile allowance port =>
      [4, (if allowance.isSome then 1 else 0) + (if port.isSome then 2 else 0)] ++ addrBytes a ++ beBytes 1 profile.val
        ++ (match allowance with | none => [] | some v => beBytes 3 v)
        ++ (match port with | none => [] | some p => beBytes 1 p.val)) ∧
  (∀ c : Nat, c < 256 → maxDataSize c = ((([(0x01, 9), (0x02, 25), (0x09, 19), (0x0B, 40), (0x0C, 2), (0x0D, 2), (0x10, 3), (0x12, 35),
    (0x13, 3), (0x14, 1), (0x18, 40)] : List (Nat × Nat)).find? (fun x => x.1 == c)).map (·.2)).getD 0) ∧
  (∀ (s : State) (ps : List Byte) (n : Nat) (f : ExecFrame),
     ItemIs s 0x14 ps → parseTakeReports ps = some n → s.mgmt.exec = some f →
     let room := 1480 - (f.answers.map (fun a => 3 + a.data.length)).sum
       - ((f.items.drop (f.pointer + 1)).map (fun it => 3 + maxDataSize it.code.toNat)).sum - 4
     let size := fun k : Nat => ((s.table.reports.take k).map (fun x => (reportBytes x).length)).sum
     ∃ k, k ≤ n ∧ k ≤ s.table.reports.length ∧ size k ≤ room ∧
       (k = n ∨ k = s.table.reports.length ∨ room < size (k + 1)) ∧
       exec .takeReports s = .next (finishItem .done
         (beBytes 1 (s.table.reports.length - k) ++ (s.table.reports.take k).flatMap reportBytes)
         { s with table := { s.table with reports := s.table.reports.drop k } }))

/-! ## Ports, queues, counters -/

/-- The evaluation of a carriage port (08 R132, Table 8-1) that, as the part keeps it, has no reception while OFF or DOWN: disabled OFF,
without link DOWN, held HELD, otherwise UP. A port that has the state already is not changed. To OFF: reception is abandoned, the
stations of a UP or HELD port are detached, the flush walk runs. UP to HELD: a frame in reception is abandoned and counted RX_HELD at its
end. Every other change is of the state alone. -/
def Obligations.CarriagePortEvaluated : Prop :=
  ∀ (s : State) (p : Port), isCarriage p = true → (isUpOrHeld (s.port p).state = false → (s.port p).rx = .idle) →
    ((s.port p).state = .up → (s.port p).link = true) → ((s.port p).state = .held → (s.port p).link = true) →
    let u := s.port p
    let st := if u.enable = false then PortState.off else if u.link = false then .down else if u.hold then .held else .up
    let t := evaluatePort p s
    (u.state = st → t = s) ∧
    (u.state ≠ st →
      (st = .off → t.port p = { u with
          state := .off, rx := .idle, flush := some (u.flush.getD 0)
          seatCount := if isSeat p && isUpOrHeld u.state then 0 else u.seatCount } ∧
        (∀ i, t.entry i = if isUpOrHeld u.state = true ∧ (s.entry i).attachment = some p
          then { s.entry i with attachment := none } else s.entry i) ∧
        (∀ q, q ≠ p → t.port q = s.port q) ∧
        (∀ r n, u.rx = .storing r n → t.mem = (releaseRecord r s).mem) ∧
        ((∀ r n, u.rx ≠ .storing r n) → t.mem = s.mem) ∧
        t = { s with ports := t.ports, table := { s.table with entries := t.table.entries }, mem := t.mem }) ∧
      (st = .held → (∀ r n, u.rx = .storing r n →
          t = (releaseRecord r s).modPort p (fun x => { x with state := .held, rx := .discarding .held })) ∧
        ((∀ r n, u.rx ≠ .storing r n) → t = s.modPort p (fun x => { x with state := .held }))) ∧
      (st = .up ∨ st = .down → t = s.modPort p (fun x => { x with state := st })))

/-- SET_PORT (08 R137, R138, 06 R109): BUSY while a flush walk of the port runs. Otherwise what it carries is written, a seat limit into 1
to 4 and queue limits up to 2,048. A backbone port, or any port in TRANSIT, is done; a carriage port in SERVICE is evaluated, and the
item waits for the flush walk when that turns it OFF from another state. DONE_CLAMPED for a value brought into range, also after the walk
(log 22). -/
def Obligations.PortSet : Prop :=
  ∀ (s : State) (ps : List Byte) (w : PortWrite), ItemIs s 0x15 ps → parsePortWrite ps = some w →
    let p := w.port
    let clamped := (∃ v, w.seatLimit = some v ∧ (v < 1 ∨ 4 < v)) ∨ ∃ x ∈ w.limits, 2048 < x.2
    ((s.port p).flush ≠ none → exec .setPort s = .next (finishItem .busy [] s)) ∧
    ((s.port p).flush = none → ∃ t : State,
      t = { s with
        ports := s.ports.modify p (fun u => { u with
          enable := w.enable.getD u.enable, hold := w.hold.getD u.hold, flood := w.flood.getD u.flood
          seatLimit := (w.seatLimit.map (fun v => max 1 (min 4 v))).getD u.seatLimit })
        queues := t.queues } ∧
      (∀ x ∈ w.limits, ∀ q, queueNamed p x.1 = some q → t.queue q = { s.queue q with limit := min 2048 x.2 }) ∧
      (∀ q, (∀ x ∈ w.limits, queueNamed p x.1 ≠ some q) → t.queue q = s.queue q) ∧
      (isCarriage p = false ∨ s.line.part ≠ .service →
        (clamped → exec .setPort s = .next (finishItem .doneClamped [] t)) ∧
        (¬ clamped → exec .setPort s = .next (finishItem .done [] t))) ∧
      (isCarriage p = true → s.line.part = .service →
        let e := evaluatePort p t
        ((s.port p).state = .off ∨ (e.port p).state ≠ .off →
          (clamped → exec .setPort s = .next (finishItem .doneClamped [] e)) ∧
          (¬ clamped → exec .setPort s = .next (finishItem .done [] e))) ∧
        ((s.port p).state ≠ .off → (e.port p).state = .off → ∃ c, (c = true ↔ clamped) ∧
          exec .setPort s = .next { e with
            mgmt := { s.mgmt with exec := s.mgmt.exec.map (fun f => { f with phase := .portOff p c }) } })))

/-- RESET_PORT (08 R139, 10 R160): a carriage port outside SERVICE is WRONG_STATE, then a port whose flush walk runs BUSY. Otherwise
reception at the port is abandoned uncounted, a carriage port becomes OFF, its stations detached when it was UP or HELD, the flush walk
starts, and the item waits for it; the port's settings, link, counters and transmission are kept. -/
def Obligations.PortReset : Prop :=
  ∀ (s : State) (ps : List Byte) (p : Port), ItemIs s 0x16 ps → parseIndex 58 ps = some p →
    (isCarriage p = true → isUpOrHeld (s.port p).state = false → (s.port p).rx = .idle) →
    (isCarriage p = true → s.line.part ≠ .service → exec .resetPort s = .next (finishItem .wrongState [] s)) ∧
    (isCarriage p = false ∨ s.line.part = .service →
      ((s.port p).flush ≠ none → exec .resetPort s = .next (finishItem .busy [] s)) ∧
      ((s.port p).flush = none → ∃ t, exec .resetPort s = .next t ∧
        t.port p = { s.port p with
          rx := .idle, flush := some 0
          state := if isCarriage p then .off else (s.port p).state
          seatCount := if isSeat p && isUpOrHeld (s.port p).state then 0 else (s.port p).seatCount } ∧
        (∀ q, q ≠ p → t.port q = s.port q) ∧
        (∀ i, t.entry i = if isCarriage p = true ∧ isUpOrHeld (s.port p).state = true ∧ (s.entry i).attachment = some p
          then { s.entry i with attachment := none } else s.entry i) ∧
        (∀ r n, (s.port p).rx = .storing r n → t.mem = (releaseRecord r s).mem) ∧
        ((∀ r n, (s.port p).rx ≠ .storing r n) → t.mem = s.mem) ∧
        t = { s with
          ports := t.ports, table := { s.table with entries := t.table.entries }, mem := t.mem
          mgmt := { s.mgmt with exec := s.mgmt.exec.map (fun f => { f with phase := .portReset p }) } }))

/-- SET_QUEUE (06 R100, R101, R109, R110, 07 R129): the limit of the queue named is written up to 2,048, its quantum into 64 to 16,383,
the reserve up to 256, and MEMORY_LOW becomes pending when the free cell count is at or below a reserve written. READ_COUNTERS (08
R143): every counter of the group named as it stands, in order, four bytes each; with the clear flag they are 0 afterwards. An
occurrence raises a counter by one, and at 4,294,967,295 it stays (08 R140). -/
def Obligations.QueueSetAndCountersRead : Prop :=
  (∀ c, c ≤ 4294967295 → satIncrement c = min 4294967295 (c + 1)) ∧
  (∀ (s : State) (ps : List Byte),
     (∀ w, ItemIs s 0x17 ps → parseQueueWrite ps = some w →
       let clamped := (∃ v, w.limit = some v ∧ 2048 < v) ∨ (∃ v, w.quantum = some v ∧ (v < 64 ∨ 16383 < v))
         ∨ ∃ v, w.reserve = some v ∧ 256 < v
       let reserve := (w.reserve.map (min 256)).getD s.mem.reserve
       let named := w.queue.bind (fun x => queueNamed x.1 x.2)
       ∃ t : State,
         (clamped → exec .setQueue s = .next (finishItem .doneClamped [] t)) ∧
         (¬ clamped → exec .setQueue s = .next (finishItem .done [] t)) ∧
         (∀ q, t.queue q = { s.queue q with
           limit := if named = some q then (w.limit.map (min 2048)).getD (s.queue q).limit else (s.queue q).limit }) ∧
         (∀ b d, (t.side b).quantum.get (drrIx d) =
           if named = some (drrQueue b d) then (w.quantum.map (fun v => max 64 (min 16383 v))).getD ((s.side b).quantum.get (drrIx d))
           else (s.side b).quantum.get (drrIx d)) ∧
         t = { s with
           queues := t.queues
           fore := { s.fore with quantum := t.fore.quantum }, aft := { s.aft with quantum := t.aft.quantum }
           mem := { s.mem with reserve := reserve }
           notice := { s.notice with
             flags := if w.reserve ≠ none ∧ s.mem.freeCount ≤ reserve then
                 s.notice.flags.modify (sourceIx .memoryLow) (fun f => { f with pending := true })
               else s.notice.flags } }) ∧
     (∀ g c, ItemIs s 0x18 ps → parseCounters ps = some (g, c) →
       let answer := fun (l : List Nat) (t : State) =>
         exec .readCounters s = .next (finishItem .done (l.flatMap (beBytes 4)) (if c then t else s))
       (∀ p, g = .port p → answer (s.port p).counters.toList
         { s with ports := s.ports.modify p (fun u => { u with counters := Tab.fill 10 0 }) }) ∧
       (∀ p k q, g = .queue p k → queueNamed p k = some q → answer [(s.queue q).drops]
         { s with queues := s.queues.modify (queueIx q) (fun x => { x with drops := 0 }) }) ∧
       (∀ r i, g = .station r → resolve s r = .ok i → answer (s.entry i).counters.toList
         { s with table := { s.table with entries := s.table.entries.modify i (fun e =>
           { e with counters := Tab.fill 8 0 }) } }) ∧
       (g = .global → answer s.globals.toList { s with globals := Tab.fill 9 0 })))

/-! ## Notices -/

/-- SET_NOTICES (11 R169): the destination takes the address, with the arrival port and the VLAN tag of the request that carries it; the
mode and each enable carried are written; writing AUTO clears every in-service flag; nothing else changes. RETIRE_NOTICES (11 R172): the
set has 1 to 9 sources, none twice, or is BAD_ITEM; the in-service flag of each is cleared, and no other flag changes. Both finish with
DONE. -/
def Obligations.NoticeSettingsWritten : Prop :=
  ∀ (s : State) (ps : List Byte),
    (∀ w f, ItemIs s 0x19 ps → parseNoticeWrite ps = some w → s.mgmt.exec = some f → ∃ t,
      exec .setNotices s = .next (finishItem .done [] t) ∧
      t = { s with notice := { s.notice with
        dest := match w.dest with
          | none => s.notice.dest
          | some a => some { addr := a, port := f.frame.arrival, tag := (readHeader f.frame.bytes).tag }
        mode := w.mode.getD s.notice.mode
        flags := t.notice.flags } } ∧
      ∀ x, (t.notice.flags.get (sourceIx x)).pending = (s.notice.flags.get (sourceIx x)).pending ∧
        (t.notice.flags.get (sourceIx x)).inService
          = ((s.notice.flags.get (sourceIx x)).inService && decide (w.mode ≠ some .auto)) ∧
        (∀ on, (x, on) ∈ w.enables → (t.notice.flags.get (sourceIx x)).enable = on) ∧
        (x ∉ w.enables.map (·.1) → (t.notice.flags.get (sourceIx x)).enable = (s.notice.flags.get (sourceIx x)).enable)) ∧
    (∀ codes : List Byte, ItemIs s 0x1A (BitVec.ofNat 8 codes.length :: codes) →
      codes = [] ∨ (∃ c ∈ codes, 8 < c.toNat) ∨ ¬ codes.Nodup → exec .retireNotices s = .next (finishItem .badItem [] s)) ∧
    (ItemIs s 0x1A ps → parseRetire ps = none → exec .retireNotices s = .next (finishItem .badItem [] s)) ∧
    (∀ l, ItemIs s 0x1A ps → parseRetire ps = some l → 1 ≤ l.length ∧ l.length ≤ 9 ∧ l.Nodup ∧ ∃ t,
      exec .retireNotices s = .next (finishItem .done [] t) ∧
      t = { s with notice := { s.notice with flags := t.notice.flags } } ∧
      ∀ x, t.notice.flags.get (sourceIx x) = { s.notice.flags.get (sourceIx x) with
        inService := (s.notice.flags.get (sourceIx x)).inService && decide (x ∉ l) })

/-- NOTICE_SEND (11 R170, R171, 12 R175). It needs a source pending, enabled and not in service, a destination, no spacing running, the
destination port's slot empty, its link present, and no response waiting for it; otherwise nothing happens. The notice built goes into
the slot: it lists those sources, and with LINK_CHANGE among them the changed ports. Each listed source is no longer pending and, in
EXPLICIT mode, in service; the changed-port set listed is emptied; the count rises by one and is the tag; the spacing runs from now. Its
VLAN tag carries the whole control field recorded (log 19), and its check bytes stand outside (log 7). -/
def Obligations.NoticeSent : Prop :=
  ∀ (s : State), s.line.part ≠ .reset →
    let flags := fun x : Source => s.notice.flags.get (sourceIx x)
    let listed := fun x : Source => (flags x).pending && (flags x).enable && !(flags x).inService
    let ready := fun d : NoticeDest => (∃ x, listed x = true) ∧ s.notice.spacingRunning = false ∧
      (s.side d.port).slot = none ∧ (s.port (sidePort d.port)).link = true ∧
      ∀ f c, s.mgmt.exec = some f → f.phase = .response c → f.frame.arrival ≠ d.port
    (s.notice.dest = none → exec .noticeSend s = .next s) ∧
    (∀ d, s.notice.dest = some d → ¬ ready d → exec .noticeSend s = .next s) ∧
    (∀ d, s.notice.dest = some d → ready d →
      let ports := if listed .linkChange then (List.finRange 58).filter (fun p => s.notice.changed.get p) else []
      let bit := fun (x : Source) (n : Nat) => if listed x then 2 ^ n else 0
      let content := addrBytes d.addr ++ addrBytes s.line.deviceId
        ++ (match d.tag with | none => [] | some t => [0x81, 0x00] ++ beBytes 2 t.toNat) ++ [0x9A, 0x47]
        ++ [1, 3, 2] ++ beBytes 1 s.line.position.val ++ addrBytes s.line.deviceId
        ++ beBytes 2 (s.notice.count + 1).toNat ++ [0]
        ++ beBytes 2 (bit .reports 0 + bit .reportBacklog 1 + bit .learnFail 2 + bit .memoryLow 3 + bit .linkChange 4
          + bit .backboneLoss 5 + bit .mgmtOverrun 6 + bit .queueDrop 7 + bit .strapFault 8)
        ++ beBytes 1 s.table.reports.length ++ beBytes 2 s.mem.freeCount
        ++ beBytes 1 ports.length ++ ports.flatMap (fun p => beBytes 1 p.val)
      ∃ t, exec .noticeSend s = .next t ∧
        t = { s.modSide d.port (fun x => { x with slot := some (content ++ List.replicate (60 - content.length) 0) }) with
          notice := { s.notice with
            flags := t.notice.flags, count := s.notice.count + 1, spacingRunning := true, placedAt := s.time.ms
            changed := if listed .linkChange then Tab.fill 58 false else s.notice.changed } } ∧
        ∀ x, t.notice.flags.get (sourceIx x) = if listed x
          then { flags x with pending := false, inService := decide (s.notice.mode = .explicit) } else flags x)

/-! ## Invariants -/

/-- The invariants below hold right after reset. -/
def Obligations.InvariantsHoldAtReset : Prop :=
  MemoryCanonical State.reset ∧ FreeCountAgrees State.reset ∧ PlacesBounded State.reset ∧ SettingsInRange State.reset ∧
  AllowanceAgrees State.reset ∧ CarriagePortsAgree State.reset ∧ CarriageIntakesFlushed State.reset ∧
  ServiceAgrees State.reset ∧ TableAgrees State.reset ∧ AttachmentsAgree State.reset ∧ FramesAgree State.reset

/-- Every step keeps the canonical form of frame memory and the agreement of the free cell count with the free cell list (06 R99).

Every step keeps what the part holds of frame memory in agreement. Every cell is on the free cell list or held by one record, once (06
R99), each record with a chain of as many cells as it counts (R102). No queue lists a record twice, its tally is the sum of its records'
cells, and the holders of a record are the queues that list it, at least one exactly when it is QUEUED (R104). The held count of an
entry is the number of queued records that name it (02 R35), and a record that names a station is in one queue. With them the receive
states, the intake places and the transmissions name records of their own stage (06 R103, 07 R119). -/
def Obligations.StepKeepsFrameMemory : Prop :=
  (∀ s t : State, MemoryCanonical s → FreeCountAgrees s → step s = .next t → MemoryCanonical t ∧ FreeCountAgrees t) ∧
  (∀ s t : State, FramesAgree s → step s = .next t → FramesAgree t)

/-- Every step keeps the bounds of the queues of the part: 48 reports, two frames in each intake and in the management input queue, no
record longer than 1,522 bytes (02 R41, 01 R3, R6, 10 R156). Every step keeps every setting that a request writes in its range (04 R60,
05 R80, 02 R37, 11 R170, 06 R100, R109, 05 R90, 07 R129). -/
def Obligations.StepKeepsBounds : Prop :=
  (∀ s t : State, PlacesBounded s → step s = .next t → PlacesBounded t) ∧
  (∀ s t : State, SettingsInRange s → step s = .next t → SettingsInRange t)

/-- Every step keeps metered, allowance remaining and spent in agreement (04 R70): spent is set exactly when the entry is metered and
nothing remains, an unmetered entry has nothing remaining, and no allowance exceeds 16,777,215. -/
def Obligations.StepKeepsAllowanceAgreement : Prop :=
  ∀ s t : State, AllowanceAgrees s → step s = .next t → AllowanceAgrees t

/-- Every step keeps the carriage ports as their rules give (08 R131, R132, 01 R5), with a position and a gateway side in SERVICE (09
R152): OFF outside SERVICE, enabled unless OFF, with a link while UP or HELD, no reception while OFF or DOWN. Every step keeps the intake
places of the carriage ports as 01 R7 gives them: empty outside SERVICE, but where a flush walk has yet to come to them. -/
def Obligations.StepKeepsCarriagePorts : Prop :=
  (∀ s t : State, CarriagePortsAgree s → ServiceAgrees s → step s = .next t → CarriagePortsAgree t ∧ ServiceAgrees t) ∧
  (∀ s t : State, CarriagePortsAgree s → CarriageIntakesFlushed s → step s = .next t → CarriageIntakesFlushed t)

/-- Every step keeps the station table in order (02 R24, R26, R30): every entry that is not FREE sits in the bucket of its address, and
no address is held twice. Every step keeps the attachments in order (05 R79, R91): each is of an entry that is not FREE, to a carriage
port that is UP or HELD, and the station count of a seat port is the number of entries attached to it. -/
def Obligations.StepKeepsStationTable : Prop :=
  (∀ s t : State, TableAgrees s → step s = .next t → TableAgrees t) ∧
  (∀ s t : State, AttachmentsAgree s → CarriagePortsAgree s → step s = .next t → AttachmentsAgree t)

/-! ## Encoding -/

/-- Reading the parameters of a request kind gives back what was written (12 R173), for every kind that has parameters, with every field
at every value its bytes hold and every combination of optional parts that the kind allows. -/
def Obligations.ParametersReadBack : Prop :=
  (∀ r, (match r with | StationRef.indexed _ a => isGroup a | .byAddr a => isGroup a) = false →
    parseRef (encodeRef r) = some r ∧
    (∀ n v, (∀ x, v = some x → x < 2 ^ 32) → parseAdmit (encodeAdmit r n v) = some (r, n, v)) ∧
    (∀ v, v < 2 ^ 32 → parseRefValue (encodeRefValue r v) = some (r, v) ∧
      (v ≠ 0 → parseTopUp (encodeRefValue r v) = some (r, v))) ∧
    (∀ c, parseCounters (encodeCounters (.station r) c) = some (.station r, c))) ∧
  (∀ b, parseSetLine (encodeSetLine b) = some b) ∧
  (∀ w : TimingFields, w.valid = true → (∀ o ∈ [w.divisor, w.holdOff, w.rehomeLimit, w.learnedLimit, w.admittedLimit,
    w.flapLimit, w.spacing], ∀ v, o = some v → v < 2 ^ 16) → parseTiming (encodeTiming w) = some w) ∧
  (∀ i o, parseZoneWrite (encodeZoneWrite i o) = some (i, o)) ∧
  (∀ i : Fin 64, parseIndex 64 (encodeIndex i.val) = some i) ∧ (∀ i : Fin 32, parseIndex 32 (encodeIndex i.val) = some i) ∧
  (∀ p : Port, parseIndex 58 (encodeIndex p.val) = some p) ∧
  (∀ w : ProfileWrite, w.valid = true → (∀ r, w.rates = some r →
    r.upRate < 2 ^ 16 ∧ r.upBurst < 2 ^ 32 ∧ r.downRate < 2 ^ 16 ∧ r.downBurst < 2 ^ 32) →
    parseProfileWrite (encodeProfileWrite w) = some w) ∧
  (∀ a, isGroup a = false → parseFindStation (addrBytes a) = some a) ∧
  (∀ n, 1 ≤ n → n ≤ 16 → parseTakeReports (encodeIndex n) = some n) ∧
  (∀ w : PortWrite, w.valid = true → (∀ v, w.seatLimit = some v → v < 2 ^ 8) → (∀ x ∈ w.limits, x.2 < 2 ^ 16) →
    parsePortWrite (encodePortWrite w) = some w) ∧
  (∀ w : QueueWrite, w.valid = true → (∀ o ∈ [w.limit, w.quantum, w.reserve], ∀ v, o = some v → v < 2 ^ 16) →
    parseQueueWrite (encodeQueueWrite w) = some w) ∧
  (∀ p c, parseCounters (encodeCounters (.port p) c) = some (.port p, c)) ∧
  (∀ p k c, queueExists p k = true → parseCounters (encodeCounters (.queue p k) c) = some (.queue p k, c)) ∧
  (∀ c, parseCounters (encodeCounters .global c) = some (.global, c)) ∧
  (∀ w : NoticeWrite, w.valid = true → parseNoticeWrite (encodeNoticeWrite w) = some w) ∧
  (∀ l : List Source, l ≠ [] → l.Nodup → parseRetire (encodeRetire l) = some l)
end

