-- ==== Sys2Proof/Laws/State.lean ====
section
/-! SUPPORT. The small lemmas of State: tables, one lemma for each field and each update by name, and what an accessor reads
after an update. -/

namespace Sys2Proof

variable {α : Type} {n : Nat}

@[simp] theorem Tab.get_set_self (t : Tab α n) (i : Fin n) (x : α) : (Tab.set t i x).get i = x := by
  simp [Tab.get, Tab.set]

theorem Tab.get_set_ne (t : Tab α n) {i j : Fin n} (x : α) (h : i ≠ j) : (Tab.set t i x).get j = t.get j := by
  have : i.val ≠ j.val := fun e => h (Fin.ext e)
  simp [Tab.get, Tab.set, Vector.getElem_set_ne, this]

theorem Tab.get_set (t : Tab α n) (i j : Fin n) (x : α) : (Tab.set t i x).get j = if i = j then x else t.get j := by
  by_cases h : i = j
  · subst h; simp
  · simp [h, Tab.get_set_ne]

@[simp] theorem Tab.get_modify_self (t : Tab α n) (i : Fin n) (f : α → α) : (Tab.modify t i f).get i = f (t.get i) := by
  simp [Tab.modify]

theorem Tab.get_modify_ne (t : Tab α n) {i j : Fin n} (f : α → α) (h : i ≠ j) : (Tab.modify t i f).get j = t.get j := by
  simp [Tab.modify, Tab.get_set_ne, h]

theorem Tab.get_modify (t : Tab α n) (i j : Fin n) (f : α → α) :
    (Tab.modify t i f).get j = if i = j then f (t.get i) else t.get j := by
  simp [Tab.modify, Tab.get_set]

@[simp] theorem Tab.get_fill (x : α) (i : Fin n) : (Tab.fill n x).get i = x := by
  simp [Tab.get, Tab.fill]

@[simp] theorem Tab.get_mapAll (t : Tab α n) (f : α → α) (i : Fin n) : (Tab.mapAll t f).get i = f (t.get i) := by
  simp [Tab.get, Tab.mapAll]

/-- Two tables that agree everywhere are one table. -/
theorem Tab.ext_get {t u : Tab α n} (h : ∀ i : Fin n, t.get i = u.get i) : t = u := by
  apply Vector.ext
  intro i hi
  exact h ⟨i, hi⟩

@[simp] theorem Tab.set_get (t : Tab α n) (i : Fin n) : Tab.set t i (t.get i) = t := by
  apply Tab.ext_get
  intro j
  rw [Tab.get_set]
  split
  · next h => rw [h]
  · rfl

end Sys2Proof

namespace Sys2Proof.Machine

open Sys2Proof

/-! ## The fields an update leaves as they are -/

@[simp] theorem modPort_pending (s : State) (p : Port) (f : PortUnit → PortUnit) : (s.modPort p f).pending = s.pending := rfl
@[simp] theorem modPort_line (s : State) (p : Port) (f : PortUnit → PortUnit) : (s.modPort p f).line = s.line := rfl
@[simp] theorem modPort_arb (s : State) (p : Port) (f : PortUnit → PortUnit) : (s.modPort p f).arb = s.arb := rfl
@[simp] theorem modPort_table (s : State) (p : Port) (f : PortUnit → PortUnit) : (s.modPort p f).table = s.table := rfl
@[simp] theorem modPort_cls (s : State) (p : Port) (f : PortUnit → PortUnit) : (s.modPort p f).cls = s.cls := rfl
@[simp] theorem modPort_time (s : State) (p : Port) (f : PortUnit → PortUnit) : (s.modPort p f).time = s.time := rfl
@[simp] theorem modPort_roam (s : State) (p : Port) (f : PortUnit → PortUnit) : (s.modPort p f).roam = s.roam := rfl
@[simp] theorem modPort_mem (s : State) (p : Port) (f : PortUnit → PortUnit) : (s.modPort p f).mem = s.mem := rfl
@[simp] theorem modPort_queues (s : State) (p : Port) (f : PortUnit → PortUnit) : (s.modPort p f).queues = s.queues := rfl
@[simp] theorem modPort_fore (s : State) (p : Port) (f : PortUnit → PortUnit) : (s.modPort p f).fore = s.fore := rfl
@[simp] theorem modPort_aft (s : State) (p : Port) (f : PortUnit → PortUnit) : (s.modPort p f).aft = s.aft := rfl
@[simp] theorem modPort_purge (s : State) (p : Port) (f : PortUnit → PortUnit) : (s.modPort p f).purge = s.purge := rfl
@[simp] theorem modPort_mgmt (s : State) (p : Port) (f : PortUnit → PortUnit) : (s.modPort p f).mgmt = s.mgmt := rfl
@[simp] theorem modPort_notice (s : State) (p : Port) (f : PortUnit → PortUnit) : (s.modPort p f).notice = s.notice := rfl
@[simp] theorem modPort_globals (s : State) (p : Port) (f : PortUnit → PortUnit) : (s.modPort p f).globals = s.globals := rfl

@[simp] theorem modEntry_pending (s : State) (i : StationIx) (f : StationEntry → StationEntry) : (s.modEntry i f).pending = s.pending := rfl
@[simp] theorem modEntry_line (s : State) (i : StationIx) (f : StationEntry → StationEntry) : (s.modEntry i f).line = s.line := rfl
@[simp] theorem modEntry_ports (s : State) (i : StationIx) (f : StationEntry → StationEntry) : (s.modEntry i f).ports = s.ports := rfl
@[simp] theorem modEntry_arb (s : State) (i : StationIx) (f : StationEntry → StationEntry) : (s.modEntry i f).arb = s.arb := rfl
@[simp] theorem modEntry_cls (s : State) (i : StationIx) (f : StationEntry → StationEntry) : (s.modEntry i f).cls = s.cls := rfl
@[simp] theorem modEntry_time (s : State) (i : StationIx) (f : StationEntry → StationEntry) : (s.modEntry i f).time = s.time := rfl
@[simp] theorem modEntry_roam (s : State) (i : StationIx) (f : StationEntry → StationEntry) : (s.modEntry i f).roam = s.roam := rfl
@[simp] theorem modEntry_mem (s : State) (i : StationIx) (f : StationEntry → StationEntry) : (s.modEntry i f).mem = s.mem := rfl
@[simp] theorem modEntry_queues (s : State) (i : StationIx) (f : StationEntry → StationEntry) : (s.modEntry i f).queues = s.queues := rfl
@[simp] theorem modEntry_fore (s : State) (i : StationIx) (f : StationEntry → StationEntry) : (s.modEntry i f).fore = s.fore := rfl
@[simp] theorem modEntry_aft (s : State) (i : StationIx) (f : StationEntry → StationEntry) : (s.modEntry i f).aft = s.aft := rfl
@[simp] theorem modEntry_purge (s : State) (i : StationIx) (f : StationEntry → StationEntry) : (s.modEntry i f).purge = s.purge := rfl
@[simp] theorem modEntry_mgmt (s : State) (i : StationIx) (f : StationEntry → StationEntry) : (s.modEntry i f).mgmt = s.mgmt := rfl
@[simp] theorem modEntry_notice (s : State) (i : StationIx) (f : StationEntry → StationEntry) : (s.modEntry i f).notice = s.notice := rfl
@[simp] theorem modEntry_globals (s : State) (i : StationIx) (f : StationEntry → StationEntry) : (s.modEntry i f).globals = s.globals := rfl

@[simp] theorem modRecord_pending (s : State) (r : RecordIx) (f : FrameRecord → FrameRecord) : (s.modRecord r f).pending = s.pending := rfl
@[simp] theorem modRecord_line (s : State) (r : RecordIx) (f : FrameRecord → FrameRecord) : (s.modRecord r f).line = s.line := rfl
@[simp] theorem modRecord_ports (s : State) (r : RecordIx) (f : FrameRecord → FrameRecord) : (s.modRecord r f).ports = s.ports := rfl
@[simp] theorem modRecord_arb (s : State) (r : RecordIx) (f : FrameRecord → FrameRecord) : (s.modRecord r f).arb = s.arb := rfl
@[simp] theorem modRecord_table (s : State) (r : RecordIx) (f : FrameRecord → FrameRecord) : (s.modRecord r f).table = s.table := rfl
@[simp] theorem modRecord_cls (s : State) (r : RecordIx) (f : FrameRecord → FrameRecord) : (s.modRecord r f).cls = s.cls := rfl
@[simp] theorem modRecord_time (s : State) (r : RecordIx) (f : FrameRecord → FrameRecord) : (s.modRecord r f).time = s.time := rfl
@[simp] theorem modRecord_roam (s : State) (r : RecordIx) (f : FrameRecord → FrameRecord) : (s.modRecord r f).roam = s.roam := rfl
@[simp] theorem modRecord_queues (s : State) (r : RecordIx) (f : FrameRecord → FrameRecord) : (s.modRecord r f).queues = s.queues := rfl
@[simp] theorem modRecord_fore (s : State) (r : RecordIx) (f : FrameRecord → FrameRecord) : (s.modRecord r f).fore = s.fore := rfl
@[simp] theorem modRecord_aft (s : State) (r : RecordIx) (f : FrameRecord → FrameRecord) : (s.modRecord r f).aft = s.aft := rfl
@[simp] theorem modRecord_purge (s : State) (r : RecordIx) (f : FrameRecord → FrameRecord) : (s.modRecord r f).purge = s.purge := rfl
@[simp] theorem modRecord_mgmt (s : State) (r : RecordIx) (f : FrameRecord → FrameRecord) : (s.modRecord r f).mgmt = s.mgmt := rfl
@[simp] theorem modRecord_notice (s : State) (r : RecordIx) (f : FrameRecord → FrameRecord) : (s.modRecord r f).notice = s.notice := rfl
@[simp] theorem modRecord_globals (s : State) (r : RecordIx) (f : FrameRecord → FrameRecord) : (s.modRecord r f).globals = s.globals := rfl

@[simp] theorem modQueue_pending (s : State) (q : QueueId) (f : Queue → Queue) : (s.modQueue q f).pending = s.pending := rfl
@[simp] theorem modQueue_line (s : State) (q : QueueId) (f : Queue → Queue) : (s.modQueue q f).line = s.line := rfl
@[simp] theorem modQueue_ports (s : State) (q : QueueId) (f : Queue → Queue) : (s.modQueue q f).ports = s.ports := rfl
@[simp] theorem modQueue_arb (s : State) (q : QueueId) (f : Queue → Queue) : (s.modQueue q f).arb = s.arb := rfl
@[simp] theorem modQueue_table (s : State) (q : QueueId) (f : Queue → Queue) : (s.modQueue q f).table = s.table := rfl
@[simp] theorem modQueue_cls (s : State) (q : QueueId) (f : Queue → Queue) : (s.modQueue q f).cls = s.cls := rfl
@[simp] theorem modQueue_time (s : State) (q : QueueId) (f : Queue → Queue) : (s.modQueue q f).time = s.time := rfl
@[simp] theorem modQueue_roam (s : State) (q : QueueId) (f : Queue → Queue) : (s.modQueue q f).roam = s.roam := rfl
@[simp] theorem modQueue_mem (s : State) (q : QueueId) (f : Queue → Queue) : (s.modQueue q f).mem = s.mem := rfl
@[simp] theorem modQueue_fore (s : State) (q : QueueId) (f : Queue → Queue) : (s.modQueue q f).fore = s.fore := rfl
@[simp] theorem modQueue_aft (s : State) (q : QueueId) (f : Queue → Queue) : (s.modQueue q f).aft = s.aft := rfl
@[simp] theorem modQueue_purge (s : State) (q : QueueId) (f : Queue → Queue) : (s.modQueue q f).purge = s.purge := rfl
@[simp] theorem modQueue_mgmt (s : State) (q : QueueId) (f : Queue → Queue) : (s.modQueue q f).mgmt = s.mgmt := rfl
@[simp] theorem modQueue_notice (s : State) (q : QueueId) (f : Queue → Queue) : (s.modQueue q f).notice = s.notice := rfl
@[simp] theorem modQueue_globals (s : State) (q : QueueId) (f : Queue → Queue) : (s.modQueue q f).globals = s.globals := rfl

@[simp] theorem modNotice_pending (s : State) (f : NoticeUnit → NoticeUnit) : (s.modNotice f).pending = s.pending := rfl
@[simp] theorem modNotice_line (s : State) (f : NoticeUnit → NoticeUnit) : (s.modNotice f).line = s.line := rfl
@[simp] theorem modNotice_ports (s : State) (f : NoticeUnit → NoticeUnit) : (s.modNotice f).ports = s.ports := rfl
@[simp] theorem modNotice_arb (s : State) (f : NoticeUnit → NoticeUnit) : (s.modNotice f).arb = s.arb := rfl
@[simp] theorem modNotice_table (s : State) (f : NoticeUnit → NoticeUnit) : (s.modNotice f).table = s.table := rfl
@[simp] theorem modNotice_cls (s : State) (f : NoticeUnit → NoticeUnit) : (s.modNotice f).cls = s.cls := rfl
@[simp] theorem modNotice_time (s : State) (f : NoticeUnit → NoticeUnit) : (s.modNotice f).time = s.time := rfl
@[simp] theorem modNotice_roam (s : State) (f : NoticeUnit → NoticeUnit) : (s.modNotice f).roam = s.roam := rfl
@[simp] theorem modNotice_mem (s : State) (f : NoticeUnit → NoticeUnit) : (s.modNotice f).mem = s.mem := rfl
@[simp] theorem modNotice_queues (s : State) (f : NoticeUnit → NoticeUnit) : (s.modNotice f).queues = s.queues := rfl
@[simp] theorem modNotice_fore (s : State) (f : NoticeUnit → NoticeUnit) : (s.modNotice f).fore = s.fore := rfl
@[simp] theorem modNotice_aft (s : State) (f : NoticeUnit → NoticeUnit) : (s.modNotice f).aft = s.aft := rfl
@[simp] theorem modNotice_purge (s : State) (f : NoticeUnit → NoticeUnit) : (s.modNotice f).purge = s.purge := rfl
@[simp] theorem modNotice_mgmt (s : State) (f : NoticeUnit → NoticeUnit) : (s.modNotice f).mgmt = s.mgmt := rfl
@[simp] theorem modNotice_globals (s : State) (f : NoticeUnit → NoticeUnit) : (s.modNotice f).globals = s.globals := rfl

@[simp] theorem modLine_pending (s : State) (f : LineController → LineController) : (s.modLine f).pending = s.pending := rfl
@[simp] theorem modLine_ports (s : State) (f : LineController → LineController) : (s.modLine f).ports = s.ports := rfl
@[simp] theorem modLine_arb (s : State) (f : LineController → LineController) : (s.modLine f).arb = s.arb := rfl
@[simp] theorem modLine_table (s : State) (f : LineController → LineController) : (s.modLine f).table = s.table := rfl
@[simp] theorem modLine_cls (s : State) (f : LineController → LineController) : (s.modLine f).cls = s.cls := rfl
@[simp] theorem modLine_time (s : State) (f : LineController → LineController) : (s.modLine f).time = s.time := rfl
@[simp] theorem modLine_roam (s : State) (f : LineController → LineController) : (s.modLine f).roam = s.roam := rfl
@[simp] theorem modLine_mem (s : State) (f : LineController → LineController) : (s.modLine f).mem = s.mem := rfl
@[simp] theorem modLine_queues (s : State) (f : LineController → LineController) : (s.modLine f).queues = s.queues := rfl
@[simp] theorem modLine_fore (s : State) (f : LineController → LineController) : (s.modLine f).fore = s.fore := rfl
@[simp] theorem modLine_aft (s : State) (f : LineController → LineController) : (s.modLine f).aft = s.aft := rfl
@[simp] theorem modLine_purge (s : State) (f : LineController → LineController) : (s.modLine f).purge = s.purge := rfl
@[simp] theorem modLine_mgmt (s : State) (f : LineController → LineController) : (s.modLine f).mgmt = s.mgmt := rfl
@[simp] theorem modLine_notice (s : State) (f : LineController → LineController) : (s.modLine f).notice = s.notice := rfl
@[simp] theorem modLine_globals (s : State) (f : LineController → LineController) : (s.modLine f).globals = s.globals := rfl

@[simp] theorem modMgmt_pending (s : State) (f : Management → Management) : (s.modMgmt f).pending = s.pending := rfl
@[simp] theorem modMgmt_line (s : State) (f : Management → Management) : (s.modMgmt f).line = s.line := rfl
@[simp] theorem modMgmt_ports (s : State) (f : Management → Management) : (s.modMgmt f).ports = s.ports := rfl
@[simp] theorem modMgmt_arb (s : State) (f : Management → Management) : (s.modMgmt f).arb = s.arb := rfl
@[simp] theorem modMgmt_table (s : State) (f : Management → Management) : (s.modMgmt f).table = s.table := rfl
@[simp] theorem modMgmt_cls (s : State) (f : Management → Management) : (s.modMgmt f).cls = s.cls := rfl
@[simp] theorem modMgmt_time (s : State) (f : Management → Management) : (s.modMgmt f).time = s.time := rfl
@[simp] theorem modMgmt_roam (s : State) (f : Management → Management) : (s.modMgmt f).roam = s.roam := rfl
@[simp] theorem modMgmt_mem (s : State) (f : Management → Management) : (s.modMgmt f).mem = s.mem := rfl
@[simp] theorem modMgmt_queues (s : State) (f : Management → Management) : (s.modMgmt f).queues = s.queues := rfl
@[simp] theorem modMgmt_fore (s : State) (f : Management → Management) : (s.modMgmt f).fore = s.fore := rfl
@[simp] theorem modMgmt_aft (s : State) (f : Management → Management) : (s.modMgmt f).aft = s.aft := rfl
@[simp] theorem modMgmt_purge (s : State) (f : Management → Management) : (s.modMgmt f).purge = s.purge := rfl
@[simp] theorem modMgmt_notice (s : State) (f : Management → Management) : (s.modMgmt f).notice = s.notice := rfl
@[simp] theorem modMgmt_globals (s : State) (f : Management → Management) : (s.modMgmt f).globals = s.globals := rfl

@[simp] theorem modSide_pending (s : State) (b : Side) (f : BackboneTx → BackboneTx) : (s.modSide b f).pending = s.pending := by cases b <;> rfl
@[simp] theorem modSide_line (s : State) (b : Side) (f : BackboneTx → BackboneTx) : (s.modSide b f).line = s.line := by cases b <;> rfl
@[simp] theorem modSide_ports (s : State) (b : Side) (f : BackboneTx → BackboneTx) : (s.modSide b f).ports = s.ports := by cases b <;> rfl
@[simp] theorem modSide_arb (s : State) (b : Side) (f : BackboneTx → BackboneTx) : (s.modSide b f).arb = s.arb := by cases b <;> rfl
@[simp] theorem modSide_table (s : State) (b : Side) (f : BackboneTx → BackboneTx) : (s.modSide b f).table = s.table := by cases b <;> rfl
@[simp] theorem modSide_cls (s : State) (b : Side) (f : BackboneTx → BackboneTx) : (s.modSide b f).cls = s.cls := by cases b <;> rfl
@[simp] theorem modSide_time (s : State) (b : Side) (f : BackboneTx → BackboneTx) : (s.modSide b f).time = s.time := by cases b <;> rfl
@[simp] theorem modSide_roam (s : State) (b : Side) (f : BackboneTx → BackboneTx) : (s.modSide b f).roam = s.roam := by cases b <;> rfl
@[simp] theorem modSide_mem (s : State) (b : Side) (f : BackboneTx → BackboneTx) : (s.modSide b f).mem = s.mem := by cases b <;> rfl
@[simp] theorem modSide_queues (s : State) (b : Side) (f : BackboneTx → BackboneTx) : (s.modSide b f).queues = s.queues := by cases b <;> rfl
@[simp] theorem modSide_purge (s : State) (b : Side) (f : BackboneTx → BackboneTx) : (s.modSide b f).purge = s.purge := by cases b <;> rfl
@[simp] theorem modSide_mgmt (s : State) (b : Side) (f : BackboneTx → BackboneTx) : (s.modSide b f).mgmt = s.mgmt := by cases b <;> rfl
@[simp] theorem modSide_notice (s : State) (b : Side) (f : BackboneTx → BackboneTx) : (s.modSide b f).notice = s.notice := by cases b <;> rfl
@[simp] theorem modSide_globals (s : State) (b : Side) (f : BackboneTx → BackboneTx) : (s.modSide b f).globals = s.globals := by cases b <;> rfl

/-! ## The field an update changes -/

@[simp] theorem modPort_ports (s : State) (p : Port) (f : PortUnit → PortUnit) :
    (s.modPort p f).ports = s.ports.modify p f := rfl
@[simp] theorem modEntry_entries (s : State) (i : StationIx) (f : StationEntry → StationEntry) :
    (s.modEntry i f).table.entries = s.table.entries.modify i f := rfl
@[simp] theorem modEntry_reports (s : State) (i : StationIx) (f : StationEntry → StationEntry) :
    (s.modEntry i f).table.reports = s.table.reports := rfl
@[simp] theorem modEntry_agingPointer (s : State) (i : StationIx) (f : StationEntry → StationEntry) :
    (s.modEntry i f).table.agingPointer = s.table.agingPointer := rfl
@[simp] theorem modEntry_learnedLimit (s : State) (i : StationIx) (f : StationEntry → StationEntry) :
    (s.modEntry i f).table.learnedLimit = s.table.learnedLimit := rfl
@[simp] theorem modEntry_admittedLimit (s : State) (i : StationIx) (f : StationEntry → StationEntry) :
    (s.modEntry i f).table.admittedLimit = s.table.admittedLimit := rfl
@[simp] theorem modRecord_bytes (s : State) (r : RecordIx) (f : FrameRecord → FrameRecord) :
    (s.modRecord r f).mem.bytes = s.mem.bytes := rfl
@[simp] theorem modRecord_next (s : State) (r : RecordIx) (f : FrameRecord → FrameRecord) :
    (s.modRecord r f).mem.next = s.mem.next := rfl
@[simp] theorem modRecord_free (s : State) (r : RecordIx) (f : FrameRecord → FrameRecord) :
    (s.modRecord r f).mem.free = s.mem.free := rfl
@[simp] theorem modRecord_freeCount (s : State) (r : RecordIx) (f : FrameRecord → FrameRecord) :
    (s.modRecord r f).mem.freeCount = s.mem.freeCount := rfl
@[simp] theorem modRecord_records (s : State) (r : RecordIx) (f : FrameRecord → FrameRecord) :
    (s.modRecord r f).mem.records = s.mem.records.modify r f := rfl
@[simp] theorem modRecord_reserve (s : State) (r : RecordIx) (f : FrameRecord → FrameRecord) :
    (s.modRecord r f).mem.reserve = s.mem.reserve := rfl
@[simp] theorem modQueue_queues (s : State) (q : QueueId) (f : Queue → Queue) :
    (s.modQueue q f).queues = s.queues.modify (queueIx q) f := rfl
@[simp] theorem modNotice_notice (s : State) (f : NoticeUnit → NoticeUnit) : (s.modNotice f).notice = f s.notice := rfl
@[simp] theorem modLine_line (s : State) (f : LineController → LineController) : (s.modLine f).line = f s.line := rfl
@[simp] theorem modMgmt_mgmt (s : State) (f : Management → Management) : (s.modMgmt f).mgmt = f s.mgmt := rfl

/-! ## What an accessor reads after an update -/

theorem port_modPort (s : State) (p q : Port) (f : PortUnit → PortUnit) :
    (s.modPort p f).port q = if p = q then f (s.port p) else s.port q := Tab.get_modify _ _ _ _
@[simp] theorem port_modPort_self (s : State) (p : Port) (f : PortUnit → PortUnit) :
    (s.modPort p f).port p = f (s.port p) := Tab.get_modify_self _ _ _
theorem port_modPort_ne (s : State) {p q : Port} (f : PortUnit → PortUnit) (h : p ≠ q) :
    (s.modPort p f).port q = s.port q := Tab.get_modify_ne _ _ h

theorem entry_modEntry (s : State) (i j : StationIx) (f : StationEntry → StationEntry) :
    (s.modEntry i f).entry j = if i = j then f (s.entry i) else s.entry j := Tab.get_modify _ _ _ _
@[simp] theorem entry_modEntry_self (s : State) (i : StationIx) (f : StationEntry → StationEntry) :
    (s.modEntry i f).entry i = f (s.entry i) := Tab.get_modify_self _ _ _
theorem entry_modEntry_ne (s : State) {i j : StationIx} (f : StationEntry → StationEntry) (h : i ≠ j) :
    (s.modEntry i f).entry j = s.entry j := Tab.get_modify_ne _ _ h

theorem record_modRecord (s : State) (r q : RecordIx) (f : FrameRecord → FrameRecord) :
    (s.modRecord r f).record q = if r = q then f (s.record r) else s.record q := Tab.get_modify _ _ _ _
@[simp] theorem record_modRecord_self (s : State) (r : RecordIx) (f : FrameRecord → FrameRecord) :
    (s.modRecord r f).record r = f (s.record r) := Tab.get_modify_self _ _ _
theorem record_modRecord_ne (s : State) {r q : RecordIx} (f : FrameRecord → FrameRecord) (h : r ≠ q) :
    (s.modRecord r f).record q = s.record q := Tab.get_modify_ne _ _ h

/-- Two queues stand at two places among the 74. -/
theorem queueIx_injective : Function.Injective queueIx := by
  have zero : ((0 : Fin 74) : Nat) = 0 := rfl
  have five : ((5 : Fin 74) : Nat) = 5 := rfl
  intro a b h
  have v := congrArg Fin.val h
  rcases a with (_ | _) | ⟨_ | _, c⟩ | r | r | k <;> rcases b with (_ | _) | ⟨_ | _, c'⟩ | r' | r' | k' <;>
    simp only [queueIx, zero, five] at v <;> first | rfl | omega | (congr 1; apply Fin.ext; omega)

theorem queue_modQueue (s : State) (q q' : QueueId) (f : Queue → Queue) :
    (s.modQueue q f).queue q' = if q = q' then f (s.queue q) else s.queue q' := by
  unfold State.queue State.modQueue
  rw [Tab.get_modify]
  by_cases h : q = q'
  · simp [h]
  · have k : queueIx q ≠ queueIx q' := fun e => h (queueIx_injective e)
    simp [h, k]
@[simp] theorem queue_modQueue_self (s : State) (q : QueueId) (f : Queue → Queue) :
    (s.modQueue q f).queue q = f (s.queue q) := Tab.get_modify_self _ _ _
theorem queue_modQueue_ne (s : State) {q q' : QueueId} (f : Queue → Queue) (h : q ≠ q') :
    (s.modQueue q f).queue q' = s.queue q' := by rw [queue_modQueue]; simp [h]

theorem side_modSide (s : State) (b c : Side) (f : BackboneTx → BackboneTx) :
    (s.modSide b f).side c = if b = c then f (s.side b) else s.side c := by cases b <;> cases c <;> rfl
@[simp] theorem side_modSide_self (s : State) (b : Side) (f : BackboneTx → BackboneTx) :
    (s.modSide b f).side b = f (s.side b) := by cases b <;> rfl
theorem side_modSide_ne (s : State) {b c : Side} (f : BackboneTx → BackboneTx) (h : b ≠ c) :
    (s.modSide b f).side c = s.side c := by rw [side_modSide]; simp [h]

@[simp] theorem modEntry_port (s : State) (i : StationIx) (f : StationEntry → StationEntry) (k : Port) : (s.modEntry i f).port k = s.port k := rfl
@[simp] theorem modRecord_port (s : State) (r : RecordIx) (f : FrameRecord → FrameRecord) (k : Port) : (s.modRecord r f).port k = s.port k := rfl
@[simp] theorem modQueue_port (s : State) (q : QueueId) (f : Queue → Queue) (k : Port) : (s.modQueue q f).port k = s.port k := rfl
@[simp] theorem modNotice_port (s : State) (f : NoticeUnit → NoticeUnit) (k : Port) : (s.modNotice f).port k = s.port k := rfl
@[simp] theorem modLine_port (s : State) (f : LineController → LineController) (k : Port) : (s.modLine f).port k = s.port k := rfl
@[simp] theorem modMgmt_port (s : State) (f : Management → Management) (k : Port) : (s.modMgmt f).port k = s.port k := rfl
@[simp] theorem modSide_port (s : State) (b : Side) (f : BackboneTx → BackboneTx) (k : Port) : (s.modSide b f).port k = s.port k := by cases b <;> rfl

@[simp] theorem modPort_entry (s : State) (p : Port) (f : PortUnit → PortUnit) (j : StationIx) : (s.modPort p f).entry j = s.entry j := rfl
@[simp] theorem modRecord_entry (s : State) (r : RecordIx) (f : FrameRecord → FrameRecord) (j : StationIx) : (s.modRecord r f).entry j = s.entry j := rfl
@[simp] theorem modQueue_entry (s : State) (q : QueueId) (f : Queue → Queue) (j : StationIx) : (s.modQueue q f).entry j = s.entry j := rfl
@[simp] theorem modNotice_entry (s : State) (f : NoticeUnit → NoticeUnit) (j : StationIx) : (s.modNotice f).entry j = s.entry j := rfl
@[simp] theorem modLine_entry (s : State) (f : LineController → LineController) (j : StationIx) : (s.modLine f).entry j = s.entry j := rfl
@[simp] theorem modMgmt_entry (s : State) (f : Management → Management) (j : StationIx) : (s.modMgmt f).entry j = s.entry j := rfl
@[simp] theorem modSide_entry (s : State) (b : Side) (f : BackboneTx → BackboneTx) (j : StationIx) : (s.modSide b f).entry j = s.entry j := by cases b <;> rfl

@[simp] theorem modPort_record (s : State) (p : Port) (f : PortUnit → PortUnit) (k : RecordIx) : (s.modPort p f).record k = s.record k := rfl
@[simp] theorem modEntry_record (s : State) (i : StationIx) (f : StationEntry → StationEntry) (k : RecordIx) : (s.modEntry i f).record k = s.record k := rfl
@[simp] theorem modQueue_record (s : State) (q : QueueId) (f : Queue → Queue) (k : RecordIx) : (s.modQueue q f).record k = s.record k := rfl
@[simp] theorem modNotice_record (s : State) (f : NoticeUnit → NoticeUnit) (k : RecordIx) : (s.modNotice f).record k = s.record k := rfl
@[simp] theorem modLine_record (s : State) (f : LineController → LineController) (k : RecordIx) : (s.modLine f).record k = s.record k := rfl
@[simp] theorem modMgmt_record (s : State) (f : Management → Management) (k : RecordIx) : (s.modMgmt f).record k = s.record k := rfl
@[simp] theorem modSide_record (s : State) (b : Side) (f : BackboneTx → BackboneTx) (k : RecordIx) : (s.modSide b f).record k = s.record k := by cases b <;> rfl

@[simp] theorem modPort_queue (s : State) (p : Port) (f : PortUnit → PortUnit) (x : QueueId) : (s.modPort p f).queue x = s.queue x := rfl
@[simp] theorem modEntry_queue (s : State) (i : StationIx) (f : StationEntry → StationEntry) (x : QueueId) : (s.modEntry i f).queue x = s.queue x := rfl
@[simp] theorem modRecord_queue (s : State) (r : RecordIx) (f : FrameRecord → FrameRecord) (x : QueueId) : (s.modRecord r f).queue x = s.queue x := rfl
@[simp] theorem modNotice_queue (s : State) (f : NoticeUnit → NoticeUnit) (x : QueueId) : (s.modNotice f).queue x = s.queue x := rfl
@[simp] theorem modLine_queue (s : State) (f : LineController → LineController) (x : QueueId) : (s.modLine f).queue x = s.queue x := rfl
@[simp] theorem modMgmt_queue (s : State) (f : Management → Management) (x : QueueId) : (s.modMgmt f).queue x = s.queue x := rfl
@[simp] theorem modSide_queue (s : State) (b : Side) (f : BackboneTx → BackboneTx) (x : QueueId) : (s.modSide b f).queue x = s.queue x := by cases b <;> rfl

@[simp] theorem modPort_profile (s : State) (p : Port) (f : PortUnit → PortUnit) (m : Fin 32) : (s.modPort p f).profile m = s.profile m := rfl
@[simp] theorem modEntry_profile (s : State) (i : StationIx) (f : StationEntry → StationEntry) (m : Fin 32) : (s.modEntry i f).profile m = s.profile m := rfl
@[simp] theorem modRecord_profile (s : State) (r : RecordIx) (f : FrameRecord → FrameRecord) (m : Fin 32) : (s.modRecord r f).profile m = s.profile m := rfl
@[simp] theorem modQueue_profile (s : State) (q : QueueId) (f : Queue → Queue) (m : Fin 32) : (s.modQueue q f).profile m = s.profile m := rfl
@[simp] theorem modNotice_profile (s : State) (f : NoticeUnit → NoticeUnit) (m : Fin 32) : (s.modNotice f).profile m = s.profile m := rfl
@[simp] theorem modLine_profile (s : State) (f : LineController → LineController) (m : Fin 32) : (s.modLine f).profile m = s.profile m := rfl
@[simp] theorem modMgmt_profile (s : State) (f : Management → Management) (m : Fin 32) : (s.modMgmt f).profile m = s.profile m := rfl
@[simp] theorem modSide_profile (s : State) (b : Side) (f : BackboneTx → BackboneTx) (m : Fin 32) : (s.modSide b f).profile m = s.profile m := by cases b <;> rfl

@[simp] theorem modPort_side (s : State) (p : Port) (f : PortUnit → PortUnit) (c : Side) : (s.modPort p f).side c = s.side c := by cases c <;> rfl
@[simp] theorem modEntry_side (s : State) (i : StationIx) (f : StationEntry → StationEntry) (c : Side) : (s.modEntry i f).side c = s.side c := by cases c <;> rfl
@[simp] theorem modRecord_side (s : State) (r : RecordIx) (f : FrameRecord → FrameRecord) (c : Side) : (s.modRecord r f).side c = s.side c := by cases c <;> rfl
@[simp] theorem modQueue_side (s : State) (q : QueueId) (f : Queue → Queue) (c : Side) : (s.modQueue q f).side c = s.side c := by cases c <;> rfl
@[simp] theorem modNotice_side (s : State) (f : NoticeUnit → NoticeUnit) (c : Side) : (s.modNotice f).side c = s.side c := by cases c <;> rfl
@[simp] theorem modLine_side (s : State) (f : LineController → LineController) (c : Side) : (s.modLine f).side c = s.side c := by cases c <;> rfl
@[simp] theorem modMgmt_side (s : State) (f : Management → Management) (c : Side) : (s.modMgmt f).side c = s.side c := by cases c <;> rfl

end Sys2Proof.Machine
end

