-- ==== Sys2Proof/Laws/Memory.lean ====
section
/-! SUPPORT. Frame memory: reading after writing, the canonical form, and what the shared operations on cells and records do to
the bytes. -/

namespace Sys2Proof.Machine

open Sys2Proof

/-- Every listed address is above `a`. -/
def Memory.above (a : Nat) (m : Memory) : Prop := ∀ x ∈ m, a < x.1

theorem Memory.wf_cons (a : Nat) (b : Byte) (m : Memory) :
    Memory.wf ((a, b) :: m) = true ↔ b ≠ Config.unwrittenByte ∧ Memory.above a m ∧ Memory.wf m = true := by
  simp [Memory.wf, Memory.above, and_assoc]

theorem Memory.read_of_above (m : Memory) (a : Nat) (h : Memory.above a m) : Memory.read m a = Config.unwrittenByte := by
  induction m with
  | nil => rfl
  | cons x m ih =>
    obtain ⟨y, b⟩ := x
    have h1 : a < y := h (y, b) (by simp)
    have h2 : y ≠ a := by omega
    simp only [Memory.read, h2, if_false]
    exact ih (fun z hz => h z (by simp [hz]))

/-- A byte written is the byte read, and every other byte reads as before. -/
theorem Memory.read_write (m : Memory) (hm : Memory.wf m = true) (a c : Nat) (b : Byte) :
    Memory.read (Memory.write m a b) c = if a = c then b else Memory.read m c := by
  induction m with
  | nil =>
    by_cases hb : b = Config.unwrittenByte <;> by_cases hc : a = c <;> simp [Memory.write, Memory.read, hb, hc]
  | cons x m ih =>
    obtain ⟨y, d⟩ := x
    obtain ⟨-, ha, hw⟩ := (Memory.wf_cons y d m).1 hm
    have above : ∀ e, e ≤ y → Memory.read m e = Config.unwrittenByte := fun e he =>
      Memory.read_of_above m e (fun z hz => Nat.lt_of_le_of_lt he (ha z hz))
    by_cases h1 : y < a
    · simp only [Memory.write, h1, if_true, Memory.read]
      by_cases h3 : y = c
      · have : a ≠ c := by omega
        simp [h3, this]
      · simp only [h3, if_false]
        exact ih hw
    · by_cases h2 : y = a
      · subst h2
        by_cases hb : b = Config.unwrittenByte
        · by_cases hc : y = c
          · subst hc; simp [Memory.write, hb, above y (le_refl y)]
          · simp [Memory.write, Memory.read, hb, hc]
        · by_cases hc : y = c <;> simp [Memory.write, Memory.read, hb, hc]
      · by_cases hb : b = Config.unwrittenByte
        · by_cases hc : a = c
          · subst hc
            simp [Memory.write, Memory.read, h1, h2, hb, above a (by omega)]
          · simp [Memory.write, Memory.read, h1, h2, hb, hc]
        · by_cases hc : a = c
          · subst hc; simp [Memory.write, Memory.read, h1, h2, hb]
          · simp [Memory.write, Memory.read, h1, h2, hb, hc]

theorem Memory.above_write (m : Memory) (a c : Nat) (b : Byte) (hc : c < a) (h : Memory.above c m) :
    Memory.above c (Memory.write m a b) := by
  induction m with
  | nil =>
    intro x hx
    by_cases hb : b = Config.unwrittenByte <;> simp [Memory.write, hb] at hx
    subst hx; exact hc
  | cons y m ih =>
    obtain ⟨y, d⟩ := y
    have hy : c < y := h (y, d) (by simp)
    have hm : Memory.above c m := fun z hz => h z (by simp [hz])
    intro x hx
    unfold Memory.write at hx
    split at hx
    · rcases List.mem_cons.1 hx with rfl | hx
      · exact hy
      · exact ih hm x hx
    · split at hx <;> split at hx
      · exact hm x hx
      · rcases List.mem_cons.1 hx with rfl | hx
        · exact hc
        · exact hm x hx
      · exact h x hx
      · rcases List.mem_cons.1 hx with rfl | hx
        · exact hc
        · exact h x hx

/-- A write keeps the canonical form. -/
theorem Memory.wf_write (m : Memory) (hm : Memory.wf m = true) (a : Nat) (b : Byte) : Memory.wf (Memory.write m a b) = true := by
  induction m with
  | nil => by_cases hb : b = Config.unwrittenByte <;> simp [Memory.write, Memory.wf, hb]
  | cons y m ih =>
    obtain ⟨y, d⟩ := y
    obtain ⟨hd, ha, hw⟩ := (Memory.wf_cons y d m).1 hm
    unfold Memory.write
    split
    · next h => exact (Memory.wf_cons _ _ _).2 ⟨hd, Memory.above_write m a y b h ha, ih hw⟩
    · next h =>
      split <;> split
      · exact hw
      · next h2 hb => exact (Memory.wf_cons _ _ _).2 ⟨hb, h2 ▸ ha, hw⟩
      · exact hm
      · next h2 hb =>
        refine (Memory.wf_cons _ _ _).2 ⟨hb, ?_, hm⟩
        intro z hz
        rcases List.mem_cons.1 hz with rfl | hz
        · show a < y; omega
        · have := ha z hz; omega

theorem Memory.wf_writeAll (l : List (Nat × Byte)) (m : Memory) (hm : Memory.wf m = true) :
    Memory.wf (Memory.writeAll m l) = true := by
  induction l generalizing m with
  | nil => exact hm
  | cons x l ih => exact ih _ (Memory.wf_write m hm x.1 x.2)

/-- Bytes written at distinct addresses read back, and every other byte reads as before. -/
theorem Memory.read_writeAll (l : List (Nat × Byte)) (hl : (l.map (·.1)).Nodup) (m : Memory) (hm : Memory.wf m = true)
    (c : Nat) :
    Memory.read (Memory.writeAll m l) c = ((l.find? (fun x => x.1 == c)).map (·.2)).getD (Memory.read m c) := by
  induction l generalizing m with
  | nil => rfl
  | cons x l ih =>
    obtain ⟨hx, hl⟩ := List.nodup_cons.1 hl
    change Memory.read (Memory.writeAll (Memory.write m x.1 x.2) l) c = _
    rw [ih hl _ (Memory.wf_write m hm x.1 x.2), Memory.read_write m hm]
    by_cases hc : x.1 = c
    · subst hc
      have : l.find? (fun y => y.1 == x.1) = none := by
        rw [List.find?_eq_none]
        intro y hy
        simp only [beq_iff_eq]
        intro e
        exact hx (List.mem_map.2 ⟨y, hy, e⟩)
      simp [this]
    · simp [hc]

/-! ## The shared operations and the bytes -/

@[simp] theorem writeFrame_bytes (r : RecordIx) (bs : List Byte) (s : State) :
    (writeFrame r bs s).mem.bytes = Memory.writeAll s.mem.bytes ((cellAddresses (cellsOf s.mem r)).zip bs) := rfl

@[simp] theorem giveCell_bytes (r : RecordIx) (s : State) : (giveCell r s).mem.bytes = s.mem.bytes := by
  unfold giveCell
  split
  · rfl
  · simp only; split <;> rfl

@[simp] theorem releaseRecord_bytes (r : RecordIx) (s : State) : (releaseRecord r s).mem.bytes = s.mem.bytes := rfl

/-- The frame memory of State.reset has the canonical form. -/
theorem reset_memory_wf : Memory.wf State.reset.mem.bytes = true := rfl

end Sys2Proof.Machine
end

