-- ==== Sys2Proof/Laws/Frames.lean ====
section
/-! SUPPORT. What each shared operation leaves as it is: one lemma for each, which simp reads as one rewrite for each field. -/

namespace Sys2Proof.Machine

open Sys2Proof

/-! ## Counters and notice sources -/

@[simp] theorem countPort_frame (p : Port) (c : PortCounter) (s : State) :
    (countPort p c s).pending = s.pending ∧ (countPort p c s).line = s.line ∧ (countPort p c s).arb = s.arb ∧
    (countPort p c s).table = s.table ∧ (countPort p c s).cls = s.cls ∧ (countPort p c s).time = s.time ∧
    (countPort p c s).roam = s.roam ∧ (countPort p c s).mem = s.mem ∧ (countPort p c s).queues = s.queues ∧
    (countPort p c s).fore = s.fore ∧ (countPort p c s).aft = s.aft ∧ (countPort p c s).purge = s.purge ∧
    (countPort p c s).mgmt = s.mgmt ∧ (countPort p c s).notice = s.notice ∧ (countPort p c s).globals = s.globals := by
  and_intros <;> rfl

@[simp] theorem countStation_frame (i : StationIx) (c : StationCounter) (s : State) :
    (countStation i c s).pending = s.pending ∧ (countStation i c s).line = s.line ∧
    (countStation i c s).ports = s.ports ∧ (countStation i c s).arb = s.arb ∧ (countStation i c s).cls = s.cls ∧
    (countStation i c s).time = s.time ∧ (countStation i c s).roam = s.roam ∧ (countStation i c s).mem = s.mem ∧
    (countStation i c s).queues = s.queues ∧ (countStation i c s).fore = s.fore ∧ (countStation i c s).aft = s.aft ∧
    (countStation i c s).purge = s.purge ∧ (countStation i c s).mgmt = s.mgmt ∧
    (countStation i c s).notice = s.notice ∧ (countStation i c s).globals = s.globals := by
  and_intros <;> rfl

@[simp] theorem countGlobal_frame (c : GlobalCounter) (s : State) :
    (countGlobal c s).pending = s.pending ∧ (countGlobal c s).line = s.line ∧ (countGlobal c s).ports = s.ports ∧
    (countGlobal c s).arb = s.arb ∧ (countGlobal c s).table = s.table ∧ (countGlobal c s).cls = s.cls ∧
    (countGlobal c s).time = s.time ∧ (countGlobal c s).roam = s.roam ∧ (countGlobal c s).mem = s.mem ∧
    (countGlobal c s).queues = s.queues ∧ (countGlobal c s).fore = s.fore ∧ (countGlobal c s).aft = s.aft ∧
    (countGlobal c s).purge = s.purge ∧ (countGlobal c s).mgmt = s.mgmt ∧ (countGlobal c s).notice = s.notice := by
  and_intros <;> rfl

@[simp] theorem countDrop_frame (q : QueueId) (s : State) :
    (countDrop q s).pending = s.pending ∧ (countDrop q s).line = s.line ∧ (countDrop q s).ports = s.ports ∧
    (countDrop q s).arb = s.arb ∧ (countDrop q s).table = s.table ∧ (countDrop q s).cls = s.cls ∧
    (countDrop q s).time = s.time ∧ (countDrop q s).roam = s.roam ∧ (countDrop q s).mem = s.mem ∧
    (countDrop q s).fore = s.fore ∧ (countDrop q s).aft = s.aft ∧ (countDrop q s).purge = s.purge ∧
    (countDrop q s).mgmt = s.mgmt ∧ (countDrop q s).notice = s.notice ∧ (countDrop q s).globals = s.globals := by
  and_intros <;> rfl

@[simp] theorem raise_frame (src : Source) (s : State) :
    (raise src s).pending = s.pending ∧ (raise src s).line = s.line ∧ (raise src s).ports = s.ports ∧
    (raise src s).arb = s.arb ∧ (raise src s).table = s.table ∧ (raise src s).cls = s.cls ∧
    (raise src s).time = s.time ∧ (raise src s).roam = s.roam ∧ (raise src s).mem = s.mem ∧
    (raise src s).queues = s.queues ∧ (raise src s).fore = s.fore ∧ (raise src s).aft = s.aft ∧
    (raise src s).purge = s.purge ∧ (raise src s).mgmt = s.mgmt ∧ (raise src s).globals = s.globals := by
  and_intros <;> rfl

@[simp] theorem noteLinkChange_frame (p : Port) (s : State) :
    (noteLinkChange p s).pending = s.pending ∧ (noteLinkChange p s).line = s.line ∧
    (noteLinkChange p s).ports = s.ports ∧ (noteLinkChange p s).arb = s.arb ∧ (noteLinkChange p s).table = s.table ∧
    (noteLinkChange p s).cls = s.cls ∧ (noteLinkChange p s).time = s.time ∧ (noteLinkChange p s).roam = s.roam ∧
    (noteLinkChange p s).mem = s.mem ∧ (noteLinkChange p s).queues = s.queues ∧ (noteLinkChange p s).fore = s.fore ∧
    (noteLinkChange p s).aft = s.aft ∧ (noteLinkChange p s).purge = s.purge ∧ (noteLinkChange p s).mgmt = s.mgmt ∧
    (noteLinkChange p s).globals = s.globals := by
  and_intros <;> rfl

/-! ## Cells and records -/

@[simp] theorem writeFrame_frame (r : RecordIx) (bs : List Byte) (s : State) :
    (writeFrame r bs s).pending = s.pending ∧ (writeFrame r bs s).line = s.line ∧ (writeFrame r bs s).ports = s.ports ∧
    (writeFrame r bs s).arb = s.arb ∧ (writeFrame r bs s).table = s.table ∧ (writeFrame r bs s).cls = s.cls ∧
    (writeFrame r bs s).time = s.time ∧ (writeFrame r bs s).roam = s.roam ∧ (writeFrame r bs s).queues = s.queues ∧
    (writeFrame r bs s).fore = s.fore ∧ (writeFrame r bs s).aft = s.aft ∧ (writeFrame r bs s).purge = s.purge ∧
    (writeFrame r bs s).mgmt = s.mgmt ∧ (writeFrame r bs s).notice = s.notice ∧ (writeFrame r bs s).globals = s.globals := by
  and_intros <;> rfl

@[simp] theorem giveCell_frame (r : RecordIx) (s : State) :
    (giveCell r s).pending = s.pending ∧ (giveCell r s).line = s.line ∧ (giveCell r s).ports = s.ports ∧
    (giveCell r s).arb = s.arb ∧ (giveCell r s).table = s.table ∧ (giveCell r s).cls = s.cls ∧
    (giveCell r s).time = s.time ∧ (giveCell r s).roam = s.roam ∧ (giveCell r s).queues = s.queues ∧
    (giveCell r s).fore = s.fore ∧ (giveCell r s).aft = s.aft ∧ (giveCell r s).purge = s.purge ∧
    (giveCell r s).mgmt = s.mgmt ∧ (giveCell r s).globals = s.globals := by
  unfold giveCell
  split
  · and_intros <;> rfl
  · simp only
    split <;> and_intros <;> rfl

@[simp] theorem releaseRecord_frame (r : RecordIx) (s : State) :
    (releaseRecord r s).pending = s.pending ∧ (releaseRecord r s).line = s.line ∧ (releaseRecord r s).ports = s.ports ∧
    (releaseRecord r s).arb = s.arb ∧ (releaseRecord r s).table = s.table ∧ (releaseRecord r s).cls = s.cls ∧
    (releaseRecord r s).time = s.time ∧ (releaseRecord r s).roam = s.roam ∧ (releaseRecord r s).queues = s.queues ∧
    (releaseRecord r s).fore = s.fore ∧ (releaseRecord r s).aft = s.aft ∧ (releaseRecord r s).purge = s.purge ∧
    (releaseRecord r s).mgmt = s.mgmt ∧ (releaseRecord r s).notice = s.notice ∧ (releaseRecord r s).globals = s.globals := by
  and_intros <;> rfl

/-! ## The station table -/

@[simp] theorem addReport_frame (x : Report) (s : State) :
    (addReport x s).pending = s.pending ∧ (addReport x s).line = s.line ∧ (addReport x s).ports = s.ports ∧
    (addReport x s).arb = s.arb ∧ (addReport x s).cls = s.cls ∧ (addReport x s).time = s.time ∧
    (addReport x s).roam = s.roam ∧ (addReport x s).mem = s.mem ∧ (addReport x s).queues = s.queues ∧
    (addReport x s).fore = s.fore ∧ (addReport x s).aft = s.aft ∧ (addReport x s).purge = s.purge ∧
    (addReport x s).mgmt = s.mgmt ∧ (addReport x s).globals = s.globals := by
  and_intros <;> rfl

@[simp] theorem postLearned_frame (i : StationIx) (p : Port) (s : State) :
    (postLearned i p s).pending = s.pending ∧ (postLearned i p s).line = s.line ∧ (postLearned i p s).ports = s.ports ∧
    (postLearned i p s).arb = s.arb ∧ (postLearned i p s).cls = s.cls ∧ (postLearned i p s).time = s.time ∧
    (postLearned i p s).roam = s.roam ∧ (postLearned i p s).mem = s.mem ∧ (postLearned i p s).queues = s.queues ∧
    (postLearned i p s).fore = s.fore ∧ (postLearned i p s).aft = s.aft ∧ (postLearned i p s).purge = s.purge ∧
    (postLearned i p s).mgmt = s.mgmt ∧ (postLearned i p s).globals = s.globals := by
  unfold postLearned
  repeat' split
  all_goals and_intros <;> rfl

@[simp] theorem postSpent_frame (i : StationIx) (s : State) :
    (postSpent i s).pending = s.pending ∧ (postSpent i s).line = s.line ∧ (postSpent i s).ports = s.ports ∧
    (postSpent i s).arb = s.arb ∧ (postSpent i s).cls = s.cls ∧ (postSpent i s).time = s.time ∧
    (postSpent i s).roam = s.roam ∧ (postSpent i s).mem = s.mem ∧ (postSpent i s).queues = s.queues ∧
    (postSpent i s).fore = s.fore ∧ (postSpent i s).aft = s.aft ∧ (postSpent i s).purge = s.purge ∧
    (postSpent i s).mgmt = s.mgmt ∧ (postSpent i s).globals = s.globals := by
  unfold postSpent
  repeat' split
  all_goals and_intros <;> rfl

@[simp] theorem postPinned_frame (i : StationIx) (p : Port) (s : State) :
    (postPinned i p s).pending = s.pending ∧ (postPinned i p s).line = s.line ∧ (postPinned i p s).ports = s.ports ∧
    (postPinned i p s).arb = s.arb ∧ (postPinned i p s).cls = s.cls ∧ (postPinned i p s).time = s.time ∧
    (postPinned i p s).roam = s.roam ∧ (postPinned i p s).mem = s.mem ∧ (postPinned i p s).queues = s.queues ∧
    (postPinned i p s).fore = s.fore ∧ (postPinned i p s).aft = s.aft ∧ (postPinned i p s).purge = s.purge ∧
    (postPinned i p s).mgmt = s.mgmt ∧ (postPinned i p s).globals = s.globals := by
  unfold postPinned
  repeat' split
  all_goals and_intros <;> rfl

@[simp] theorem modSeatCount_frame (p : Port) (f : Nat → Nat) (s : State) :
    (modSeatCount p f s).pending = s.pending ∧ (modSeatCount p f s).line = s.line ∧ (modSeatCount p f s).arb = s.arb ∧
    (modSeatCount p f s).table = s.table ∧ (modSeatCount p f s).cls = s.cls ∧ (modSeatCount p f s).time = s.time ∧
    (modSeatCount p f s).roam = s.roam ∧ (modSeatCount p f s).mem = s.mem ∧ (modSeatCount p f s).queues = s.queues ∧
    (modSeatCount p f s).fore = s.fore ∧ (modSeatCount p f s).aft = s.aft ∧ (modSeatCount p f s).purge = s.purge ∧
    (modSeatCount p f s).mgmt = s.mgmt ∧ (modSeatCount p f s).notice = s.notice ∧
    (modSeatCount p f s).globals = s.globals := by
  unfold modSeatCount
  repeat' split
  all_goals and_intros <;> rfl

@[simp] theorem detachStation_frame (i : StationIx) (s : State) :
    (detachStation i s).pending = s.pending ∧ (detachStation i s).line = s.line ∧ (detachStation i s).arb = s.arb ∧
    (detachStation i s).cls = s.cls ∧ (detachStation i s).time = s.time ∧ (detachStation i s).roam = s.roam ∧
    (detachStation i s).mem = s.mem ∧ (detachStation i s).queues = s.queues ∧ (detachStation i s).fore = s.fore ∧
    (detachStation i s).aft = s.aft ∧ (detachStation i s).purge = s.purge ∧ (detachStation i s).mgmt = s.mgmt ∧
    (detachStation i s).notice = s.notice ∧ (detachStation i s).globals = s.globals := by
  unfold detachStation
  repeat' split
  all_goals and_intros <;> first | rfl | simp

@[simp] theorem detachPort_frame (p : Port) (s : State) :
    (detachPort p s).pending = s.pending ∧ (detachPort p s).line = s.line ∧ (detachPort p s).arb = s.arb ∧
    (detachPort p s).cls = s.cls ∧ (detachPort p s).time = s.time ∧ (detachPort p s).roam = s.roam ∧
    (detachPort p s).mem = s.mem ∧ (detachPort p s).queues = s.queues ∧ (detachPort p s).fore = s.fore ∧
    (detachPort p s).aft = s.aft ∧ (detachPort p s).purge = s.purge ∧ (detachPort p s).mgmt = s.mgmt ∧
    (detachPort p s).notice = s.notice ∧ (detachPort p s).globals = s.globals := by
  unfold detachPort
  and_intros <;> simp

@[simp] theorem freeEntry_frame (i : StationIx) (s : State) :
    (freeEntry i s).pending = s.pending ∧ (freeEntry i s).line = s.line ∧ (freeEntry i s).arb = s.arb ∧
    (freeEntry i s).cls = s.cls ∧ (freeEntry i s).time = s.time ∧ (freeEntry i s).roam = s.roam ∧
    (freeEntry i s).mem = s.mem ∧ (freeEntry i s).queues = s.queues ∧ (freeEntry i s).fore = s.fore ∧
    (freeEntry i s).aft = s.aft ∧ (freeEntry i s).purge = s.purge ∧ (freeEntry i s).mgmt = s.mgmt ∧
    (freeEntry i s).notice = s.notice ∧ (freeEntry i s).globals = s.globals := by
  unfold freeEntry
  and_intros <;> simp

@[simp] theorem createEntry_frame (i : StationIx) (a : Addr) (s : State) :
    (createEntry i a s).pending = s.pending ∧ (createEntry i a s).line = s.line ∧ (createEntry i a s).ports = s.ports ∧
    (createEntry i a s).arb = s.arb ∧ (createEntry i a s).cls = s.cls ∧ (createEntry i a s).time = s.time ∧
    (createEntry i a s).roam = s.roam ∧ (createEntry i a s).mem = s.mem ∧ (createEntry i a s).queues = s.queues ∧
    (createEntry i a s).fore = s.fore ∧ (createEntry i a s).aft = s.aft ∧ (createEntry i a s).purge = s.purge ∧
    (createEntry i a s).mgmt = s.mgmt ∧ (createEntry i a s).notice = s.notice ∧ (createEntry i a s).globals = s.globals := by
  and_intros <;> rfl

/-! ## Credits and allowances -/

@[simp] theorem refill_frame (i : StationIx) (s : State) :
    (refill i s).pending = s.pending ∧ (refill i s).line = s.line ∧ (refill i s).ports = s.ports ∧
    (refill i s).arb = s.arb ∧ (refill i s).cls = s.cls ∧ (refill i s).time = s.time ∧ (refill i s).roam = s.roam ∧
    (refill i s).mem = s.mem ∧ (refill i s).queues = s.queues ∧ (refill i s).fore = s.fore ∧ (refill i s).aft = s.aft ∧
    (refill i s).purge = s.purge ∧ (refill i s).mgmt = s.mgmt ∧ (refill i s).notice = s.notice ∧
    (refill i s).globals = s.globals := by
  and_intros <;> rfl

@[simp] theorem deductCredit_frame (l : Leg) (g : Grant) (i : StationIx) (n : Nat) (s : State) :
    (deductCredit l g i n s).pending = s.pending ∧ (deductCredit l g i n s).line = s.line ∧
    (deductCredit l g i n s).ports = s.ports ∧ (deductCredit l g i n s).arb = s.arb ∧
    (deductCredit l g i n s).cls = s.cls ∧ (deductCredit l g i n s).time = s.time ∧
    (deductCredit l g i n s).roam = s.roam ∧ (deductCredit l g i n s).mem = s.mem ∧
    (deductCredit l g i n s).queues = s.queues ∧ (deductCredit l g i n s).fore = s.fore ∧
    (deductCredit l g i n s).aft = s.aft ∧ (deductCredit l g i n s).purge = s.purge ∧
    (deductCredit l g i n s).mgmt = s.mgmt ∧ (deductCredit l g i n s).notice = s.notice ∧
    (deductCredit l g i n s).globals = s.globals := by
  unfold deductCredit
  repeat' split
  all_goals and_intros <;> rfl

@[simp] theorem chargeAllowance_frame (g : Grant) (i : StationIx) (n : Nat) (s : State) :
    (chargeAllowance g i n s).pending = s.pending ∧ (chargeAllowance g i n s).line = s.line ∧
    (chargeAllowance g i n s).ports = s.ports ∧ (chargeAllowance g i n s).arb = s.arb ∧
    (chargeAllowance g i n s).cls = s.cls ∧ (chargeAllowance g i n s).time = s.time ∧
    (chargeAllowance g i n s).roam = s.roam ∧ (chargeAllowance g i n s).mem = s.mem ∧
    (chargeAllowance g i n s).queues = s.queues ∧ (chargeAllowance g i n s).fore = s.fore ∧
    (chargeAllowance g i n s).aft = s.aft ∧ (chargeAllowance g i n s).purge = s.purge ∧
    (chargeAllowance g i n s).mgmt = s.mgmt ∧ (chargeAllowance g i n s).globals = s.globals := by
  unfold chargeAllowance
  repeat' split
  all_goals and_intros <;> first | rfl | simp

/-! ## Attachment and aging -/

@[simp] theorem attachTo_frame (i : StationIx) (p : Port) (s : State) :
    (attachTo i p s).pending = s.pending ∧ (attachTo i p s).line = s.line ∧ (attachTo i p s).arb = s.arb ∧
    (attachTo i p s).cls = s.cls ∧ (attachTo i p s).time = s.time ∧ (attachTo i p s).roam = s.roam ∧
    (attachTo i p s).mem = s.mem ∧ (attachTo i p s).queues = s.queues ∧ (attachTo i p s).fore = s.fore ∧
    (attachTo i p s).aft = s.aft ∧ (attachTo i p s).purge = s.purge ∧ (attachTo i p s).mgmt = s.mgmt ∧
    (attachTo i p s).notice = s.notice ∧ (attachTo i p s).globals = s.globals := by
  unfold attachTo
  and_intros <;> simp

@[simp] theorem refuseMove_frame (i : StationIx) (p : Port) (s : State) :
    (refuseMove i p s).pending = s.pending ∧ (refuseMove i p s).line = s.line ∧ (refuseMove i p s).ports = s.ports ∧
    (refuseMove i p s).arb = s.arb ∧ (refuseMove i p s).cls = s.cls ∧ (refuseMove i p s).time = s.time ∧
    (refuseMove i p s).roam = s.roam ∧ (refuseMove i p s).mem = s.mem ∧ (refuseMove i p s).queues = s.queues ∧
    (refuseMove i p s).fore = s.fore ∧ (refuseMove i p s).aft = s.aft ∧ (refuseMove i p s).purge = s.purge ∧
    (refuseMove i p s).mgmt = s.mgmt ∧ (refuseMove i p s).globals = s.globals := by
  unfold refuseMove
  simp only
  split <;> and_intros <;> simp

@[simp] theorem markSeen_frame (i : StationIx) (s : State) :
    (markSeen i s).pending = s.pending ∧ (markSeen i s).line = s.line ∧ (markSeen i s).ports = s.ports ∧
    (markSeen i s).arb = s.arb ∧ (markSeen i s).cls = s.cls ∧ (markSeen i s).time = s.time ∧
    (markSeen i s).roam = s.roam ∧ (markSeen i s).mem = s.mem ∧ (markSeen i s).queues = s.queues ∧
    (markSeen i s).fore = s.fore ∧ (markSeen i s).aft = s.aft ∧ (markSeen i s).purge = s.purge ∧
    (markSeen i s).mgmt = s.mgmt ∧ (markSeen i s).notice = s.notice ∧ (markSeen i s).globals = s.globals := by
  and_intros <;> rfl

@[simp] theorem dueStep_frame (i : StationIx) (s : State) :
    (dueStep i s).pending = s.pending ∧ (dueStep i s).line = s.line ∧ (dueStep i s).ports = s.ports ∧
    (dueStep i s).arb = s.arb ∧ (dueStep i s).cls = s.cls ∧ (dueStep i s).time = s.time ∧ (dueStep i s).roam = s.roam ∧
    (dueStep i s).mem = s.mem ∧ (dueStep i s).queues = s.queues ∧ (dueStep i s).fore = s.fore ∧
    (dueStep i s).aft = s.aft ∧ (dueStep i s).purge = s.purge ∧ (dueStep i s).mgmt = s.mgmt ∧
    (dueStep i s).notice = s.notice ∧ (dueStep i s).globals = s.globals := by
  unfold dueStep
  repeat' split
  all_goals and_intros <;> rfl

@[simp] theorem learnedExpiryStep_frame (i : StationIx) (s : State) :
    (learnedExpiryStep i s).pending = s.pending ∧ (learnedExpiryStep i s).line = s.line ∧
    (learnedExpiryStep i s).arb = s.arb ∧ (learnedExpiryStep i s).cls = s.cls ∧ (learnedExpiryStep i s).time = s.time ∧
    (learnedExpiryStep i s).roam = s.roam ∧ (learnedExpiryStep i s).mem = s.mem ∧
    (learnedExpiryStep i s).queues = s.queues ∧ (learnedExpiryStep i s).fore = s.fore ∧
    (learnedExpiryStep i s).aft = s.aft ∧ (learnedExpiryStep i s).purge = s.purge ∧
    (learnedExpiryStep i s).mgmt = s.mgmt ∧ (learnedExpiryStep i s).notice = s.notice ∧
    (learnedExpiryStep i s).globals = s.globals := by
  unfold learnedExpiryStep
  repeat' split
  all_goals and_intros <;> first | rfl | simp

@[simp] theorem admittedExpiryStep_frame (i : StationIx) (s : State) :
    (admittedExpiryStep i s).pending = s.pending ∧ (admittedExpiryStep i s).line = s.line ∧
    (admittedExpiryStep i s).arb = s.arb ∧ (admittedExpiryStep i s).cls = s.cls ∧
    (admittedExpiryStep i s).time = s.time ∧ (admittedExpiryStep i s).roam = s.roam ∧
    (admittedExpiryStep i s).mem = s.mem ∧ (admittedExpiryStep i s).queues = s.queues ∧
    (admittedExpiryStep i s).fore = s.fore ∧ (admittedExpiryStep i s).aft = s.aft ∧
    (admittedExpiryStep i s).purge = s.purge ∧ (admittedExpiryStep i s).mgmt = s.mgmt ∧
    (admittedExpiryStep i s).globals = s.globals := by
  unfold admittedExpiryStep
  repeat' split
  all_goals and_intros <;> first | rfl | simp

@[simp] theorem holdOffStep_frame (i : StationIx) (s : State) :
    (holdOffStep i s).pending = s.pending ∧ (holdOffStep i s).line = s.line ∧ (holdOffStep i s).ports = s.ports ∧
    (holdOffStep i s).arb = s.arb ∧ (holdOffStep i s).cls = s.cls ∧ (holdOffStep i s).time = s.time ∧
    (holdOffStep i s).roam = s.roam ∧ (holdOffStep i s).mem = s.mem ∧ (holdOffStep i s).queues = s.queues ∧
    (holdOffStep i s).fore = s.fore ∧ (holdOffStep i s).aft = s.aft ∧ (holdOffStep i s).purge = s.purge ∧
    (holdOffStep i s).mgmt = s.mgmt ∧ (holdOffStep i s).notice = s.notice ∧ (holdOffStep i s).globals = s.globals := by
  unfold holdOffStep
  repeat' split
  all_goals and_intros <;> rfl

@[simp] theorem flapDecayStep_frame (i : StationIx) (s : State) :
    (flapDecayStep i s).pending = s.pending ∧ (flapDecayStep i s).line = s.line ∧ (flapDecayStep i s).ports = s.ports ∧
    (flapDecayStep i s).arb = s.arb ∧ (flapDecayStep i s).cls = s.cls ∧ (flapDecayStep i s).time = s.time ∧
    (flapDecayStep i s).roam = s.roam ∧ (flapDecayStep i s).mem = s.mem ∧ (flapDecayStep i s).queues = s.queues ∧
    (flapDecayStep i s).fore = s.fore ∧ (flapDecayStep i s).aft = s.aft ∧ (flapDecayStep i s).purge = s.purge ∧
    (flapDecayStep i s).mgmt = s.mgmt ∧ (flapDecayStep i s).notice = s.notice ∧ (flapDecayStep i s).globals = s.globals := by
  unfold flapDecayStep
  repeat' split
  all_goals and_intros <;> rfl

@[simp] theorem pendingReportsStep_frame (i : StationIx) (s : State) :
    (pendingReportsStep i s).pending = s.pending ∧ (pendingReportsStep i s).line = s.line ∧
    (pendingReportsStep i s).ports = s.ports ∧ (pendingReportsStep i s).arb = s.arb ∧
    (pendingReportsStep i s).cls = s.cls ∧ (pendingReportsStep i s).time = s.time ∧
    (pendingReportsStep i s).roam = s.roam ∧ (pendingReportsStep i s).mem = s.mem ∧
    (pendingReportsStep i s).queues = s.queues ∧ (pendingReportsStep i s).fore = s.fore ∧
    (pendingReportsStep i s).aft = s.aft ∧ (pendingReportsStep i s).purge = s.purge ∧
    (pendingReportsStep i s).mgmt = s.mgmt ∧ (pendingReportsStep i s).globals = s.globals := by
  unfold pendingReportsStep
  simp only
  repeat' split
  all_goals and_intros <;> simp

@[simp] theorem visitWay_frame (s : State) (i : StationIx) :
    (visitWay s i).pending = s.pending ∧ (visitWay s i).line = s.line ∧ (visitWay s i).arb = s.arb ∧
    (visitWay s i).cls = s.cls ∧ (visitWay s i).time = s.time ∧ (visitWay s i).roam = s.roam ∧
    (visitWay s i).mem = s.mem ∧ (visitWay s i).queues = s.queues ∧ (visitWay s i).fore = s.fore ∧
    (visitWay s i).aft = s.aft ∧ (visitWay s i).purge = s.purge ∧ (visitWay s i).mgmt = s.mgmt ∧
    (visitWay s i).globals = s.globals := by
  unfold visitWay
  simp only
  repeat' split
  all_goals and_intros <;> simp

@[simp] theorem agingVisit_frame  (s : State) :
    (agingVisit s).pending = s.pending ∧ (agingVisit s).line = s.line ∧ (agingVisit s).arb = s.arb ∧
    (agingVisit s).cls = s.cls ∧ (agingVisit s).time = s.time ∧ (agingVisit s).roam = s.roam ∧
    (agingVisit s).mem = s.mem ∧ (agingVisit s).queues = s.queues ∧ (agingVisit s).fore = s.fore ∧
    (agingVisit s).aft = s.aft ∧ (agingVisit s).purge = s.purge ∧ (agingVisit s).mgmt = s.mgmt ∧
    (agingVisit s).globals = s.globals := by
  unfold agingVisit waysOf
  and_intros <;> simp [List.foldl]

/-! ## The management unit -/

@[simp] theorem finishItem_frame (st : Status) (data : List Byte) (s : State) :
    (finishItem st data s).pending = s.pending ∧ (finishItem st data s).line = s.line ∧
    (finishItem st data s).ports = s.ports ∧ (finishItem st data s).arb = s.arb ∧
    (finishItem st data s).table = s.table ∧ (finishItem st data s).cls = s.cls ∧
    (finishItem st data s).time = s.time ∧ (finishItem st data s).roam = s.roam ∧ (finishItem st data s).mem = s.mem ∧
    (finishItem st data s).queues = s.queues ∧ (finishItem st data s).fore = s.fore ∧
    (finishItem st data s).aft = s.aft ∧ (finishItem st data s).purge = s.purge ∧
    (finishItem st data s).notice = s.notice ∧ (finishItem st data s).globals = s.globals := by
  unfold finishItem
  repeat' split
  all_goals and_intros <;> rfl

@[simp] theorem waitItem_frame (ph : ExecPhase) (s : State) :
    (waitItem ph s).pending = s.pending ∧ (waitItem ph s).line = s.line ∧ (waitItem ph s).ports = s.ports ∧
    (waitItem ph s).arb = s.arb ∧ (waitItem ph s).table = s.table ∧ (waitItem ph s).cls = s.cls ∧
    (waitItem ph s).time = s.time ∧ (waitItem ph s).roam = s.roam ∧ (waitItem ph s).mem = s.mem ∧
    (waitItem ph s).queues = s.queues ∧ (waitItem ph s).fore = s.fore ∧ (waitItem ph s).aft = s.aft ∧
    (waitItem ph s).purge = s.purge ∧ (waitItem ph s).notice = s.notice ∧ (waitItem ph s).globals = s.globals := by
  and_intros <;> rfl

/-! ## Queues -/

@[simp] theorem enqueue_frame (q : QueueId) (r : RecordIx) (s : State) :
    (enqueue q r s).pending = s.pending ∧ (enqueue q r s).line = s.line ∧ (enqueue q r s).ports = s.ports ∧
    (enqueue q r s).arb = s.arb ∧ (enqueue q r s).table = s.table ∧ (enqueue q r s).cls = s.cls ∧
    (enqueue q r s).time = s.time ∧ (enqueue q r s).roam = s.roam ∧ (enqueue q r s).fore = s.fore ∧
    (enqueue q r s).aft = s.aft ∧ (enqueue q r s).purge = s.purge ∧ (enqueue q r s).mgmt = s.mgmt ∧
    (enqueue q r s).notice = s.notice ∧ (enqueue q r s).globals = s.globals := by
  and_intros <;> rfl

@[simp] theorem queueEmptied_frame (q : QueueId) (s : State) :
    (queueEmptied q s).pending = s.pending ∧ (queueEmptied q s).line = s.line ∧ (queueEmptied q s).arb = s.arb ∧
    (queueEmptied q s).table = s.table ∧ (queueEmptied q s).cls = s.cls ∧ (queueEmptied q s).time = s.time ∧
    (queueEmptied q s).roam = s.roam ∧ (queueEmptied q s).mem = s.mem ∧ (queueEmptied q s).queues = s.queues ∧
    (queueEmptied q s).purge = s.purge ∧ (queueEmptied q s).mgmt = s.mgmt ∧ (queueEmptied q s).notice = s.notice ∧
    (queueEmptied q s).globals = s.globals := by
  unfold queueEmptied
  repeat' split
  all_goals and_intros <;> first | rfl | simp

@[simp] theorem unlist_frame (q : QueueId) (r : RecordIx) (s : State) :
    (unlist q r s).pending = s.pending ∧ (unlist q r s).line = s.line ∧ (unlist q r s).arb = s.arb ∧
    (unlist q r s).table = s.table ∧ (unlist q r s).cls = s.cls ∧ (unlist q r s).time = s.time ∧
    (unlist q r s).roam = s.roam ∧ (unlist q r s).mem = s.mem ∧ (unlist q r s).purge = s.purge ∧
    (unlist q r s).mgmt = s.mgmt ∧ (unlist q r s).notice = s.notice ∧ (unlist q r s).globals = s.globals := by
  unfold unlist
  simp only
  split <;> and_intros <;> simp

@[simp] theorem freeReleased_frame (i : StationIx) (s : State) :
    (freeReleased i s).pending = s.pending ∧ (freeReleased i s).line = s.line ∧ (freeReleased i s).arb = s.arb ∧
    (freeReleased i s).cls = s.cls ∧ (freeReleased i s).time = s.time ∧ (freeReleased i s).roam = s.roam ∧
    (freeReleased i s).mem = s.mem ∧ (freeReleased i s).queues = s.queues ∧ (freeReleased i s).fore = s.fore ∧
    (freeReleased i s).aft = s.aft ∧ (freeReleased i s).purge = s.purge ∧ (freeReleased i s).notice = s.notice ∧
    (freeReleased i s).globals = s.globals := by
  unfold freeReleased
  repeat' split
  all_goals and_intros <;> first | rfl | simp

@[simp] theorem departStation_frame (d : Option StationIx) (s : State) :
    (departStation d s).pending = s.pending ∧ (departStation d s).line = s.line ∧ (departStation d s).arb = s.arb ∧
    (departStation d s).cls = s.cls ∧ (departStation d s).time = s.time ∧ (departStation d s).roam = s.roam ∧
    (departStation d s).mem = s.mem ∧ (departStation d s).queues = s.queues ∧ (departStation d s).fore = s.fore ∧
    (departStation d s).aft = s.aft ∧ (departStation d s).purge = s.purge ∧ (departStation d s).notice = s.notice ∧
    (departStation d s).globals = s.globals := by
  unfold departStation
  repeat' split
  all_goals and_intros <;> first | rfl | simp

@[simp] theorem leaveQueue_frame (q : QueueId) (r : RecordIx) (s : State) :
    (leaveQueue q r s).pending = s.pending ∧ (leaveQueue q r s).line = s.line ∧ (leaveQueue q r s).arb = s.arb ∧
    (leaveQueue q r s).cls = s.cls ∧ (leaveQueue q r s).time = s.time ∧ (leaveQueue q r s).roam = s.roam ∧
    (leaveQueue q r s).purge = s.purge ∧ (leaveQueue q r s).notice = s.notice ∧ (leaveQueue q r s).globals = s.globals := by
  unfold leaveQueue
  simp only
  split <;> and_intros <;> simp

@[simp] theorem emptySlot_frame (b : Side) (s : State) :
    (emptySlot b s).pending = s.pending ∧ (emptySlot b s).line = s.line ∧ (emptySlot b s).ports = s.ports ∧
    (emptySlot b s).arb = s.arb ∧ (emptySlot b s).table = s.table ∧ (emptySlot b s).cls = s.cls ∧
    (emptySlot b s).time = s.time ∧ (emptySlot b s).roam = s.roam ∧ (emptySlot b s).mem = s.mem ∧
    (emptySlot b s).queues = s.queues ∧ (emptySlot b s).purge = s.purge ∧ (emptySlot b s).notice = s.notice ∧
    (emptySlot b s).globals = s.globals := by
  unfold emptySlot
  simp only
  split <;> and_intros <;> simp

@[simp] theorem endTransmission_frame (p : Port) (s : State) :
    (endTransmission p s).pending = s.pending ∧ (endTransmission p s).line = s.line ∧
    (endTransmission p s).arb = s.arb ∧ (endTransmission p s).cls = s.cls ∧ (endTransmission p s).time = s.time ∧
    (endTransmission p s).roam = s.roam ∧ (endTransmission p s).purge = s.purge ∧
    (endTransmission p s).notice = s.notice ∧ (endTransmission p s).globals = s.globals := by
  unfold endTransmission
  simp only
  repeat' split
  all_goals and_intros <;> simp

@[simp] theorem abortTransmission_frame (p : Port) (s : State) :
    (abortTransmission p s).pending = s.pending ∧ (abortTransmission p s).line = s.line ∧
    (abortTransmission p s).arb = s.arb ∧ (abortTransmission p s).cls = s.cls ∧ (abortTransmission p s).time = s.time ∧
    (abortTransmission p s).roam = s.roam ∧ (abortTransmission p s).purge = s.purge ∧
    (abortTransmission p s).notice = s.notice ∧ (abortTransmission p s).globals = s.globals := by
  unfold abortTransmission
  repeat' split
  all_goals and_intros <;> first | rfl | simp

/-- The records of a list leave a queue one after another. -/
def leaveAll (q : QueueId) (l : List RecordIx) (s : State) : State := l.foldl (fun t r => leaveQueue q r t) s

theorem leaveAll_cons (q : QueueId) (r : RecordIx) (l : List RecordIx) (s : State) :
    leaveAll q (r :: l) s = leaveAll q l (leaveQueue q r s) := rfl

theorem sweepQueue_eq (picks : FrameRecord → Bool) (q : QueueId) (s : State) :
    sweepQueue picks q s
      = leaveAll q ((s.queue q).records.filter (fun r => picks (s.record r) && !inTransmission q r s)) s := rfl

@[simp] theorem leaveAll_frame (q : QueueId) (l : List RecordIx) (s : State) :
    (leaveAll q l s).pending = s.pending ∧ (leaveAll q l s).line = s.line ∧ (leaveAll q l s).arb = s.arb ∧
    (leaveAll q l s).cls = s.cls ∧ (leaveAll q l s).time = s.time ∧ (leaveAll q l s).roam = s.roam ∧
    (leaveAll q l s).purge = s.purge ∧ (leaveAll q l s).notice = s.notice ∧ (leaveAll q l s).globals = s.globals := by
  induction l generalizing s with
  | nil => and_intros <;> rfl
  | cons r l ih => simp [leaveAll_cons, ih]

@[simp] theorem sweepQueue_frame (picks : FrameRecord → Bool) (q : QueueId) (s : State) :
    (sweepQueue picks q s).pending = s.pending ∧ (sweepQueue picks q s).line = s.line ∧
    (sweepQueue picks q s).arb = s.arb ∧ (sweepQueue picks q s).cls = s.cls ∧ (sweepQueue picks q s).time = s.time ∧
    (sweepQueue picks q s).roam = s.roam ∧ (sweepQueue picks q s).purge = s.purge ∧
    (sweepQueue picks q s).notice = s.notice ∧ (sweepQueue picks q s).globals = s.globals := by
  rw [sweepQueue_eq]
  exact leaveAll_frame _ _ _

@[simp] theorem startFlush_frame (p : Port) (s : State) :
    (startFlush p s).pending = s.pending ∧ (startFlush p s).line = s.line ∧ (startFlush p s).arb = s.arb ∧
    (startFlush p s).table = s.table ∧ (startFlush p s).cls = s.cls ∧ (startFlush p s).time = s.time ∧
    (startFlush p s).roam = s.roam ∧ (startFlush p s).mem = s.mem ∧ (startFlush p s).queues = s.queues ∧
    (startFlush p s).fore = s.fore ∧ (startFlush p s).aft = s.aft ∧ (startFlush p s).purge = s.purge ∧
    (startFlush p s).mgmt = s.mgmt ∧ (startFlush p s).notice = s.notice ∧ (startFlush p s).globals = s.globals := by
  and_intros <;> rfl

/-- Records released one after another. -/
theorem releaseAll_frame (l : List RecordIx) (s : State) :
    ∃ m, l.foldl (fun t r => releaseRecord r t) s = { s with mem := m } := by
  induction l generalizing s with
  | nil => exact ⟨s.mem, rfl⟩
  | cons r l ih => obtain ⟨m, h⟩ := ih (releaseRecord r s); exact ⟨m, h⟩

@[simp] theorem flushIntake_frame (p : Port) (s : State) :
    (flushIntake p s).pending = s.pending ∧ (flushIntake p s).line = s.line ∧ (flushIntake p s).arb = s.arb ∧
    (flushIntake p s).table = s.table ∧ (flushIntake p s).cls = s.cls ∧ (flushIntake p s).time = s.time ∧
    (flushIntake p s).roam = s.roam ∧ (flushIntake p s).queues = s.queues ∧ (flushIntake p s).fore = s.fore ∧
    (flushIntake p s).aft = s.aft ∧ (flushIntake p s).purge = s.purge ∧ (flushIntake p s).mgmt = s.mgmt ∧
    (flushIntake p s).notice = s.notice ∧ (flushIntake p s).globals = s.globals := by
  unfold flushIntake
  obtain ⟨m, h⟩ := releaseAll_frame (s.port p).intake s
  rw [h]
  and_intros <;> rfl

@[simp] theorem flushLateIntake_frame (p : Port) (s : State) :
    (flushLateIntake p s).pending = s.pending ∧ (flushLateIntake p s).line = s.line ∧ (flushLateIntake p s).arb = s.arb ∧
    (flushLateIntake p s).table = s.table ∧ (flushLateIntake p s).cls = s.cls ∧ (flushLateIntake p s).time = s.time ∧
    (flushLateIntake p s).roam = s.roam ∧ (flushLateIntake p s).queues = s.queues ∧ (flushLateIntake p s).fore = s.fore ∧
    (flushLateIntake p s).aft = s.aft ∧ (flushLateIntake p s).purge = s.purge ∧ (flushLateIntake p s).mgmt = s.mgmt ∧
    (flushLateIntake p s).notice = s.notice ∧ (flushLateIntake p s).globals = s.globals := by
  unfold flushLateIntake
  split
  · exact flushIntake_frame p s
  · and_intros <;> rfl

@[simp] theorem rehomeMove_frame (q q' : QueueId) (r : RecordIx) (s : State) :
    (rehomeMove q q' r s).pending = s.pending ∧ (rehomeMove q q' r s).line = s.line ∧
    (rehomeMove q q' r s).arb = s.arb ∧ (rehomeMove q q' r s).table = s.table ∧ (rehomeMove q q' r s).cls = s.cls ∧
    (rehomeMove q q' r s).time = s.time ∧ (rehomeMove q q' r s).roam = s.roam ∧ (rehomeMove q q' r s).purge = s.purge ∧
    (rehomeMove q q' r s).mgmt = s.mgmt ∧ (rehomeMove q q' r s).notice = s.notice := by
  unfold rehomeMove
  and_intros <;> simp

/-! ## Reception and port states -/

@[simp] theorem setRx_frame (p : Port) (x : RxState) (s : State) :
    (setRx p x s).pending = s.pending ∧ (setRx p x s).line = s.line ∧ (setRx p x s).arb = s.arb ∧
    (setRx p x s).table = s.table ∧ (setRx p x s).cls = s.cls ∧ (setRx p x s).time = s.time ∧
    (setRx p x s).roam = s.roam ∧ (setRx p x s).mem = s.mem ∧ (setRx p x s).queues = s.queues ∧
    (setRx p x s).fore = s.fore ∧ (setRx p x s).aft = s.aft ∧ (setRx p x s).purge = s.purge ∧
    (setRx p x s).mgmt = s.mgmt ∧ (setRx p x s).notice = s.notice ∧ (setRx p x s).globals = s.globals := by
  and_intros <;> rfl

@[simp] theorem abandon_frame (p : Port) (x : RxState) (s : State) :
    (abandon p x s).pending = s.pending ∧ (abandon p x s).line = s.line ∧ (abandon p x s).arb = s.arb ∧
    (abandon p x s).table = s.table ∧ (abandon p x s).cls = s.cls ∧ (abandon p x s).time = s.time ∧
    (abandon p x s).roam = s.roam ∧ (abandon p x s).queues = s.queues ∧ (abandon p x s).fore = s.fore ∧
    (abandon p x s).aft = s.aft ∧ (abandon p x s).purge = s.purge ∧ (abandon p x s).mgmt = s.mgmt ∧
    (abandon p x s).notice = s.notice ∧ (abandon p x s).globals = s.globals := by
  unfold abandon
  repeat' split
  all_goals and_intros <;> rfl

@[simp] theorem abandonReception_frame (p : Port) (s : State) :
    (abandonReception p s).pending = s.pending ∧ (abandonReception p s).line = s.line ∧
    (abandonReception p s).arb = s.arb ∧ (abandonReception p s).table = s.table ∧ (abandonReception p s).cls = s.cls ∧
    (abandonReception p s).time = s.time ∧ (abandonReception p s).roam = s.roam ∧
    (abandonReception p s).queues = s.queues ∧ (abandonReception p s).fore = s.fore ∧
    (abandonReception p s).aft = s.aft ∧ (abandonReception p s).purge = s.purge ∧
    (abandonReception p s).mgmt = s.mgmt ∧ (abandonReception p s).notice = s.notice ∧
    (abandonReception p s).globals = s.globals := by
  unfold abandonReception
  and_intros <;> simp

@[simp] theorem requestCell_frame (p : Port) (r : RecordIx) (count : Nat) (s : State) :
    (requestCell p r count s).pending = s.pending ∧ (requestCell p r count s).line = s.line ∧
    (requestCell p r count s).arb = s.arb ∧ (requestCell p r count s).table = s.table ∧
    (requestCell p r count s).cls = s.cls ∧ (requestCell p r count s).time = s.time ∧
    (requestCell p r count s).roam = s.roam ∧ (requestCell p r count s).queues = s.queues ∧
    (requestCell p r count s).fore = s.fore ∧ (requestCell p r count s).aft = s.aft ∧
    (requestCell p r count s).purge = s.purge ∧ (requestCell p r count s).mgmt = s.mgmt ∧
    (requestCell p r count s).globals = s.globals := by
  unfold requestCell
  repeat' split
  all_goals and_intros <;> first | rfl | simp

@[simp] theorem outgrow_frame (p : Port) (s : State) :
    (outgrow p s).pending = s.pending ∧ (outgrow p s).line = s.line ∧ (outgrow p s).arb = s.arb ∧
    (outgrow p s).table = s.table ∧ (outgrow p s).cls = s.cls ∧ (outgrow p s).time = s.time ∧
    (outgrow p s).roam = s.roam ∧ (outgrow p s).queues = s.queues ∧ (outgrow p s).fore = s.fore ∧
    (outgrow p s).aft = s.aft ∧ (outgrow p s).purge = s.purge ∧ (outgrow p s).mgmt = s.mgmt ∧
    (outgrow p s).globals = s.globals := by
  unfold outgrow
  repeat' split
  all_goals and_intros <;> first | rfl | simp

@[simp] theorem tooLong_frame (p : Port) (s : State) :
    (tooLong p s).pending = s.pending ∧ (tooLong p s).line = s.line ∧ (tooLong p s).arb = s.arb ∧
    (tooLong p s).table = s.table ∧ (tooLong p s).cls = s.cls ∧ (tooLong p s).time = s.time ∧
    (tooLong p s).roam = s.roam ∧ (tooLong p s).queues = s.queues ∧ (tooLong p s).fore = s.fore ∧
    (tooLong p s).aft = s.aft ∧ (tooLong p s).purge = s.purge ∧ (tooLong p s).mgmt = s.mgmt ∧
    (tooLong p s).notice = s.notice ∧ (tooLong p s).globals = s.globals := by
  unfold tooLong
  and_intros <;> simp

@[simp] theorem growTo_frame (p : Port) (n k : Nat) (s : State) :
    (growTo p n k s).pending = s.pending ∧ (growTo p n k s).line = s.line ∧ (growTo p n k s).arb = s.arb ∧
    (growTo p n k s).table = s.table ∧ (growTo p n k s).cls = s.cls ∧ (growTo p n k s).time = s.time ∧
    (growTo p n k s).roam = s.roam ∧ (growTo p n k s).queues = s.queues ∧ (growTo p n k s).fore = s.fore ∧
    (growTo p n k s).aft = s.aft ∧ (growTo p n k s).purge = s.purge ∧ (growTo p n k s).mgmt = s.mgmt ∧
    (growTo p n k s).globals = s.globals := by
  induction k generalizing s with
  | zero => and_intros <;> rfl
  | succ k ih =>
    unfold growTo
    repeat' split
    all_goals simp [ih]

@[simp] theorem arriveTo_frame (p : Port) (n : Nat) (s : State) :
    (arriveTo p n s).pending = s.pending ∧ (arriveTo p n s).line = s.line ∧ (arriveTo p n s).arb = s.arb ∧
    (arriveTo p n s).table = s.table ∧ (arriveTo p n s).cls = s.cls ∧ (arriveTo p n s).time = s.time ∧
    (arriveTo p n s).roam = s.roam ∧ (arriveTo p n s).queues = s.queues ∧ (arriveTo p n s).fore = s.fore ∧
    (arriveTo p n s).aft = s.aft ∧ (arriveTo p n s).purge = s.purge ∧ (arriveTo p n s).mgmt = s.mgmt ∧
    (arriveTo p n s).globals = s.globals := by
  unfold arriveTo
  simp only
  split <;> and_intros <;> simp

@[simp] theorem changePort_frame (p : Port) (st : PortState) (s : State) :
    (changePort p st s).pending = s.pending ∧ (changePort p st s).line = s.line ∧ (changePort p st s).arb = s.arb ∧
    (changePort p st s).cls = s.cls ∧ (changePort p st s).time = s.time ∧ (changePort p st s).roam = s.roam ∧
    (changePort p st s).queues = s.queues ∧ (changePort p st s).fore = s.fore ∧ (changePort p st s).aft = s.aft ∧
    (changePort p st s).purge = s.purge ∧ (changePort p st s).mgmt = s.mgmt ∧ (changePort p st s).notice = s.notice ∧
    (changePort p st s).globals = s.globals := by
  unfold changePort
  simp only
  repeat' split
  all_goals and_intros <;> simp

@[simp] theorem evaluatePort_frame (p : Port) (s : State) :
    (evaluatePort p s).pending = s.pending ∧ (evaluatePort p s).line = s.line ∧ (evaluatePort p s).arb = s.arb ∧
    (evaluatePort p s).cls = s.cls ∧ (evaluatePort p s).time = s.time ∧ (evaluatePort p s).roam = s.roam ∧
    (evaluatePort p s).queues = s.queues ∧ (evaluatePort p s).fore = s.fore ∧ (evaluatePort p s).aft = s.aft ∧
    (evaluatePort p s).purge = s.purge ∧ (evaluatePort p s).mgmt = s.mgmt ∧ (evaluatePort p s).notice = s.notice ∧
    (evaluatePort p s).globals = s.globals := by
  unfold evaluatePort
  and_intros <;> simp

@[simp] theorem setLine_frame (p : Port) (up : Bool) (s : State) :
    (setLine p up s).pending = s.pending ∧ (setLine p up s).ports = s.ports ∧ (setLine p up s).arb = s.arb ∧
    (setLine p up s).table = s.table ∧ (setLine p up s).cls = s.cls ∧ (setLine p up s).time = s.time ∧
    (setLine p up s).roam = s.roam ∧ (setLine p up s).mem = s.mem ∧ (setLine p up s).queues = s.queues ∧
    (setLine p up s).fore = s.fore ∧ (setLine p up s).aft = s.aft ∧ (setLine p up s).purge = s.purge ∧
    (setLine p up s).mgmt = s.mgmt ∧ (setLine p up s).notice = s.notice ∧ (setLine p up s).globals = s.globals := by
  and_intros <;> rfl

@[simp] theorem setLink_frame (p : Port) (up : Bool) (s : State) :
    (setLink p up s).pending = s.pending ∧ (setLink p up s).line = s.line ∧ (setLink p up s).arb = s.arb ∧
    (setLink p up s).table = s.table ∧ (setLink p up s).cls = s.cls ∧ (setLink p up s).time = s.time ∧
    (setLink p up s).roam = s.roam ∧ (setLink p up s).mem = s.mem ∧ (setLink p up s).queues = s.queues ∧
    (setLink p up s).fore = s.fore ∧ (setLink p up s).aft = s.aft ∧ (setLink p up s).purge = s.purge ∧
    (setLink p up s).mgmt = s.mgmt ∧ (setLink p up s).notice = s.notice ∧ (setLink p up s).globals = s.globals := by
  and_intros <;> rfl

@[simp] theorem linkUp_frame (p : Port) (s : State) :
    (linkUp p s).pending = s.pending ∧ (linkUp p s).line = s.line ∧ (linkUp p s).arb = s.arb ∧
    (linkUp p s).cls = s.cls ∧ (linkUp p s).time = s.time ∧ (linkUp p s).roam = s.roam ∧
    (linkUp p s).queues = s.queues ∧ (linkUp p s).fore = s.fore ∧ (linkUp p s).aft = s.aft ∧
    (linkUp p s).purge = s.purge ∧ (linkUp p s).mgmt = s.mgmt ∧ (linkUp p s).globals = s.globals := by
  unfold linkUp
  simp only
  split <;> and_intros <;> simp

@[simp] theorem carriageLinkLoss_frame (p : Port) (s : State) :
    (carriageLinkLoss p s).pending = s.pending ∧ (carriageLinkLoss p s).line = s.line ∧
    (carriageLinkLoss p s).arb = s.arb ∧ (carriageLinkLoss p s).cls = s.cls ∧ (carriageLinkLoss p s).time = s.time ∧
    (carriageLinkLoss p s).roam = s.roam ∧ (carriageLinkLoss p s).purge = s.purge ∧
    (carriageLinkLoss p s).globals = s.globals := by
  unfold carriageLinkLoss
  simp only
  split <;> and_intros <;> simp

@[simp] theorem backboneLinkLoss_frame (b : Side) (s : State) :
    (backboneLinkLoss b s).pending = s.pending ∧ (backboneLinkLoss b s).line = s.line ∧
    (backboneLinkLoss b s).arb = s.arb ∧ (backboneLinkLoss b s).cls = s.cls ∧ (backboneLinkLoss b s).time = s.time ∧
    (backboneLinkLoss b s).roam = s.roam ∧ (backboneLinkLoss b s).purge = s.purge ∧
    (backboneLinkLoss b s).globals = s.globals := by
  unfold backboneLinkLoss
  and_intros <;> simp

@[simp] theorem clearLinks_frame  (s : State) :
    (clearLinks s).pending = s.pending ∧ (clearLinks s).line = s.line ∧ (clearLinks s).arb = s.arb ∧
    (clearLinks s).table = s.table ∧ (clearLinks s).cls = s.cls ∧ (clearLinks s).time = s.time ∧
    (clearLinks s).roam = s.roam ∧ (clearLinks s).mem = s.mem ∧ (clearLinks s).queues = s.queues ∧
    (clearLinks s).fore = s.fore ∧ (clearLinks s).aft = s.aft ∧ (clearLinks s).purge = s.purge ∧
    (clearLinks s).mgmt = s.mgmt ∧ (clearLinks s).notice = s.notice ∧ (clearLinks s).globals = s.globals := by
  and_intros <;> rfl

@[simp] theorem checkStraps_frame  (s : State) :
    (checkStraps s).pending = s.pending ∧ (checkStraps s).line = s.line ∧ (checkStraps s).ports = s.ports ∧
    (checkStraps s).arb = s.arb ∧ (checkStraps s).table = s.table ∧ (checkStraps s).cls = s.cls ∧
    (checkStraps s).time = s.time ∧ (checkStraps s).roam = s.roam ∧ (checkStraps s).mem = s.mem ∧
    (checkStraps s).queues = s.queues ∧ (checkStraps s).fore = s.fore ∧ (checkStraps s).aft = s.aft ∧
    (checkStraps s).purge = s.purge ∧ (checkStraps s).mgmt = s.mgmt ∧ (checkStraps s).globals = s.globals := by
  unfold checkStraps
  repeat' split
  all_goals and_intros <;> rfl

/-- Link-up events one after another, where `up` says. -/
theorem linkUps_frame (up : Port → Bool) (l : List Port) (s : State) :
    ∃ ports table mem notice,
      l.foldl (fun t p => if up p then linkUp p t else t) s
        = { s with ports := ports, table := table, mem := mem, notice := notice } := by
  induction l generalizing s with
  | nil => exact ⟨s.ports, s.table, s.mem, s.notice, rfl⟩
  | cons p l ih =>
    obtain ⟨a, b, c, d, h⟩ := ih (if up p then linkUp p s else s)
    refine ⟨a, b, c, d, ?_⟩
    rw [List.foldl_cons, h]
    split <;> simp

@[simp] theorem linkUpLines_frame  (s : State) :
    (linkUpLines s).pending = s.pending ∧ (linkUpLines s).line = s.line ∧ (linkUpLines s).arb = s.arb ∧
    (linkUpLines s).cls = s.cls ∧ (linkUpLines s).time = s.time ∧ (linkUpLines s).roam = s.roam ∧
    (linkUpLines s).queues = s.queues ∧ (linkUpLines s).fore = s.fore ∧ (linkUpLines s).aft = s.aft ∧
    (linkUpLines s).purge = s.purge ∧ (linkUpLines s).mgmt = s.mgmt ∧ (linkUpLines s).globals = s.globals := by
  unfold linkUpLines
  obtain ⟨a, b, c, d, h⟩ := linkUps_frame s.line.lines.get (List.finRange 58) s
  rw [h]
  and_intros <;> rfl

end Sys2Proof.Machine
end

