-- ==== Sys2Proof/Laws/Ops.lean ====
section
/-! SUPPORT. What each shared operation can do, said once: the next state with every field it changes. -/

namespace Sys2Proof

variable {α : Type} {n : Nat}

theorem Tab.modify_eq_set (t : Tab α n) (i : Fin n) (f : α → α) : t.modify i f = t.set i (f (t.get i)) := rfl

@[simp] theorem Tab.set_set (t : Tab α n) (i : Fin n) (x y : α) : (t.set i x).set i y = t.set i y := by
  apply Tab.ext_get; intro j; simp only [Tab.get_set]; split <;> rfl

@[simp] theorem Tab.modify_modify (t : Tab α n) (i : Fin n) (f g : α → α) :
    (t.modify i f).modify i g = t.modify i (fun x => g (f x)) := by
  simp [Tab.modify]

@[simp] theorem Tab.modify_set (t : Tab α n) (i : Fin n) (x : α) (g : α → α) : (t.set i x).modify i g = t.set i (g x) := by
  simp [Tab.modify]

theorem Tab.set_comm (t : Tab α n) {i j : Fin n} (x y : α) (h : i ≠ j) : (t.set i x).set j y = (t.set j y).set i x := by
  apply Tab.ext_get; intro k; simp only [Tab.get_set]
  split
  · next e => subst e; simp [h]
  · rfl

theorem Tab.modify_comm (t : Tab α n) {i j : Fin n} (f g : α → α) (h : i ≠ j) :
    (t.modify i f).modify j g = (t.modify j g).modify i f := by
  simp [Tab.modify, Tab.get_set_ne, h, h.symm, Tab.set_comm _ _ _ h]

@[simp] theorem Tab.modify_id (t : Tab α n) (i : Fin n) : t.modify i (fun x => x) = t := by
  simp [Tab.modify]

end Sys2Proof

namespace Sys2Proof.Machine

open Sys2Proof

/-! ## Frames and cells -/

/-- The address fields of a frame are its first twelve bytes, tagged or not (01 R9). -/
theorem readHeader_src (bytes : List Byte) : (readHeader bytes).src = addrOf ((bytes.drop 6).take 6) := by
  unfold readHeader; simp only; split <;> rfl

theorem readHeader_dst (bytes : List Byte) : (readHeader bytes).dst = addrOf (bytes.take 6) := by
  unfold readHeader; simp only; split <;> rfl

/-- The record a frame takes is FREE, and every lower one is not (log 9). -/
theorem freeRecord_some {m : FrameMemory} {r : RecordIx} (h : freeRecord m = some r) :
    (m.records.get r).stage = .free ∧ ∀ r' < r, (m.records.get r').stage ≠ .free := by
  unfold freeRecord at h
  rw [List.find?_eq_some_iff_getElem] at h
  obtain ⟨h1, k, hk, he, hlt⟩ := h
  refine ⟨by simpa using h1, fun r' hr' => ?_⟩
  have hk' : k = r.val := by have := congrArg Fin.val he; simpa using this
  have := hlt r'.val (by rw [hk']; exact hr')
  simpa using this

theorem freeRecord_none {m : FrameMemory} : freeRecord m = none ↔ ∀ r, (m.records.get r).stage ≠ .free := by
  simp [freeRecord]

theorem cellAddresses_length (cs : List CellIx) : (cellAddresses cs).length = cs.length * 128 := by
  induction cs with
  | nil => rfl
  | cons c cs ih => simp [cellAddresses] at ih ⊢; simp [Config.cellBytes]; omega

/-- Different cells have different bytes. -/
theorem cellAddresses_nodup (cs : List CellIx) (h : cs.Nodup) : (cellAddresses cs).Nodup := by
  unfold cellAddresses
  rw [List.nodup_flatMap]
  refine ⟨fun c _ => List.Nodup.map (fun a b hab => by simp at hab; omega) List.nodup_range, h.imp ?_⟩
  intro a b hab x hx hy
  simp [Config.cellBytes] at hx hy
  obtain ⟨k, hk, rfl⟩ := hx
  obtain ⟨l, hl, he⟩ := hy
  exact hab (Fin.ext (by omega))

/-! ## Reports -/

theorem postLearned_eq (i : StationIx) (p : Port) (s : State) :
    postLearned i p s = { s with
      table := { s.table with
        entries := s.table.entries.modify i (fun e =>
          { e with learnedPending := if s.table.reports.length < 48 then none else some p })
        reports := s.table.reports ++ (if s.table.reports.length < 48 then [.learned i (s.entry i).addr p] else []) }
      notice := { s.notice with
        flags := s.notice.flags.modify (sourceIx (if s.table.reports.length < 48 then .reports else .reportBacklog))
          (fun f => { f with pending := true }) } } := by
  unfold postLearned reportRoom
  by_cases h : s.table.reports.length < 48 <;> simp [h, Config.reportQueueSize, addReport, raise, State.modEntry, State.modNotice]

theorem postPinned_eq (i : StationIx) (p : Port) (s : State) :
    postPinned i p s = { s with
      table := { s.table with
        entries := s.table.entries.modify i (fun e =>
          { e with pinnedPending := if s.table.reports.length < 48 then none else some p })
        reports := s.table.reports ++ (if s.table.reports.length < 48 then [.pinned i (s.entry i).addr p] else []) }
      notice := { s.notice with
        flags := s.notice.flags.modify (sourceIx (if s.table.reports.length < 48 then .reports else .reportBacklog))
          (fun f => { f with pending := true }) } } := by
  unfold postPinned reportRoom
  by_cases h : s.table.reports.length < 48 <;> simp [h, Config.reportQueueSize, addReport, raise, State.modEntry, State.modNotice]

theorem postSpent_eq (i : StationIx) (s : State) :
    postSpent i s = { s with
      table := { s.table with
        entries := s.table.entries.modify i (fun e =>
          { e with spentPending := decide (48 ≤ s.table.reports.length) })
        reports := s.table.reports ++ (if s.table.reports.length < 48 then [.spent i (s.entry i).addr] else []) }
      notice := { s.notice with
        flags := s.notice.flags.modify (sourceIx (if s.table.reports.length < 48 then .reports else .reportBacklog))
          (fun f => { f with pending := true }) } } := by
  unfold postSpent reportRoom
  by_cases h : s.table.reports.length < 48
  · have : ¬ 48 ≤ s.table.reports.length := by omega
    simp [h, this, Config.reportQueueSize, addReport, raise, State.modEntry, State.modNotice]
  · have : 48 ≤ s.table.reports.length := by omega
    simp [h, this, Config.reportQueueSize, raise, State.modEntry, State.modNotice]

/-! ## Attachment -/

/-- The ports after a change of a seat station count. -/
theorem modSeatCount_eq (p : Port) (f : Nat → Nat) (s : State) :
    modSeatCount p f s = { s with
      ports := if 10 ≤ p.val then s.ports.modify p (fun u => { u with seatCount := f u.seatCount }) else s.ports } := by
  unfold modSeatCount isSeat
  by_cases h : 10 ≤ p.val <;> simp [h, State.modPort]

theorem detachStation_none {i : StationIx} {s : State} (h : (s.entry i).attachment = none) : detachStation i s = s := by
  simp [detachStation, h]

theorem detachStation_some {i : StationIx} {p : Port} {s : State} (h : (s.entry i).attachment = some p) :
    detachStation i s = (modSeatCount p (· - 1) s).modEntry i (fun e => { e with attachment := none }) := by
  simp [detachStation, h]

/-! ## Queues -/

/-- A record joins a queue and becomes of a class (01 R16, 06 R105). -/
theorem setClass_enqueue (q : QueueId) (r : RecordIx) (s : State) (f : FrameRecord → FrameRecord) :
    ((enqueue q r s).modRecord r f) = { s with
      queues := s.queues.modify (queueIx q) (fun x =>
        { x with records := x.records ++ [r], tally := x.tally + (s.record r).cellCount })
      mem := { s.mem with records := s.mem.records.modify r (fun x =>
        f { x with stage := .queued, holders := x.holders + 1 }) } } := by
  simp [enqueue, State.modQueue, State.modRecord]

end Sys2Proof.Machine
end

