-- ==== Sys2Proof/Laws/Chains.lean ====
section
/-! SUPPORT. The chains of cells, said once: what a chain depends on, and what giving a cell and releasing a record do to the cells
each record holds (06 R99). -/

namespace Sys2Proof.Machine

open Sys2Proof

/-- A chain depends on the next-cell numbers of its own cells only. -/
theorem chainFrom_congr {next next' : Tab (Option CellIx) 2048} (n : Nat) (o : Option CellIx)
    (h : ∀ c ∈ chainFrom next n o, next'.get c = next.get c) : chainFrom next' n o = chainFrom next n o := by
  induction n generalizing o with
  | zero => rfl
  | succ n ih =>
    cases o with
    | none => rfl
    | some c =>
      simp only [chainFrom, List.mem_cons, forall_eq_or_imp] at h ⊢
      rw [h.1, ih _ h.2]

/-- The next-cell number of a cell outside a chain does not matter to it. -/
theorem chainFrom_set {next : Tab (Option CellIx) 2048} {n : Nat} {o : Option CellIx} {c : CellIx} (x : Option CellIx)
    (h : c ∉ chainFrom next n o) : chainFrom (next.set c x) n o = chainFrom next n o :=
  chainFrom_congr n o (fun _ hd => Tab.get_set_ne _ _ (fun e => h (e ▸ hd)))

/-- A chain has at most as many cells as are asked for. -/
theorem chainFrom_length_le (next : Tab (Option CellIx) 2048) (n : Nat) (o : Option CellIx) :
    (chainFrom next n o).length ≤ n := by
  induction n generalizing o with
  | zero => simp [chainFrom]
  | succ n ih => cases o with
    | none => simp [chainFrom]
    | some c => simpa [chainFrom] using ih _

/-- A chain of distinct cells whose last one is linked to a new cell has that cell as one more. -/
theorem chainFrom_link {next : Tab (Option CellIx) 2048} {n : Nat} {o : Option CellIx} {l c : CellIx}
    (hn : (chainFrom next n o).length = n) (hd : (chainFrom next n o).Nodup) (hl : (chainFrom next n o).getLast? = some l)
    (hc : c ∉ chainFrom next n o) :
    chainFrom ((next.set c none).set l (some c)) (n + 1) o = chainFrom next n o ++ [c] := by
  induction n generalizing o with
  | zero => simp [chainFrom] at hl
  | succ n ih =>
    cases o with
    | none => simp [chainFrom] at hl
    | some d =>
      simp only [chainFrom, List.length_cons, Nat.add_right_cancel_iff, List.nodup_cons, List.mem_cons, not_or] at hn hd hl hc
      cases n with
      | zero =>
        simp [chainFrom] at hl
        subst hl
        simp [chainFrom]
      | succ n =>
        have ne : chainFrom next (n + 1) (next.get d) ≠ [] := by intro e; rw [e] at hn; simp at hn
        have last : (chainFrom next (n + 1) (next.get d)).getLast? = some l := by
          rw [List.getLast?_cons] at hl
          cases h : (chainFrom next (n + 1) (next.get d)).getLast? with
          | none => exact absurd (List.getLast?_eq_none_iff.mp h) ne
          | some x => rw [h] at hl; simpa using hl
        have hdl : l ≠ d := fun e => hd.1 (by rw [← e]; rw [← e] at last; exact List.mem_of_getLast? last)
        rw [chainFrom, Tab.get_set_ne _ _ hdl, Tab.get_set_ne _ _ hc.1, ih hn hd.2 last hc.2]
        simp [chainFrom]

/-- What a release leaves of the cells each record holds: none of the released record's, all of the others'. -/
theorem cellsOf_releaseRecord (r r' : RecordIx) (s : State) :
    cellsOf (releaseRecord r s).mem r' = if r' = r then [] else cellsOf s.mem r' := by
  split
  · subst r'; simp [cellsOf, releaseRecord, FrameRecord.fresh, chainFrom]
  · next h => simp [cellsOf, releaseRecord, Tab.get_set_ne _ _ (Ne.symm h)]

/-- What giving a cell leaves of the cells each record holds: the head of the free cell list is one more at the end of the asking
record's, and the others' are as they were, for cells that no other chain shares. -/
theorem cellsOf_giveCell {r : RecordIx} {s : State} {c : CellIx} {rest : List CellIx} (hf : s.mem.free = c :: rest)
    (hn : (cellsOf s.mem r).length = (s.record r).cellCount) (hd : (cellsOf s.mem r).Nodup)
    (hc : ∀ r', c ∉ cellsOf s.mem r') (r' : RecordIx) (ho : r' ≠ r → ∀ l ∈ cellsOf s.mem r, l ∉ cellsOf s.mem r') :
    cellsOf (giveCell r s).mem r' = if r' = r then cellsOf s.mem r ++ [c] else cellsOf s.mem r' := by
  have mem : (giveCell r s).mem = { s.mem with
      next := match (cellsOf s.mem r).getLast? with
        | none => s.mem.next.set c none
        | some l => (s.mem.next.set c none).set l (some c)
      free := rest, freeCount := s.mem.freeCount - 1
      records := s.mem.records.modify r (fun x =>
        { x with firstCell := if (cellsOf s.mem r).isEmpty then c else x.firstCell, cellCount := x.cellCount + 1 }) } := by
    simp only [giveCell, hf]
    split <;> rfl
  rw [mem]
  by_cases h : r' = r
  · subst h
    rw [if_pos rfl]
    have chain : chainFrom s.mem.next (s.mem.records.get r').cellCount (some (s.mem.records.get r').firstCell)
      = cellsOf s.mem r' := rfl
    have count : (cellsOf s.mem r').length = (s.mem.records.get r').cellCount := hn
    have outside := hc r'
    generalize cellsOf s.mem r' = l at *
    simp only [cellsOf, Tab.get_modify_self]
    cases hl : l.getLast? with
    | none =>
      obtain rfl := List.getLast?_eq_none_iff.mp hl
      simp [← count, chainFrom]
    | some x =>
      have ne : l.isEmpty = false := by cases l with
        | nil => cases hl
        | cons _ _ => rfl
      subst chain
      simp only [ne, Bool.false_eq_true, if_false]
      exact chainFrom_link count hd hl outside
  · have unset := chainFrom_set none (hc r')
    rw [if_neg h]
    simp only [cellsOf, Tab.get_modify_ne _ _ (Ne.symm h)]
    cases hl : (cellsOf s.mem r).getLast? with
    | none => simpa [show (chainFrom s.mem.next _ _).getLast? = none from hl] using unset
    | some l =>
      have apart : l ∉ cellsOf s.mem r' := ho h l (List.mem_of_getLast? hl)
      simp only [show (chainFrom s.mem.next _ _).getLast? = some l from hl]
      exact (chainFrom_set (some c) (by rw [unset]; exact apart)).trans unset

end Sys2Proof.Machine
end

