-- ==== Sys2Proof/Laws/Decision.lean ====
section
/-! SUPPORT. What the decision engine's parts answer, said once: the choice of the decision by kind of port, lookup, and the up leg. -/

namespace Sys2Proof.Machine

open Sys2Proof

set_option linter.unusedSimpArgs false

/-- No carriage port is of the backbone class. -/
theorem portClass_carriage : ∀ p, isCarriage p = true → ∀ b, portClass p ≠ .backbone b := by
  intro p h b
  unfold portClass
  simp [isCarriage] at h
  have h0 : p.val ≠ 0 := by omega
  have h1 : p.val ≠ 1 := by omega
  simp only [h0, h1, if_false]
  split <;> simp
/-- A side's port is of the backbone class. -/
theorem portClass_side (b : Side) : portClass (sidePort b) = .backbone b := by cases b <;> rfl

/-- In SERVICE the frame of a UP or HELD carriage port is decided by the carriage rules (01 R10, R11). -/
theorem decideFrame_carriage {p : Port} (h : isCarriage p = true) (r s) (hs : s.line.part = .service)
    (hu : isUpOrHeld (s.port p).state = true) :
   decideFrame p r s = settleVerdict r (decideCarriage p r s) := by
  have := portClass_carriage p h
  unfold decideFrame
  split
  · rename_i b h1 h2; exact absurd h1 (this b)
  · rename_i b h1 h2; exact absurd h1 (this b)
  · rename_i b h1 h2; exact absurd h1 (this b)
  · simp [hu]
  · simp_all

/-- A lookup reads the states and addresses of the entries and nothing else (02 R25). -/
theorem lookup_congr (t u : StationTable) (a)
    (h : ∀ i, (t.entries.get i).state = (u.entries.get i).state ∧ (t.entries.get i).addr = (u.entries.get i).addr) :
    lookup t a = lookup u a := by
  unfold lookup; congr 1; funext j; rw [(h j).1, (h j).2]

/-- The entry set is the one read. -/
theorem entry_set (s : State) (i : StationIx) (e) :
    State.entry { s with table := { s.table with entries := s.table.entries.set i e } } i = e := by
  simp [State.entry]

/-- The up leg of an upstream frame and its admission: everything it can answer (01 R14, R16). -/
theorem upstream_eq (i zone r) (t : State) (b : Side) (hgw : t.line.gateway = some b) :
    let g := (t.profile (t.entry i).profile).grants.get zone
    let n := (t.record r).length
    let q := QueueId.cls b g.cls
    let x := if g.policed then refilled (t.profile (t.entry i).profile).rates t.time.tick (t.entry i) else t.entry i
    let src := fun e : StationEntry => { t with table := { t.table with entries := t.table.entries.set i e } }
    (g.upPermit = false → upstream i zone r t = .error (src
       { t.entry i with counters := (t.entry i).counters.modify (stationCounterIx .refused) satIncrement })) ∧
    (g.upPermit = true → g.policed = true → x.upCredit < 1 → upstream i zone r t = .error (src
       { x with counters := x.counters.modify (stationCounterIx .upPoliced) satIncrement })) ∧
    (g.upPermit = true → (g.policed = true → 1 ≤ x.upCredit) →
       ((g.counted = true ∧ (t.entry i).metered = true ∧ (t.entry i).spent = true) → upstream i zone r t
         = .error (src { x with counters := x.counters.modify (stationCounterIx .spentDrops) satIncrement })) ∧
       (¬ (g.counted = true ∧ (t.entry i).metered = true ∧ (t.entry i).spent = true) →
          (queueAdmits q (t.record r).cellCount t = false → upstream i zone r t = .error (raise .queueDrop (countDrop q (src x)))) ∧
          (queueAdmits q (t.record r).cellCount t = true → upstream i zone r t
            = .ok (countStation i .upFrames (chargeAllowance g i n (setClass r (.grant g.cls) none
             (enqueue q r (src (if g.policed then {x with upCredit := x.upCredit - (n:Int)} else x))))))))) := by
  intro g n q x src
  have hG : grantOf i zone t = g := rfl
  have hx : testPolicing .up g i t = if g.policed = true ∧ x.upCredit < 1
      then .error (src { x with counters := x.counters.modify (stationCounterIx .upPoliced) satIncrement })
      else .ok (src x) := by
    unfold testPolicing
    by_cases hp : g.policed = true
    · simp [hp, refill, State.modEntry, countStation, x, credit, src, State.entry]
      simp [Tab.modify]
      by_cases hc : 1 ≤ (refilled (t.profile (t.table.entries.get i).profile).rates t.time.tick (t.table.entries.get i)).upCredit
      · simp [hc, Int.not_lt.2 hc]
      · simp [hc, Int.not_le.1 hc]
    · have h2 : src x = t := by simp [src, x, hp, State.entry]
      rw [h2]; simp [hp]
  have ha : ∀ e, (e.metered = (t.entry i).metered) → e.spent = (t.entry i).spent → testAllowance g i (src e)
      = if g.counted = true ∧ (t.entry i).metered = true ∧ (t.entry i).spent = true
        then .error (src { e with counters := e.counters.modify (stationCounterIx .spentDrops) satIncrement })
        else .ok (src e) := by
    intro e h1 h2
    unfold testAllowance
    have : (src e).entry i = e := by simp [src, State.entry]
    rw [this, h1, h2]
    simp [countStation, State.modEntry, src, and_assoc, ← h1, ← h2]
  have hm : x.metered = (t.entry i).metered ∧ x.spent = (t.entry i).spent := by
    simp only [x]; split <;> simp [refilled]
  refine ⟨fun hp => ?_, fun hp hpol hcr => ?_, fun hp hcr => ⟨fun hsp => ?_, fun hsp => ⟨fun hq => ?_, fun hq => ?_⟩⟩⟩
  · simp [upstream, hG, testPermit, permits, hp, Bind.bind, Except.bind, countStation, State.modEntry, src, State.entry, Tab.modify]
  · simp [upstream, hG, testPermit, permits, hp, Bind.bind, Except.bind, hx, hpol, hcr]
  · have : ¬ (g.policed = true ∧ x.upCredit < 1) := by rintro ⟨h1, h2⟩; have := hcr h1; omega
    simp only [upstream, hG, testPermit, permits, hp, Bind.bind, Except.bind, hx, if_neg this, if_true, ha x hm.1 hm.2, if_pos hsp]
  · have : ¬ (g.policed = true ∧ x.upCredit < 1) := by rintro ⟨h1, h2⟩; have := hcr h1; omega
    simp only [upstream, hG, testPermit, permits, hp, Bind.bind, Except.bind, hx, if_neg this, if_true, ha x hm.1 hm.2, if_neg hsp]
    have h1 : (src x).line.gateway = some b := hgw
    have h2 : queueAdmits q ((src x).record r).cellCount (src x) = false := hq
    simp only [if_true, h1]; rw [show QueueId.cls b g.cls = q from rfl, h2]; rfl
  · have : ¬ (g.policed = true ∧ x.upCredit < 1) := by rintro ⟨h1, h2⟩; have := hcr h1; omega
    simp only [upstream, hG, testPermit, permits, hp, Bind.bind, Except.bind, hx, if_neg this, if_true, ha x hm.1 hm.2, if_neg hsp]
    have h1 : (src x).line.gateway = some b := hgw
    have h2 : queueAdmits q ((src x).record r).cellCount (src x) = true := hq
    simp only [if_true, h1]; rw [show QueueId.cls b g.cls = q from rfl, h2]
    simp only [if_true]
    congr 4
    unfold deductCredit
    by_cases hpol : g.policed = true
    · simp only [hpol, if_true]; simp [setClass, enqueue, State.modEntry, State.modRecord, State.modQueue, src, State.record]
      rfl
    · simp only [hpol]; rfl

end Sys2Proof.Machine
end

