-- ==== Sys2Proof/Laws/Decode.lean ====
section
/-! SUPPORT. Reading bytes, said once: what a field, an optional field, a list of things and a presence byte read, as an equivalence
with the bytes that stand there. -/

namespace Sys2Proof

/-! ## Byte order -/

/-- As many bytes are written as are asked for. -/
@[simp] theorem beBytes_length (k n : Nat) : (beBytes k n).length = k := by
  induction k generalizing n with
  | zero => rfl
  | succ k ih => simp [beBytes, ih]

/-- The number of a list with one more byte behind it. -/
theorem beNat_append_one (bs : List Byte) (b : Byte) : beNat (bs ++ [b]) = beNat bs * 256 + b.toNat := by
  simp [beNat, List.foldl_append]

/-- Reading what was written gives the number modulo 256 to the number of bytes. -/
theorem beNat_beBytes (k n : Nat) : beNat (beBytes k n) = n % 256 ^ k := by
  induction k generalizing n with
  | zero => simp [beBytes, beNat, Nat.mod_one]
  | succ k ih =>
    have e : 256 ^ (k + 1) = 256 * 256 ^ k := by rw [Nat.pow_succ, Nat.mul_comm]
    have := Nat.mod_mul (x := n) (a := 256) (b := 256 ^ k)
    rw [beBytes, beNat_append_one, ih, BitVec.toNat_ofNat, e, this]
    omega

/-- Bytes spell a number that fits in them. -/
theorem beNat_lt (bs : List Byte) : beNat bs < 256 ^ bs.length := by
  induction bs using List.reverseRecOn with
  | nil => simp [beNat]
  | append_singleton bs b ih =>
    have := b.isLt
    rw [beNat_append_one, List.length_append, List.length_singleton, Nat.pow_succ]
    omega

/-- Writing what was read gives the bytes back. -/
theorem beBytes_beNat (bs : List Byte) : beBytes bs.length (beNat bs) = bs := by
  induction bs using List.reverseRecOn with
  | nil => rfl
  | append_singleton bs b ih =>
    have hb := b.isLt
    have h1 : (beNat bs * 256 + b.toNat) / 256 = beNat bs := by omega
    rw [List.length_append, List.length_singleton, beNat_append_one, beBytes, h1, ih]
    congr 2
    apply BitVec.eq_of_toNat_eq
    rw [BitVec.toNat_ofNat]
    omega

/-- Written bytes, one by one. -/
theorem beBytes_eq_map (k n : Nat) : beBytes k n = (List.range k).map (fun j => BitVec.ofNat 8 (n / 256 ^ (k - 1 - j))) := by
  induction k generalizing n with
  | zero => rfl
  | succ k ih =>
    rw [beBytes, ih, List.range_succ, List.map_append]
    congr 1
    · apply List.map_congr_left
      intro j hj
      have := List.mem_range.1 hj
      rw [Nat.div_div_eq_div_mul, Nat.mul_comm, ← Nat.pow_succ]
      congr 3; omega
    · simp

/-! ## Fields -/

/-- A field of `k` bytes reads `v` exactly when the bytes of `v` stand in front. -/
theorem takeField_eq_some {k v : Nat} {bs rest : List Byte} :
    takeField k bs = some (v, rest) ↔ v < 256 ^ k ∧ bs = beBytes k v ++ rest := by
  unfold takeField
  constructor
  · intro h
    split at h
    · cases h
    · rename_i hk
      simp only [Option.some.injEq, Prod.mk.injEq] at h
      obtain ⟨rfl, rfl⟩ := h
      have hl : (bs.take k).length = k := by simp; omega
      constructor
      · have := beNat_lt (bs.take k); rwa [hl] at this
      · conv_lhs => rw [← List.take_append_drop k bs]
        congr 1
        have := beBytes_beNat (bs.take k); rw [hl] at this; exact this.symm
  · rintro ⟨hv, rfl⟩
    have : ¬ (beBytes k v ++ rest).length < k := by simp
    rw [if_neg this]
    simp [beNat_beBytes, Nat.mod_eq_of_lt hv]

/-- An optional field is read exactly when its bit is set. -/
theorem takeIf_eq_some {b : Bool} {k : Nat} {o : Option Nat} {bs rest : List Byte} :
    takeIf b k bs = some (o, rest) ↔
      o.isSome = b ∧ (∀ v, o = some v → v < 256 ^ k) ∧ bs = (match o with | none => [] | some v => beBytes k v) ++ rest := by
  unfold takeIf
  cases b with
  | false => cases o <;> simp [eq_comm]
  | true =>
    cases o with
    | none => simp
    | some v =>
      rw [if_pos rfl, Option.map_eq_some_iff]
      constructor
      · rintro ⟨⟨x, r⟩, hx, h⟩
        cases h
        have := takeField_eq_some.1 hx
        exact ⟨rfl, fun w hw => by cases hw; exact this.1, this.2⟩
      · rintro ⟨-, hv, h⟩
        exact ⟨(v, rest), takeField_eq_some.2 ⟨hv v rfl, h⟩, rfl⟩

/-- Nothing follows. -/
theorem atEnd_eq_some {α : Type} {x y : α} {bs : List Byte} : atEnd (x, bs) = some y ↔ bs = [] ∧ x = y := by
  unfold atEnd; split <;> simp_all

/-- An index below `n`. -/
theorem ixOf_eq_some {n v : Nat} {i : Fin n} : ixOf n v = some i ↔ v = i.val := by
  unfold ixOf
  split
  · rename_i h; rw [Option.some.injEq]; exact ⟨fun e => by rw [← e], fun e => Fin.ext e⟩
  · rename_i h; constructor
    · intro e; cases e
    · intro e; exact absurd i.isLt (e ▸ h)

/-- An optional setting is read by its enumeration. -/
theorem optionally_eq_some {α : Type} {f : Nat → Option α} {o : Option Nat} {x : Option α} :
    optionally f o = some x ↔ (o = none ∧ x = none) ∨ ∃ v y, o = some v ∧ x = some y ∧ f v = some y := by
  cases o with
  | none => simp [optionally, eq_comm]
  | some v =>
    simp only [optionally, Option.map_eq_some_iff]
    constructor
    · rintro ⟨y, hy, rfl⟩; exact Or.inr ⟨v, y, rfl, rfl, hy⟩
    · rintro (⟨h, -⟩ | ⟨w, y, h, rfl, hy⟩)
      · cases h
      · cases h; exact ⟨y, hy, rfl⟩

/-! ## Lists -/

/-- Many things are read exactly when their bytes stand one after another. -/
theorem takeMany_eq_some {α : Type} {f : List Byte → Option (α × List Byte)} {P : α → Prop} {enc : α → List Byte}
    (hf : ∀ bs x rest, f bs = some (x, rest) ↔ P x ∧ bs = enc x ++ rest) {n : Nat} {bs rest : List Byte} {xs : List α} :
    takeMany f n bs = some (xs, rest) ↔ xs.length = n ∧ (∀ x ∈ xs, P x) ∧ bs = xs.flatMap enc ++ rest := by
  induction n generalizing bs xs with
  | zero =>
    simp only [takeMany, Option.some.injEq, Prod.mk.injEq]
    constructor
    · rintro ⟨rfl, rfl⟩; simp
    · rintro ⟨h, -, rfl⟩; rw [List.length_eq_zero_iff] at h; subst h; simp
  | succ n ih =>
    simp only [takeMany, Option.bind_eq_bind, Option.bind_eq_some_iff, Option.pure_def, Option.some.injEq, Prod.mk.injEq]
    constructor
    · rintro ⟨⟨x, r1⟩, h1, ⟨ys, r2⟩, h2, rfl, rfl⟩
      obtain ⟨hx, rfl⟩ := (hf _ _ _).1 h1
      obtain ⟨hl, hp, rfl⟩ := ih.1 h2
      exact ⟨by simp [hl], fun y hy => by
        rcases List.mem_cons.1 hy with rfl | hy
        · exact hx
        · exact hp y hy, by simp⟩
    · rintro ⟨hl, hp, rfl⟩
      cases xs with
      | nil => simp at hl
      | cons x ys =>
        refine ⟨(x, ys.flatMap enc ++ rest), (hf _ _ _).2 ⟨hp x (by simp), by simp⟩, (ys, rest), ih.2 ⟨by simpa using hl, ?_, rfl⟩,
          rfl, rfl⟩
        exact fun y hy => hp y (by simp [hy])

/-- A counted list: its number, then its things. -/
theorem takeCounted_eq_some {α : Type} {f : List Byte → Option (α × List Byte)} {P : α → Prop} {enc : α → List Byte}
    (hf : ∀ bs x rest, f bs = some (x, rest) ↔ P x ∧ bs = enc x ++ rest) {lo hi : Nat} {bs rest : List Byte} {xs : List α} :
    takeCounted lo hi f bs = some (xs, rest) ↔ lo ≤ xs.length ∧ xs.length ≤ hi ∧ xs.length < 256 ∧ (∀ x ∈ xs, P x) ∧
      bs = beBytes 1 xs.length ++ xs.flatMap enc ++ rest := by
  simp only [takeCounted, Option.bind_eq_bind, Option.bind_eq_some_iff]
  constructor
  · rintro ⟨⟨n, r⟩, h1, h2⟩
    obtain ⟨hn, rfl⟩ := takeField_eq_some.1 h1
    split at h2
    · cases h2
    · rename_i hb
      simp at hb
      obtain ⟨rfl, hp, rfl⟩ := (takeMany_eq_some hf).1 h2
      exact ⟨hb.1, hb.2, by simpa using hn, hp, by simp⟩
  · rintro ⟨h1, h2, h3, hp, rfl⟩
    refine ⟨(xs.length, xs.flatMap enc ++ rest), takeField_eq_some.2 ⟨by simpa using h3, by simp⟩, ?_⟩
    have : ¬ ((decide (xs.length < lo) || decide (hi < xs.length)) = true) := by simp; omega
    rw [if_neg this]
    exact (takeMany_eq_some hf).2 ⟨rfl, hp, rfl⟩

/-! ## Presence bytes -/

/-- The presence byte of a list of bits is below two to their number. -/
theorem presence_lt (l : List Bool) : presence l < 2 ^ l.length := by
  induction l with
  | nil => simp [presence]
  | cons b l ih => cases b <;> (simp [presence, onOffCode, Nat.pow_succ]; omega)

/-- The bits of a presence byte. -/
theorem presence_testBit (l : List Bool) (k : Nat) : (presence l).testBit k = l.getD k false := by
  induction l generalizing k with
  | nil => simp [presence]
  | cons b l ih =>
    cases k with
    | zero => cases b <;> simp [presence, onOffCode, Nat.testBit_zero]
    | succ k =>
      have : presence (b :: l) / 2 = presence l := by cases b <;> (simp [presence, onOffCode]; try omega)
      rw [Nat.testBit_succ, this, ih]; simp

/-- A number below two to the number of bits is their presence byte exactly when it has those bits. -/
theorem eq_presence_iff {m : Nat} {l : List Bool} (hm : m < 2 ^ l.length) :
    m = presence l ↔ ∀ k, k < l.length → m.testBit k = l.getD k false := by
  constructor
  · rintro rfl k _; exact presence_testBit l k
  · intro h
    apply Nat.eq_of_testBit_eq
    intro k
    rw [presence_testBit]
    by_cases hk : k < l.length
    · exact h k hk
    · have h1 : m < 2 ^ k := Nat.lt_of_lt_of_le hm (Nat.pow_le_pow_right (by decide) (by omega))
      rw [Nat.testBit_lt_two_pow h1, List.getD_eq_default _ _ (by omega)]

end Sys2Proof
end

