-- ==== Sys2Proof/Tests/Slice0.lean ====
section
/-! SUPPORT. The model's own tests: the checks of WellFormed, the manual's worked examples, one or two small steps for each command,
and for each statement with hypotheses concrete states that meet them (theorems named witness_…). -/

namespace Sys2Proof.Tests

open Sys2Proof Sys2Proof.Machine

set_option Elab.async false

/-! ## Small states -/

/-- The part in TRANSIT, at position 5. -/
def transit : State :=
  { State.reset with line := { State.reset.line with part := .transit, position := 5, strapCode := 19, lineJoin := false } }

/-- The part in SERVICE, at position 5, with the gateway fore. -/
def service : State :=
  { State.reset with
    line := { State.reset.line with part := .service, position := 5, strapCode := 19, lineJoin := false, gateway := some .fore } }

/-- A port with its link, UP when it is a carriage port. -/
def up (p : Port) (s : State) : State :=
  s.modPort p (fun u => { u with link := true, state := if isCarriage p then .up else .off })

/-- A frame in reception at a port, with one cell and `n` bytes. -/
def receiving (p : Port) (r : RecordIx) (n : Nat) (s : State) : State :=
  setRx p (.storing r n) (giveCell r (s.modRecord r (fun x => { x with stage := .receiving })))

/-- A station entry, LEARNED, with an address and an attachment. -/
def station (i : StationIx) (a : Addr) (p : Option Port) (s : State) : State :=
  s.modEntry i (fun e => { e with state := .learned, addr := a, attachment := p, upCredit := 1522, downCredit := 1522 })

/-- Every grant of profile 0 permits both directions. -/
def open0 (g : Grant) (s : State) : State :=
  { s with cls := { s.cls with profiles := s.cls.profiles.modify 0 (fun x => { x with grants := Tab.fill 16 g }) } }

/-- A grant that permits both directions. -/
def both : Grant := { upPermit := true, downPermit := true, policed := false, counted := false, cls := 1 }
/-- The same under POLICED and COUNTED. -/
def metered : Grant := { both with policed := true, counted := true }

/-- A frame of 64 bytes. -/
def frame (dst src : Addr) (etype : Nat) : List Byte :=
  addrBytes dst ++ addrBytes src ++ beBytes 2 etype ++ List.replicate 50 0

/-- A frame that waits in an intake place of a port, in record r. -/
def waiting (p : Port) (r : RecordIx) (bytes : List Byte) (s : State) : State :=
  setRx p .idle (joinIntake p r bytes (receiving p r 1 s))

/-- A record of one cell and 64 bytes listed by a queue. -/
def listed (q : QueueId) (r : RecordIx) (d : Option StationIx) (s : State) : State :=
  (enqueue q r (giveCell r s)).modRecord r (fun x => { x with dest := d, cls := some (.grant 1), length := 64 })

/-- A request frame, of 64 bytes, with one item. -/
def request (code : Nat) (params : List Byte) : List Byte :=
  addrBytes Config.mgmtGroup ++ addrBytes 2 ++ beBytes 2 Config.mgmtType
  ++ beBytes 1 1 ++ beBytes 1 1 ++ beBytes 1 0 ++ beBytes 1 0 ++ addrBytes 0 ++ beBytes 2 7 ++ beBytes 1 1
  ++ beBytes 1 code ++ beBytes 1 params.length ++ params ++ List.replicate (35 - params.length) 0

/-- A request of one item in execution. -/
def executing (code : Nat) (params : List Byte) (s : State) : State :=
  s.modMgmt (fun m => { m with exec := some {
    frame := { bytes := request code params, arrival := .fore, source := 2 },
    items := [{ code := BitVec.ofNat 8 code, params := params }], pointer := 0, answers := [], phase := .ready } })

/-- The frame in execution waits in a phase. -/
def inPhase (ph : ExecPhase) (s : State) : State :=
  waitItem ph (executing 0x0D [] s)

/-- What a command answers with a next state. -/
def after (c : Instr) (s : State) : State :=
  match exec c s with
  | .next t => t
  | _ => s

/-- The status and data of the last answer. -/
def answer (s : State) : Option (Status × List Byte) :=
  s.mgmt.exec.bind (fun f => f.answers.getLast?.map (fun a => (a.status, a.data)))

/-! ## WellFormed -/

theorem test_wellFormed_refuses_carriage_link_up_at_backbone_port : (Instr.carriageLinkUp 1).wellFormed = false := by decide
theorem test_wellFormed_refuses_carriage_link_down_at_backbone_port : (Instr.carriageLinkDown 0).wellFormed = false := by decide
theorem test_wellFormed_refuses_frame_without_bytes : (Instr.frameEnd 3 [] true).wellFormed = false := by decide
theorem test_wellFormed_takes_first_carriage_port :
    (Instr.carriageLinkUp 2).wellFormed = true ∧ (Instr.carriageLinkDown 57).wellFormed = true := by decide

/-! ## Worked examples of the manual -/

/-- 02 R24. -/
theorem test_buckets_of_manual :
    bucketOf 0x021A3C4D5E6F = 88 ∧ bucketOf 0x0A0000000052 = 88 ∧ bucketOf 0x12000000004A = 88
      ∧ (waysOf 88).map (·.val) = [352, 353, 354, 355] := by decide +kernel

/-- 09 R148. -/
theorem test_strap_codes_of_manual :
    [7, 11, 28, 35, 56].map (fun n => (strapPosition (BitVec.ofNat 6 n)).val) = [1, 2, 10, 11, 20]
      ∧ [0, 3, 15, 63].map (fun n => (strapPosition (BitVec.ofNat 6 n)).val) = [0, 0, 0, 0] := by decide +kernel

/-- 00, Conventions: the difference from 65,530 to 4 is 10. -/
theorem test_difference_wraps : Stamp.since 4 65530 = 10 := by decide

/-- 04 R71. -/
theorem test_charges_of_manual :
    [64, 65, 128, 400, 700, 1472, 1473, 1522].map chargeUnits = [1, 2, 2, 7, 11, 23, 24, 24] := by decide

/-- 04 4.6: credit 1,000 at tick 65,530, rate 250, burst 6,000; at T = 4 it is 3,500. -/
theorem test_refill_of_manual :
    (refilled { upRate := 250, upBurst := 6000, downRate := 0, downBurst := 1522 } 4
      { StationEntry.freed 65530 with upCredit := 1000 }).upCredit = 3500 := by decide

/-- 04 4.6: a burst lowered to 5,000 under a credit of 40,000. -/
theorem test_lowered_burst_of_manual :
    (refilled { upRate := 0, upBurst := 1522, downRate := 9, downBurst := 5000 } 1
      { StationEntry.freed 0 with downCredit := 40000 }).downCredit = 5000 := by decide

/-- 04 4.6: an allowance of 6 charged 7 becomes 0 with spent set and a SPENT record. -/
theorem test_allowance_of_manual :
    let t := chargeAllowance metered 3 400 (service.modEntry 3 (fun e => { e with metered := true, allowance := 6 }))
    (t.entry 3).allowance = 0 ∧ (t.entry 3).spent = true ∧ t.table.reports = [.spent 3 0] := by decide +kernel

/-- 12 R174: a credit of −1,521 in two's complement. -/
theorem test_negative_credit_bytes : creditBytes (-1521) = [0xFF, 0xFF, 0xFA, 0x0F] := by decide +kernel

/-! ## Facts that decide does not reach -/

/-- Every queue, one after another. -/
def allQueues : List QueueId :=
  [.through .fore, .through .aft] ++ ((List.finRange 4).map (.cls .fore)) ++ ((List.finRange 4).map (.cls .aft))
  ++ (List.finRange 8).map .priority ++ (List.finRange 8).map .normal ++ (List.finRange 48).map .seat

theorem mem_allQueues (q : QueueId) : q ∈ allQueues := by
  cases q with
  | through b => cases b <;> simp [allQueues]
  | cls b c => cases b <;> simp [allQueues]
  | priority r => simp [allQueues]
  | normal r => simp [allQueues]
  | seat k => simp [allQueues]

theorem every_queue {P : QueueId → Prop} (h : ∀ q ∈ allQueues, P q) (q : QueueId) : P q := h q (mem_allQueues q)

/-! ## The step and reset -/

theorem witness_StepRunsFrontCommand :
    ({ transit with pending := [.slowTick, .refillTick] } : State).pending = .slowTick :: [.refillTick] := rfl

/-- One microsecond before a refill tick and a slow tick, and at both. -/
theorem witness_IdleStepIsOneMicrosecond :
    State.reset.pending = [] ∧ State.reset.line.part = .reset ∧ transit.pending = [] ∧ transit.line.part ≠ .reset ∧
    (let s : State := { transit with time := { transit.time with periodCount := 123, micro := 998 } }
     s.pending = [] ∧ s.time.periodCount + 1 < s.time.divisor ∧ s.time.micro + 1 < 1000) ∧
    (let s : State := { transit with time := { transit.time with periodCount := 124, micro := 998 } }
     s.pending = [] ∧ s.time.divisor ≤ s.time.periodCount + 1 ∧ s.time.micro + 1 < 1000) ∧
    (let s : State := { transit with time := { transit.time with periodCount := 123, micro := 999 } }
     s.pending = [] ∧ s.time.periodCount + 1 < s.time.divisor ∧ 1000 ≤ s.time.micro + 1) ∧
    (let s : State := { transit with time := { transit.time with periodCount := 124, micro := 999 } }
     s.pending = [] ∧ s.time.divisor ≤ s.time.periodCount + 1 ∧ 1000 ≤ s.time.micro + 1) := by decide +kernel

theorem test_idle_step_brings_both_ticks :
    (match step { transit with time := { transit.time with periodCount := 124, micro := 999 } } with
      | .next t => (t.time.periodCount, t.time.tick, t.time.ms, t.time.refreshPointer, t.table.agingPointer)
      | _ => (1, 0, 0, 0, 0)) = (0, 1, 1, 1, 1) := by decide +kernel

theorem witness_ResetPinTaken :
    transit.line.part ≠ .reset ∧ State.reset.line.part = .reset ∧
    (∀ p, isCarriage p = true → (State.reset.port p).state = .off) := by decide +kernel

theorem test_reset_pin_assert_keeps_identifier_and_carriage_lines :
    let t := after .resetPinAssert ((setLine 0 true (setLine 7 true service)).modLine (fun l => { l with deviceId := 9 }))
    t.line.part = .reset ∧ t.line.deviceId = 9 ∧ t.line.lineJoin = true ∧ t.line.lines.get 7 = true
      ∧ t.line.lines.get 0 = false ∧ t.line.gateway = none := by decide +kernel

theorem test_reset_pin_release_reads_straps_and_lines :
    let t := after (.resetPinRelease 35) (setLine 1 true State.reset)
    t.line.part = .transit ∧ t.line.position = 11 ∧ t.line.lineJoin = false ∧ (t.port 1).link = true
      ∧ t.notice.changed.get 1 = true ∧ (t.notice.flags.get 4).pending = true ∧ (t.notice.flags.get 8).pending = false := by
  decide +kernel

theorem test_reset_pin_release_with_bad_straps :
    ((after (.resetPinRelease 3) State.reset).notice.flags.get 8).pending = true := by decide +kernel

theorem witness_RestartMadeWhenDue :
    service.line.part ≠ .reset ∧ service.mgmt.restart ≠ .due ∧
    (service.modMgmt (fun m => { m with restart := .due })).mgmt.restart = .due := by decide +kernel

theorem test_restart_event_keeps_position :
    let t := after .restartEvent (setLine 30 true (service.modMgmt (fun m => { m with restart := .due })))
    t.line.part = .transit ∧ t.line.position = 5 ∧ t.line.gateway = none ∧ (t.port 30).link = true
      ∧ (t.port 30).state = .off ∧ t.mgmt.restart = .none := by decide +kernel

/-! ## Links -/

/-- The lowest and the highest carriage port, DOWN; a backbone port; links present; RESET. -/
theorem witness_LinkUpTaken :
    (∀ p ∈ [(2 : Port), 57], isCarriage p = true ∧
      (let s := service.modPort p (fun u => { u with state := .down })
       isUpOrHeld (s.port p).state = false ∧ (s.port p).rx = .idle ∧ s.line.part ≠ .reset ∧ (s.port p).link = false)) ∧
    isCarriage (sidePort .aft) = false ∧ (service.port (sidePort .aft)).link = false ∧ ((up 2 service).port 2).link = true ∧
    State.reset.line.part = .reset := by decide +kernel

theorem test_carriage_link_up_makes_down_port_held :
    let t := after (.carriageLinkUp 57) (service.modPort 57 (fun u => { u with state := .down, hold := true }))
    (t.port 57).state = .held ∧ (t.port 57).link = true ∧ t.notice.changed.get 57 = true := by decide +kernel

theorem test_backbone_link_up :
    let t := after (.backboneLinkUp .aft) transit
    (t.port 1).link = true ∧ (t.port 1).state = .off ∧ (t.notice.flags.get 4).pending = true := by decide +kernel

/-- A UP port with a frame in reception, sending, or neither; an OFF port that sends; a backbone port; links absent; no carriage
port. -/
theorem witness_LinkDownTaken :
    (let s := receiving 57 0 64 (up 57 (up 2 service))
     isCarriage 2 = true ∧ isCarriage 57 = true ∧ s.line.part ≠ .reset ∧ (s.port 2).link = true ∧
     isUpOrHeld (s.port 2).state = true ∧ (s.port 2).tx = .idle ∧ (s.port 2).rx = .idle ∧ (s.port 57).link = true ∧
     isUpOrHeld (s.port 57).state = true ∧ (s.port 57).rx = .storing 0 64) ∧
    (let s := (startRecord 57 (.seat 47) 3 (listed (.seat 47) 3 none (up 57 service))).modPort 57 (fun u => { u with state := .off })
     isUpOrHeld (s.port 57).state = false ∧ (s.port 57).tx = .sending 3 (.seat 47) 0 ∧ (s.port 57).link = true) ∧
    ((up 1 service).port (sidePort .aft)).link = true ∧ isCarriage (sidePort .aft) = false ∧
    (service.port 2).link = false ∧ isCarriage 1 = false := by decide +kernel

theorem test_link_down_at_off_port_that_sends :
    let t := after (.carriageLinkDown 57) ((startRecord 57 (.seat 47) 3 (listed (.seat 47) 3 none (up 57 service))).modPort 57
      (fun u => { u with state := .off }))
    (t.port 57).state = .off ∧ (t.port 57).tx = .idle ∧ (t.port 57).counters.get 9 = 1 ∧ (t.port 57).flush = none
      ∧ t.mem.freeCount = 2048 := by decide +kernel

theorem test_carriage_link_down_ends_transmission_and_attachment :
    let t := after (.carriageLinkDown 10) (startRecord 10 (.seat 0) 3 (listed (.seat 0) 3 (some 8)
      (station 8 2 (some 10) (up 10 service))))
    (t.port 10).state = .down ∧ (t.port 10).tx = .idle ∧ (t.port 10).counters.get 9 = 1 ∧ (t.entry 8).attachment = none
      ∧ (t.queue (.seat 0)).records = [] ∧ t.mem.freeCount = 2048 ∧ (t.port 10).flush = some 0 := by decide +kernel

theorem test_backbone_link_down_empties_slot :
    let t := after (.backboneLinkDown .fore) ((up 0 service).modSide .fore (fun x => { x with slot := some [1] }))
    (t.side .fore).slot = none ∧ (t.port 0).flush = some 0 ∧ (t.notice.flags.get 5).pending = true := by decide +kernel

/-! ## Reception -/

/-- A HELD port; a carriage port with the free cell count at the reserve, a backbone port at 0; one cell above. -/
theorem witness_FrameStartTaken :
    (let s := service.modPort 2 (fun u => { u with state := .held })
     (s.port 2).rx = .idle ∧ isCarriage 2 = true ∧ (s.port 2).state = .held) ∧
    (let s : State := { up 2 service with mem := { service.mem with reserve := 2048 } }
     (s.port 2).rx = .idle ∧ (s.port 2).state = .up ∧ s.mem.freeCount ≤ s.mem.reserve) ∧
    (let s : State := { up 1 service with mem := { service.mem with free := [], freeCount := 0 } }
     (s.port 1).rx = .idle ∧ isCarriage 1 = false ∧ s.line.part ≠ .reset ∧ (s.port 1).link = true ∧ s.mgmt.exec = none
       ∧ s.mem.freeCount = 0) ∧
    (let s : State := { up 57 service with mem := { service.mem with reserve := 2047 } }
     (s.port 57).rx = .idle ∧ (s.port 57).state = .up ∧ (s.record 0).stage = .free ∧ s.mem.free.head? = some 0
       ∧ s.mem.freeCount = s.mem.free.length ∧ s.mem.reserve < s.mem.freeCount) ∧
    (service.port 57).rx = .idle ∧ (service.port 57).state = .off ∧ (service.port 0).link = false := by decide +kernel

theorem witness_FrameStartTaken_no_record :
    let s : State := { up 2 service with mem := { service.mem with
      records := Tab.fill 1024 { FrameRecord.fresh with stage := .queued } } }
    (s.port 2).rx = .idle ∧ (s.port 2).state = .up ∧ ∀ r, (s.record r).stage ≠ .free := by
  refine ⟨by decide +kernel, by decide +kernel, fun r => ?_⟩
  simp [State.record]

theorem test_frame_start_takes_record_and_cell :
    let t := after (.frameStart 57) { up 57 service with mem := { service.mem with reserve := 2047 } }
    (t.port 57).rx = .storing 0 1 ∧ (t.record 0).stage = .receiving ∧ cellsOf t.mem 0 = [0] ∧ t.mem.freeCount = 2047
      ∧ (t.notice.flags.get 3).pending = true := by decide +kernel

theorem test_frame_start_at_reserve_has_no_memory :
    ((after (.frameStart 2) { up 2 service with mem := { service.mem with reserve := 2048 } }).port 2).rx
      = .discarding .nomem := by decide +kernel

theorem witness_CellsRequestedAndReturned :
    (let s := receiving 3 0 128 (up 3 service)
     (s.port 3).rx = .storing 0 128 ∧ (s.record 0).cellCount < 12 ∧ s.mem.free.head? = some 1
       ∧ s.mem.freeCount = s.mem.free.length ∧ (cellsOf s.mem 0).getLast? = some 0 ∧ s.mem.reserve < s.mem.freeCount) ∧
    (let s := (receiving 3 0 128 (up 3 service)).modRecord 0 (fun x => { x with cellCount := 12 })
     (s.port 3).rx = .storing 0 128 ∧ 12 ≤ (s.record 0).cellCount) ∧
    (let s := receiving 3 0 128 (up 3 service)
     let t : State := { s with mem := { s.mem with reserve := s.mem.freeCount } }
     (t.port 3).rx = .storing 0 128 ∧ (t.record 0).cellCount < 12 ∧ t.mem.freeCount ≤ t.mem.reserve) ∧
    (service.port 3).rx = .idle := by decide +kernel

theorem test_cell_request_links_second_cell :
    let t := after (.cellRequest 3) (receiving 3 0 128 (up 3 service))
    (t.port 3).rx = .storing 0 129 ∧ cellsOf t.mem 0 = [0, 1] ∧ t.mem.freeCount = 2046 := by decide +kernel

theorem test_frame_too_long_returns_cells :
    let t := after (.frameTooLong 3) (receiving 3 0 1522 (up 3 service))
    (t.port 3).rx = .discarding .long ∧ t.mem.freeCount = 2048 ∧ (t.record 0).stage = .free
      ∧ t.mem.free.getLast? = some 0 := by decide +kernel

/-- 63 bytes and 64, 128 bytes in one cell, 1,522 bytes in twelve, one byte more; a group source; two places full. -/
theorem witness_FrameEndTaken :
    (let s := setRx 3 (.discarding .held) service
     (s.port 3).rx = .discarding .held) ∧
    (let s := receiving 3 0 63 (up 3 service)
     (s.port 3).rx = .storing 0 63 ∧ 63 ≤ (frame 1 2 0).length ∧ (frame 1 2 0).length ≤ (s.record 0).cellCount * 128
       ∧ (List.replicate 63 (0 : Byte)).length < 64 ∧ (addrOf (((frame 0 (2 ^ 40) 0).drop 6).take 6)).getLsbD 40 = true
       ∧ (addrOf (((frame 1 2 0).drop 6).take 6)).getLsbD 40 = false ∧ (s.port 3).intake.length < 2
       ∧ (cellsOf s.mem 0).length = (s.record 0).cellCount ∧ (cellsOf s.mem 0).Nodup ∧ Memory.wf s.mem.bytes = true
       ∧ 1 ≤ (s.record 0).cellCount ∧ (s.record 0).cellCount * 128 < 129) ∧
    2 ≤ ((waiting 3 1 (frame 1 2 0) (waiting 3 0 (frame 1 2 0) service)).port 3).intake.length ∧
    (let s := (receiving 3 0 1522 (up 3 service)).modRecord 0 (fun x => { x with cellCount := 12 })
     (s.port 3).rx = .storing 0 1522 ∧ 12 ≤ (s.record 0).cellCount) ∧ 1522 < 1523 := by decide +kernel

theorem test_frame_end_keeps_bytes :
    let t := after (.frameEnd 3 (frame 0x123456789ABC 2 0x0800) true) (receiving 3 0 1 (up 3 service))
    frameBytes t.mem 0 = frame 0x123456789ABC 2 0x0800 ∧ (t.port 3).intake = [0] ∧ (t.port 3).counters.get 0 = 1
      ∧ (t.record 0).stage = .deciding ∧ (t.record 0).length = 64 ∧ (t.record 0).ingress = 3 := by decide +kernel

theorem test_frame_end_counts_short_before_bad_check :
    let t := after (.frameEnd 3 (List.replicate 63 1) false) (receiving 3 0 1 (up 3 service))
    (t.port 3).counters.get 2 = 1 ∧ (t.port 3).counters.get 1 = 0 ∧ (t.port 3).rx = .idle ∧ t.mem.freeCount = 2048 := by
  decide +kernel

/-! ## Decisions -/

theorem witness_ArbiterChoosesPort :
    (let s := waiting 0 0 (frame 1 2 0) (up 0 service)
     s.arb.lastBackbone = .aft ∧ hasWaiting s (sidePort (otherSide .aft)) = true) ∧
    (let s := waiting 1 0 (frame 1 2 0) (up 1 service)
     hasWaiting s (sidePort (otherSide .aft)) = false ∧ hasWaiting s (sidePort .aft) = true) ∧
    (let s := waiting 2 1 (frame 1 2 0) (waiting 57 0 (frame 1 2 0) service)
     hasWaiting s 0 = false ∧ hasWaiting s 1 = false ∧ 2 ≤ s.arb.lastCarriage.val ∧ isCarriage 2 = true
       ∧ hasWaiting s 2 = true ∧ ∀ q : Port, isCarriage q = true → hasWaiting s q = true →
         ((2 : Port).val + 55 - s.arb.lastCarriage.val) % 56 ≤ (q.val + 55 - s.arb.lastCarriage.val) % 56) ∧
    (∀ p, hasWaiting service p = false) := by decide +kernel

theorem test_arbiter_goes_round_from_57_to_2 :
    arbitrate (waiting 2 1 (frame 1 2 0) (waiting 57 0 (frame 1 2 0) service))
      = some (2, { lastBackbone := .aft, lastCarriage := 2 }) := by decide +kernel

theorem witness_FrameTakenByKind :
    (let s := waiting 2 0 (frame 1 2 0) transit
     arbitrate s = some (2, { s.arb with lastCarriage := 2 }) ∧ isCarriage 2 = true ∧ (s.port 2).intake = [0]
       ∧ s.line.part ≠ .service) ∧
    (let s := waiting 2 0 (frame 1 2 0x9A47) (up 2 service)
     arbitrate s = some (2, { s.arb with lastCarriage := 2 }) ∧ s.line.part = .service
       ∧ isUpOrHeld (s.port 2).state = true ∧ (readHeader (frameBytes s.mem 0)).etype.toNat = 0x9A47) ∧
    (let s := waiting 2 0 (frame 1 2 0) (up 2 service)
     (readHeader (frameBytes s.mem 0)).etype.toNat ≠ 0x9A47 ∧ isUpOrHeld (s.port 2).state = true) ∧
    (let s := waiting 0 0 (frame 1 2 0) (up 0 (up 1 transit))
     arbitrate s = some (sidePort .fore, { s.arb with lastBackbone := .fore }) ∧ (s.port (sidePort .fore)).intake = [0]
       ∧ s.line.part = .transit ∧ isManagement (readHeader (frameBytes s.mem 0)) = false
       ∧ (s.port (sidePort (otherSide .fore))).link = true ∧ (s.port (sidePort (otherSide .fore))).flush = none
       ∧ (s.queue (.through (otherSide .fore))).tally + (s.record 0).cellCount ≤ (s.queue (.through (otherSide .fore))).limit) ∧
    (let s := (waiting 0 0 (frame 1 2 0) (up 0 (up 1 transit))).modQueue (.through .aft) (fun x => { x with limit := 0 })
     (s.queue (.through .aft)).limit < (s.queue (.through .aft)).tally + (s.record 0).cellCount) ∧
    (let s := waiting 0 0 (request 1 []) (up 0 service)
     isManagement (readHeader (frameBytes s.mem 0)) = true ∧ targetMatches s.line (readMgmtHeader (frameBytes s.mem 0)) = true) ∧
    (let s := waiting 0 0 (frame (2 ^ 40) 2 0) (up 0 service)
     lookup s.table (readHeader (frameBytes s.mem 0)).src = none ∧ isGroup (readHeader (frameBytes s.mem 0)).dst = true) := by
  decide +kernel

theorem test_take_frame_passes_through_in_transit :
    let t := after .takeFrame (waiting 0 0 (frame 1 2 0) (up 0 (up 1 transit)))
    (t.queue (.through .aft)).records = [0] ∧ (t.record 0).cls = some .through ∧ (t.record 0).holders = 1
      ∧ (t.port 0).intake = [] := by decide +kernel

theorem test_take_frame_hands_management_frame_for_all :
    let t := after .takeFrame (waiting 0 0 (request 1 []) (up 0 (up 1 service)))
    t.mgmt.input.length = 1 ∧ (t.queue (.through .aft)).records = [0] := by decide +kernel

theorem witness_ManagementFrameHanded :
    let s := waiting 0 0 (request 1 []) (up 0 service)
    targetMatches s.line (readMgmtHeader (frameBytes s.mem 0)) = true
      ∧ (readMgmtHeader (frameBytes s.mem 0)).kind = 1 ∧ (readMgmtHeader (frameBytes s.mem 0)).form = 0
      ∧ s.mgmt.input.length < 2 := by decide +kernel

/-- An untagged and a tagged frame; a body header. -/
theorem witness_ManagementFrameHanded_headers :
    (let h : Header := { dst := 6, src := 2, etype := 0x8100, tag := some 0xA005, body := 18 }
     (h.tag = none → h.etype.toNat ≠ 0x8100) ∧ h.body = (if h.tag = none then 14 else 18)) ∧
    (let h : Header := { dst := 6, src := 2, etype := 0x0800, tag := none, body := 14 }
     (h.tag = none → h.etype.toNat ≠ 0x8100) ∧ h.body = (if h.tag = none then 14 else 18)) ∧
    (let bs := request 0x0D [1, 2, 3]
     bs.drop (readHeader bs).body = beBytes 1 1 ++ beBytes 1 1 ++ beBytes 1 0 ++ beBytes 1 0 ++ addrBytes 0 ++ beBytes 2 7
       ++ beBytes 1 1 ++ bs.drop 27) := by decide +kernel

theorem witness_LookupFindsWayOfBucket :
    lookup (station 352 0x021A3C4D5E6F none service).table 0x021A3C4D5E6F = some 352 ∧
    lookup service.table 0x021A3C4D5E6F = none ∧ freeWay service.table 0x021A3C4D5E6F = some 352 ∧
    freeWay (station 352 1 none (station 353 2 none (station 354 3 none (station 355 4 none service)))).table 0x021A3C4D5E6F
      = none := by decide +kernel

/-- A hit; a miss with 47 and with 48 reports; a full bucket. -/
theorem witness_SourceLearned :
    lookup (station 8 2 none service).table 2 = some 8 ∧ lookup service.table 2 = none ∧ freeWay service.table 2 = some 8 ∧
    (List.replicate 47 (Report.spent 0 0)).length < 48 ∧ ¬ (List.replicate 48 (Report.spent 0 0)).length < 48 ∧
    (let t := (station 8 1 none (station 9 3 none (station 10 4 none (station 11 5 none service)))).table
     lookup t 2 = none ∧ freeWay t 2 = none) := by decide +kernel

theorem test_learn_with_full_report_queue_is_marked :
    (match sourceEntry 2 57 { service with table := { service.table with reports := List.replicate 48 (.spent 0 0) } } with
      | .ok (i, t) => (i, (t.entry i).learnedPending, (t.entry i).upCredit, (t.notice.flags.get 1).pending)
      | .error _ => (0, none, 0, false)) = (8, some 57, 1522, true) := by decide +kernel

/-- On its port; detached at a free and at a full seat port; pinned; within the hold-off at 199 ms and at its end, 200 ms; one below
the flap limit and at it. -/
theorem witness_AttachmentStepTaken :
    ((station 8 2 (some 10) service).entry 8).attachment = some 10 ∧ ((station 8 2 none service).entry 8).attachment = none ∧
    ((service.modPort 10 (fun u => { u with seatCount := 1 })).port 10).seatLimit
      ≤ ((service.modPort 10 (fun u => { u with seatCount := 1 })).port 10).seatCount ∧
    ¬ (service.port 57).seatLimit ≤ (service.port 57).seatCount ∧
    (let s := (station 8 2 (some 9) service).modEntry 8 (fun e => { e with recentlyMoved := true, movedAt := 65436 })
     let a : State := { s with time := { s.time with ms := 99 } }
     let b : State := { s with time := { s.time with ms := 100 } }
     (s.entry 8).attachment = some 9 ∧ (s.entry 8).pinned = false ∧ (s.entry 8).recentlyMoved = true
       ∧ (a.time.ms - (a.entry 8).movedAt).toNat < a.roam.holdOff ∧ ¬ (b.time.ms - (b.entry 8).movedAt).toNat < b.roam.holdOff
       ∧ min 15 ((s.entry 8).flapCount + 1) < s.roam.flapLimit) ∧
    service.roam.flapLimit ≤ min 15 (7 + 1) ∧
    ((service.modEntry 8 (fun e => { e with pinned := true })).entry 8).pinned = true := by decide +kernel

theorem test_eighth_refused_move_pins :
    (match attachStep 8 57 ((station 8 2 (some 9) service).modEntry 8 (fun e =>
        { e with recentlyMoved := true, flapCount := 7 })) with
      | .error t => ((t.entry 8).pinned, (t.entry 8).flapCount, (t.entry 8).attachment, t.table.reports)
      | .ok _ => (false, 0, none, [])) = (true, 8, some 9, [.pinned 8 2 57]) := by decide +kernel

/-- A charge of 7 against 8 and against 7; a grant that is not COUNTED. -/
theorem witness_AllowanceCharged :
    (let e := { StationEntry.freed 0 with metered := true, allowance := 8 }
     metered.counted = true ∧ e.metered = true ∧ e.spent = false ∧ (400 + 63) / 64 < e.allowance) ∧
    (let e := { StationEntry.freed 0 with metered := true, allowance := 7 }
     e.metered = true ∧ e.spent = false ∧ e.allowance ≤ (400 + 63) / 64) ∧ both.counted = false := by decide

/-- A known station on its port; credits 1 and 0; spent; the class queue with room for exactly one cell, and for none. -/
theorem witness_UpstreamFrameDecided :
    let s := waiting 10 0 (frame 6 2 0) (station 8 2 (some 10) (open0 metered (up 0 (up 10 service))))
    (arbitrate s = some (10, { s.arb with lastCarriage := 10 }) ∧ isCarriage 10 = true ∧ (s.port 10).intake = [0]
      ∧ s.line.part = .service ∧ isUpOrHeld (s.port 10).state = true ∧ s.line.gateway = some .fore
      ∧ (readHeader (frameBytes s.mem 0)).etype.toNat ≠ 0x9A47
      ∧ lookup s.table (readHeader (frameBytes s.mem 0)).src = some 8 ∧ (s.entry 8).state ≠ .barred
      ∧ (s.entry 8).attachment = some 10 ∧ lookup s.table (readHeader (frameBytes s.mem 0)).dst = none
      ∧ metered.upPermit = true ∧ noGrant.upPermit = false
      ∧ (1 : Int) ≤ (refilled (s.profile 0).rates 0 { s.entry 8 with upCredit := 1 }).upCredit
      ∧ (refilled (s.profile 0).rates 0 { s.entry 8 with upCredit := 0 }).upCredit < 1
      ∧ queueAdmits (.cls .fore 1) 1 (s.modQueue (.cls .fore 1) (fun x => { x with tally := 127 })) = true
      ∧ queueAdmits (.cls .fore 1) 1 (s.modQueue (.cls .fore 1) (fun x => { x with tally := 128 })) = false) := by decide +kernel

/-- A zone match table whose first entry is of the other direction and whose second and last match. -/
def zoned : Classifier :=
  let fields : ZoneFields := { value := 6, mask := 7, etype := none, vlan := some 5, dir := .down, zone := 1 }
  let first : ZoneEntry := { valid := true, fields := fields }
  let second : ZoneEntry := { valid := true, fields := { fields with dir := .up, zone := 2 } }
  let last : ZoneEntry := { valid := true, fields := { fields with dir := .both, zone := 13 } }
  { service.cls with zones := ((service.cls.zones.set 0 first).set 1 second).set 63 last }

theorem witness_UpstreamFrameDecided_zones :
    let h : Header := { dst := 14, src := 2, etype := 0x0800, tag := some 0xA005, body := 18 }
    (zoned.zones.get 0).fields.dir = .down ∧ (zoned.zones.get 1).fields.dir ≠ .down ∧ zoneMatches (zoned.zones.get 1) 14 h = true ∧
    (∀ i, zoneMatches (service.cls.zones.get i) 14 h = false) := by decide +kernel

theorem test_zone_of_first_entry_that_takes_part :
    let h : Header := { dst := 14, src := 2, etype := 0x0800, tag := some 0xA005, body := 18 }
    classify .up 14 h zoned = 2 ∧ classify .down 14 h zoned = 1 ∧ classify .up 14 { h with tag := none } zoned = 15 := by
  decide +kernel

theorem test_upstream_frame_is_queued_and_charged :
    let t := after .takeFrame (waiting 10 0 (frame 6 2 0) ((station 8 2 (some 10) (open0 metered (up 0 (up 10 service)))).modEntry 8
      (fun e => { e with upCredit := 1, metered := true, allowance := 1 })))
    (t.queue (.cls .fore 1)).records = [0] ∧ (t.entry 8).upCredit = -63 ∧ (t.entry 8).spent = true
      ∧ t.table.reports = [.spent 8 2] ∧ (t.entry 8).counters.get 0 = 1 := by decide +kernel

theorem test_upstream_frame_at_credit_0_is_policed :
    let t := after .takeFrame (waiting 10 0 (frame 6 2 0) ((station 8 2 (some 10) (open0 metered (up 0 (up 10 service)))).modEntry 8
      (fun e => { e with upCredit := 0 })))
    (t.entry 8).counters.get 2 = 1 ∧ (t.record 0).stage = .free ∧ (t.queue (.cls .fore 1)).records = [] := by decide +kernel

theorem witness_NeighbourFrameDecided :
    let s := waiting 10 0 (frame 3 2 0) (station 12 3 (some 11) (station 8 2 (some 10) (open0 metered (up 11 (up 10 service)))))
    (8 : StationIx) ≠ 12 ∧ metered.upPermit = true ∧ metered.downPermit = true ∧ noGrant.upPermit = false
      ∧ (s.entry 12).state ≠ .barred ∧ (s.entry 12).attachment = some 11
      ∧ (1 : Int) ≤ (refilled (s.profile 0).rates 0 (s.entry 8)).upCredit
      ∧ (1 : Int) ≤ (refilled (s.profile 0).rates 0 (s.entry 12)).downCredit
      ∧ queueAdmits (stationQueue 11 metered.cls) (s.record 0).cellCount s = true
      ∧ queueAdmits (stationQueue 11 metered.cls) (s.record 0).cellCount
          (s.modQueue (.seat 1) (fun x => { x with tally := 64 })) = false := by decide +kernel

/-- A station that sends to itself, with both credits 1, with a down credit of 0, spent, and refused by its queue. -/
theorem witness_NeighbourFrameDecided_self :
    let s := waiting 10 0 (frame 2 2 0) (station 8 2 (some 10) (open0 metered (up 10 service)))
    (s.profile (s.entry 8).profile).grants.get 14 = metered ∧ metered.upPermit = true ∧ metered.downPermit = true ∧
      (s.entry 8).state ≠ .barred ∧ (s.entry 8).attachment = some 10 ∧
      (1 : Int) ≤ (refilled (s.profile 0).rates 0 { s.entry 8 with upCredit := 1 }).upCredit ∧
      (refilled (s.profile 0).rates 0 { s.entry 8 with downCredit := 0 }).downCredit < 1 ∧
      queueAdmits (stationQueue 10 metered.cls) (s.record 0).cellCount s = true ∧
      queueAdmits (stationQueue 10 metered.cls) (s.record 0).cellCount
        (s.modQueue (.seat 0) (fun x => { x with tally := 64 })) = false := by decide +kernel

/-- 04 R69, R72: 65 bytes cost each credit 65 and the allowance 2 twice. -/
theorem test_frame_to_self_is_charged_twice :
    (match neighbour 8 8 0 (((waiting 10 0 (frame 2 2 0) (station 8 2 (some 10) (open0 metered (up 10 service)))).modEntry 8
        (fun e => { e with metered := true, allowance := 9 })).modRecord 0 (fun x => { x with length := 65 })) with
      | .ok t => ((t.entry 8).upCredit, (t.entry 8).downCredit, (t.entry 8).allowance, (t.entry 8).heldCount)
      | .error _ => (0, 0, 0, 0)) = (1457, 1457, 5, 1) := by decide +kernel

/-- 04 4.6, frame 2 between two metered stations: refused at the spent destination, nothing deducted. -/
theorem test_neighbour_refused_at_spent_destination :
    (match neighbour 8 12 0 ((waiting 10 0 (frame 3 2 0) (station 12 3 (some 11) (station 8 2 (some 10)
        (open0 metered (up 11 (up 10 service)))))).modEntry 12 (fun e => { e with metered := true, spent := true })) with
      | .error t => ((t.entry 12).counters.get 5, (t.entry 8).upCredit)
      | .ok _ => (0, 0)) = (1, 1522) := by decide +kernel

theorem witness_DownstreamFrameDecided :
    let s := waiting 0 0 (frame 2 6 0) (station 8 2 (some 2) (open0 metered (up 2 (up 0 service))))
    arbitrate s = some (sidePort .fore, { s.arb with lastBackbone := .fore }) ∧ (s.port (sidePort .fore)).intake = [0]
      ∧ s.line.part = .service ∧ isManagement (readHeader (frameBytes s.mem 0)) = false
      ∧ lookup s.table (readHeader (frameBytes s.mem 0)).src = none ∧ isGroup (readHeader (frameBytes s.mem 0)).dst = false
      ∧ lookup s.table (readHeader (frameBytes s.mem 0)).dst = some 8 ∧ (s.entry 8).state ≠ .barred
      ∧ (s.entry 8).attachment = some 2 ∧ metered.downPermit = true
      ∧ (1 : Int) ≤ (refilled (s.profile 0).rates 0 (s.entry 8)).downCredit
      ∧ queueAdmits (stationQueue 2 metered.cls) (s.record 0).cellCount s = true
      ∧ lookup (station 24 6 none s).table (readHeader (frameBytes s.mem 0)).src ≠ none := by decide +kernel

theorem test_downstream_frame_is_queued :
    let t := after .takeFrame (waiting 0 0 (frame 2 6 0) (station 8 2 (some 2) (open0 metered (up 2 (up 0 service)))))
    (t.queue (.normal 0)).records = [0] ∧ (t.entry 8).heldCount = 1 ∧ (t.entry 8).downCredit = 1458
      ∧ (t.record 0).dest = some 8 ∧ (t.entry 8).counters.get 1 = 1 := by decide +kernel

theorem witness_GroupFrameReplicated :
    let s := waiting 0 0 (frame (2 ^ 40) 6 0) (up 2 (up 1 (up 0 service)))
    (s.record 0).holders = 0 ∧ QueueId.normal 0 ∈ floodQueues .fore s ∧ queueAdmits (.normal 0) 1 s = true
      ∧ QueueId.through .aft ∈ floodQueues .fore s ∧ QueueId.seat 0 ∉ floodQueues .fore s
      ∧ (floodQueues .fore s).countP (fun q => queueAdmits q 1 s) = 2 ∧ (service.port 1).link = false
      ∧ queueAdmits (.normal 0) 1 (s.modQueue (.normal 0) (fun x => { x with limit := 0 })) = false := by decide +kernel

theorem test_group_frame_is_held_twice :
    let t := replicate .fore 0 (waiting 0 0 (frame (2 ^ 40) 6 0) (up 2 (up 1 (up 0 service))))
    (t.record 0).holders = 2 ∧ (t.queue (.normal 0)).records = [0] ∧ (t.queue (.through .aft)).records = [0] := by decide +kernel

/-! ## Queues and transmission -/

theorem witness_RecordLeavesQueue :
    (let s := listed (.normal 0) 3 (some 8) (station 8 2 (some 2) service)
     (s.queue (.normal 0)).records.erase 3 = [] ∧ (s.record 3).holders ≤ 1 ∧ (s.record 3).dest = some 8
       ∧ s.mgmt.exec.isNone = true ∧ QueueId.cls .fore 1 = drrQueue .fore .class1) ∧
    (let s := enqueue (.seat 0) 3 (listed (.seat 1) 3 none service)
     1 < (s.record 3).holders ∧ (s.record 3).dest = none) ∧
    (let s := enqueue (.seat 0) 4 (listed (.seat 0) 3 none service)
     (s.queue (.seat 0)).records.erase 3 = [4]) ∧
    (let s := inPhase (.releaseWait 8) (station 8 2 none service)
     s.mgmt.exec.map (·.phase) = some (.releaseWait 8) ∧ (s.entry 8).heldCount ≤ 1) := by decide +kernel

theorem test_last_held_record_frees_released_station :
    let t := leaveQueue (.normal 0) 3 (inPhase (.releaseWait 8) (listed (.normal 0) 3 (some 8)
      ((station 8 2 none service).modEntry 8 (fun e => { e with heldCount := 1 }))))
    (t.entry 8).state = .free ∧ answer t = some (.done, []) ∧ t.mem.freeCount = 2048 := by decide +kernel

/-- No destination; BARRED; detached; on the port; moved at the re-home limit and one past it; re-homed already. -/
theorem witness_HeadMeetsRehomeCheck :
    (let s := listed (.normal 0) 3 (some 8) (station 8 2 (some 57) (up 57 service))
     isCarriage (queuePort (.normal 0)) = true ∧ (s.queue (.normal 0)).records = [3] ∧ (s.record 3).dest = some 8 ∧
     (s.entry 8).state ≠ .barred ∧ (s.entry 8).attachment = some 57 ∧ (57 : Port) ≠ queuePort (.normal 0) ∧ isCarriage 57 = true ∧
     (s.record 3).cls = some (.grant 1) ∧ (s.record 3).rehomed = false ∧ queueAdmits (stationQueue 57 1) (s.record 3).cellCount s = true ∧
     ((50 : Stamp) - (s.record 3).arrival).toNat ≤ s.roam.rehomeLimit ∧
     ¬ ((51 : Stamp) - (s.record 3).arrival).toNat ≤ s.roam.rehomeLimit) ∧
    ((listed (.normal 0) 3 none service).record 3).dest = none ∧ (service.entry 8).attachment = none ∧
    ((service.modEntry 8 (fun e => { e with state := .barred })).entry 8).state = .barred := by decide +kernel

theorem test_head_moves_at_rehome_limit :
    let s := listed (.normal 0) 3 (some 8) (station 8 2 (some 57) (up 57 (up 2 service)))
    let t := after (.transmitChoice 2) { s with time := { s.time with ms := 50 } }
    (t.queue (.seat 47)).records = [3] ∧ (t.queue (.normal 0)).records = [] ∧ (t.record 3).rehomed = true
      ∧ t.globals.get (globalCounterIx .rehomed) = 1 ∧ (t.port 2).tx = .idle := by decide +kernel

theorem test_head_past_rehome_limit_is_stale :
    let s := listed (.normal 0) 3 (some 8) (station 8 2 (some 57) (up 57 (up 2 service)))
    let t := after (.transmitChoice 2) { s with time := { s.time with ms := 51 } }
    (t.record 3).stage = .free ∧ t.globals.get (globalCounterIx .staleDrops) = 1 := by decide +kernel

/-- Both queues of a radio port at guard counts 15 and 16; a seat port; every way of not being ready; empty queues. -/
theorem witness_CarriageChoiceTaken :
    (let s := listed (.normal 0) 3 none (listed (.priority 0) 4 none (up 2 service))
     isCarriage 2 = true ∧ (s.port 2).tx = .idle ∧ isUpOrHeld (s.port 2).state = true ∧ (s.port 2).flush = none ∧
     queuePort (.priority 0) = 2 ∧ (s.queue (.priority 0)).records = [4] ∧ queuePort (.normal 0) = 2 ∧
     (s.queue (.normal 0)).records = [3] ∧ (s.record 3).dest = none ∧ (s.record 4).dest = none ∧
     ((s.modPort 2 (fun u => { u with guardCount := 15 })).port 2).guardCount < 16 ∧
     16 ≤ ((s.modPort 2 (fun u => { u with guardCount := 16 })).port 2).guardCount) ∧
    (let s := listed (.seat 47) 3 none (up 57 service)
     queuePort (.seat 47) = 57 ∧ (s.queue (.seat 47)).records = [3] ∧ (s.record 3).dest = none) ∧
    (service.port 2).state = .off := by decide +kernel

theorem witness_CarriageChoiceTaken_sent (q : QueueId) (r : RecordIx) (s : State) (h : (s.record r).dest = none) :
    rehomeCheck q r s = .send := by
  simp [rehomeCheck, h]

theorem test_empty_carriage_queues : ∀ q, queuePort q = 2 → (service.queue q).records = [] := by
  exact every_queue (by decide +kernel)

theorem test_guard_sends_normal_after_16 :
    let t := after (.transmitChoice 2) ((listed (.normal 0) 3 none (listed (.priority 0) 4 none (up 2 service))).modPort 2
      (fun u => { u with guardCount := 16 }))
    (t.port 2).tx = .sending 3 (.normal 0) 0 ∧ (t.port 2).guardCount = 0 := by decide +kernel

theorem test_priority_sent_raises_guard :
    let t := after (.transmitChoice 2) ((listed (.normal 0) 3 none (listed (.priority 0) 4 none (up 2 service))).modPort 2
      (fun u => { u with guardCount := 15 }))
    (t.port 2).tx = .sending 4 (.priority 0) 0 ∧ (t.port 2).guardCount = 16 := by decide +kernel

theorem witness_BackboneChoiceTaken :
    (let s := listed (.cls .aft 0) 3 none (up 1 transit)
     (s.port (sidePort .aft)).tx = .idle ∧ s.line.part ≠ .reset ∧ (s.port (sidePort .aft)).link = true ∧
     (s.port (sidePort .aft)).flush = none ∧ (s.side .aft).slot = none ∧ (s.queue (.cls .aft 0)).records = [3] ∧
     ((s.modSide .aft (fun x => { x with slot := some [1] })).side .aft).slot = some [1]) ∧
    (service.port (sidePort .aft)).link = false ∧ (service.side .aft).slot = none := by decide +kernel

theorem test_slot_goes_before_class_0 :
    ((after (.transmitChoice 1) ((listed (.cls .aft 0) 3 none (up 1 transit)).modSide .aft
      (fun x => { x with slot := some [1] }))).port 1).tx = .sendingSlot 0 := by decide +kernel

/-- Every record 1,522 bytes long, and record 3 in the class 2 queue of BF. -/
def drr (deficit : Nat) (q : QueueId) (visit : Bool) : State :=
  { ((up 0 transit).modQueue q (fun x => { x with records := [3], tally := 12 })).modSide .fore (fun x =>
      { x with pointer := .class2, visitOpen := visit, deficit := x.deficit.set 2 deficit }) with
    mem := { transit.mem with records := Tab.fill 1024 { FrameRecord.fresh with stage := .queued, length := 1522, cellCount := 12 } } }

/-- A deficit of 1,521 and of 1,522 in an open visit, one that the quantum of 1,500 brings to 1,522, an empty queue at the pointer. -/
theorem witness_DeficitRoundRobinSends :
    (let s := drr 22 (.cls .fore 2) false
     (s.port (sidePort .fore)).tx = .idle ∧ s.line.part ≠ .reset ∧ (s.port (sidePort .fore)).link = true ∧
     (s.port (sidePort .fore)).flush = none ∧ (s.side .fore).slot = none ∧ (s.queue (.cls .fore 0)).records = [] ∧
     (s.queue (drrQueue .fore (s.side .fore).pointer)).records = [3] ∧ (s.record 3).length ≤ 22 + 1500) ∧
    ((drr 1521 (.cls .fore 2) true).side .fore).deficit.get (drrIx .class2) < ((drr 0 (.cls .fore 2) true).record 3).length ∧
    ((drr 0 (.cls .fore 3) true).queue (drrQueue .fore .class2)).records = [] := by decide +kernel

theorem witness_DeficitRoundRobinSends_bounds :
    (∀ d, 64 ≤ ((drr 0 (.cls .fore 3) true).side .fore).quantum.get (drrIx d)) ∧
    (∀ r, ((drr 0 (.cls .fore 3) true).record r).length ≤ 1522) := by
  refine ⟨fun d => ?_, fun r => ?_⟩
  · cases d <;> decide +kernel
  · simp [State.record, drr]

/-- Class 3 of 1,522 bytes under a quantum of 1,500 is sent in the second round. -/
theorem test_drr_second_round :
    let t := after (.transmitChoice 0) (drr 0 (.cls .fore 3) true)
    (t.port 0).tx = .sending 3 (.cls .fore 3) 0 ∧ (t.side .fore).deficit.get (drrIx .class3) = 1478
      ∧ (t.side .fore).pointer = .class3 ∧ (t.side .fore).visitOpen = true := by decide +kernel

theorem witness_TransmissionCompleted :
    (let s := startRecord 10 (.seat 0) 3 (listed (.seat 0) 3 none (up 10 service))
     (s.port 10).link = true ∧ (s.port 10).tx = .sending 3 (.seat 0) 0) ∧
    (let s := (up 1 service).modPort 1 (fun u => { u with tx := .sendingSlot 0 })
     (s.port 1).link = true ∧ (1 : Port) = sidePort .aft ∧ (s.port 1).tx = .sendingSlot 0) ∧
    (service.port 10).tx = .idle := by decide +kernel

theorem test_transmit_complete_counts_and_frees :
    let t := after (.transmitComplete 10) (startRecord 10 (.seat 0) 3 (listed (.seat 0) 3 none (up 10 service)))
    (t.port 10).counters.get (portCounterIx .txFrames) = 1 ∧ (t.port 10).tx = .idle ∧ (t.record 3).stage = .free
      ∧ t.mem.freeCount = 2048 := by decide +kernel

theorem test_transmit_complete_of_restart_response :
    let t := after (.transmitComplete 1) (((up 1 service).modPort 1 (fun u => { u with tx := .sendingSlot 0 })).modMgmt
      (fun m => { m with restart := .sent .aft }))
    t.mgmt.restart = .due ∧ (t.port 1).tx = .idle ∧ (t.side .aft).slot = none := by decide +kernel

/-! ## Time -/

theorem witness_RefillTickTaken :
    State.reset.line.part = .reset ∧ transit.line.part ≠ .reset ∧ (transit.entry 0).state = .free ∧
    ((station 0 1 none transit).entry 0).state ≠ .free := by decide +kernel

theorem test_refill_tick_takes_divisor_and_refreshes :
    let s := (station 511 1 none service).modEntry 511 (fun e => { e with upCredit := -1521, lastRefill := 65530 })
    let t := after .refillTick { s with
      time := { s.time with tick := 3, refreshPointer := 511, divisorWritten := some 1000, periodCount := 124 }
      cls := { s.cls with profiles := s.cls.profiles.modify 0 (fun x => { x with rates := { x.rates with upRate := 250 } }) } }
    t.time.tick = 4 ∧ t.time.refreshPointer = 0 ∧ t.time.divisor = 1000 ∧ t.time.periodCount = 0
      ∧ (t.entry 511).upCredit = 979 ∧ (t.entry 511).lastRefill = 4 := by decide +kernel

theorem witness_SlowTickTaken : transit.line.part ≠ .reset := by decide

theorem test_slow_tick_of_a_second_ages_bucket :
    let s := station 511 1 none service
    let t := after .slowTick { s with
      time := { s.time with msRemainder := 999, seconds := 59 }, table := { s.table with agingPointer := 127 } }
    t.time.seconds = 60 ∧ t.time.msRemainder = 0 ∧ t.time.ms = 1 ∧ (t.entry 511).state = .free ∧ t.table.agingPointer = 0 := by
  decide +kernel

/-- Idle for 59 and for 60 seconds; a due ADMITTED entry with 48 reports; three marks with 45, 46, 47 and 48 reports. -/
theorem witness_AgingVisitsWay :
    (let e := (station 8 2 none service).entry 8
     e.state = .learned ∧ (60 - e.lastSeen : BitVec 16).toNat ≥ service.table.learnedLimit
       ∧ ¬ (59 - e.lastSeen : BitVec 16).toNat ≥ service.table.learnedLimit ∧ e.heldCount = 0 ∧ e.learnedPending = none
       ∧ e.spentPending = false ∧ e.pinnedPending = none) ∧
    (service.entry 8).state = .free ∧ 45 + 3 ≤ 48 ∧ ¬ 46 + 3 ≤ 48 ∧ 48 - 46 = 2 ∧ 48 - 47 = 1 ∧
    (let e := ((station 8 2 none service).modEntry 8 (fun x => { x with state := .admitted, expiryDue := true })).entry 8
     e.state = .admitted ∧ e.expiryDue = true ∧ e.heldCount = 0 ∧ 48 ≤ (List.replicate 48 (Report.spent 0 0)).length) := by
  decide +kernel

theorem test_admitted_aging_visit_posts_expired :
    let s := (station 8 2 (some 10) service).modEntry 8 (fun e => { e with state := .admitted })
    let t := visitWay { s with time := { s.time with seconds := 900 } } 8
    (t.entry 8).state = .free ∧ t.table.reports = [.expired 2 0 none (some 10)] := by decide +kernel

theorem test_pending_reports_in_order :
    let t := pendingReportsStep 8 ((station 8 2 none service).modEntry 8 (fun e =>
      { e with learnedPending := some 10, spentPending := true, pinnedPending := some 57 }))
    t.table.reports = [.learned 8 2 10, .spent 8 2, .pinned 8 2 57] ∧ (t.entry 8).spentPending = false := by decide +kernel

theorem test_pending_reports_meet_a_full_queue :
    let s := (station 8 2 none service).modEntry 8 (fun e =>
      { e with learnedPending := some 10, spentPending := true, pinnedPending := some 57 })
    let t := pendingReportsStep 8 { s with table := { s.table with reports := List.replicate 47 (.spent 0 0) } }
    t.table.reports.drop 47 = [.learned 8 2 10] ∧ (t.entry 8).learnedPending = none ∧ (t.entry 8).spentPending = true
      ∧ (t.entry 8).pinnedPending = some 57 ∧ (t.notice.flags.get (sourceIx .reportBacklog)).pending = true := by decide +kernel

theorem witness_PartsOfSlowTick :
    transit.line.part ≠ .reset ∧
    (let e := ((station 8 2 (some 10) service).modEntry 8 (fun x => { x with state := .admitted, expiryDue := true })).entry 8
     e.state = .admitted ∧ e.expiryDue = true ∧ e.heldCount = 0) ∧ (service.entry 8).state ≠ .admitted ∧
    service.table.reports.length < 48 ∧ 48 ≤ (List.replicate 48 (Report.spent 0 0)).length := by decide +kernel

theorem test_seconds_advance :
    let t := after .secondsAdvance { service with time := { service.time with msRemainder := 1000, seconds := 65535 } }
    t.time.seconds = 0 ∧ t.time.msRemainder = 0 := by decide +kernel

theorem test_learned_expiry_gives_up_seat :
    let t := after (.learnedExpiry 8) (((station 8 2 (some 10) service).modEntry 8 (fun x =>
      { x with expiryDue := true })).modPort 10 (fun u => { u with seatCount := 1 }))
    (t.entry 8).state = .free ∧ (t.port 10).seatCount = 0 ∧ t.table.reports = [] := by decide +kernel

theorem test_admitted_expiry_with_full_report_queue :
    let s := (station 8 2 none service).modEntry 8 (fun x => { x with state := .admitted, expiryDue := true })
    let t := after (.admittedExpiry 8) { s with table := { s.table with reports := List.replicate 48 (.spent 0 0) } }
    (t.entry 8).state = .admitted ∧ (t.notice.flags.get (sourceIx .reportBacklog)).pending = true := by decide +kernel

theorem test_hold_off_ends_at_200 :
    let s := (station 8 2 none service).modEntry 8 (fun x => { x with recentlyMoved := true })
    ((after (.holdOffEnd 8) { s with time := { s.time with ms := 199 } }).entry 8).recentlyMoved = true
      ∧ ((after (.holdOffEnd 8) { s with time := { s.time with ms := 200 } }).entry 8).recentlyMoved = false := by decide +kernel

theorem test_spacing_ends_at_10 :
    let s : State := { service with notice := { service.notice with spacingRunning := true, placedAt := 65535 } }
    (after .spacingEnd { s with time := { s.time with ms := 8 } }).notice.spacingRunning = true
      ∧ (after .spacingEnd { s with time := { s.time with ms := 9 } }).notice.spacingRunning = false := by decide +kernel

/-! ## Walks -/

/-- A head in transmission, one record that leaves, one that another queue holds too. -/
def walked : State :=
  startRecord 10 (.seat 0) 3 (enqueue (.seat 0) 5 (listed (.seat 1) 5 (some 8) (listed (.seat 0) 4 (some 8)
    (listed (.seat 0) 3 (some 8) ((station 8 2 none (up 10 service)).modEntry 8 (fun e => { e with heldCount := 3 }))))))

theorem witness_WalkVisitRemovesRecords :
    (walked.queue (.seat 0)).records = [3, 4, 5] ∧ (walked.queue (.seat 0)).records.Nodup ∧ inTransmission (.seat 0) 3 walked = true ∧
    inTransmission (.seat 0) 4 walked = false ∧ (walked.record 4).holders ≤ 1 ∧ 1 < (walked.record 5).holders ∧
    walked.mgmt.exec.isNone = true := by decide +kernel

theorem test_walk_visit_keeps_record_in_transmission :
    let t := sweepQueue (fun x => decide (x.dest = some 8)) (.seat 0) walked
    (t.queue (.seat 0)).records = [3] ∧ (t.record 4).stage = .free ∧ (t.record 5).holders = 1 ∧ (t.entry 8).heldCount = 1 := by
  decide +kernel

theorem witness_WalkVisitsTaken :
    (let w : PurgeWalk := { station := 8, visits := 63 }
     carriageQueues[w.visits]? = some (.seat 47)) ∧ service.purge = none ∧
    (let s := (waiting 10 1 (frame 1 2 0) (waiting 10 0 (frame 1 2 0) service)).modPort 10 (fun u => { u with flush := some 0 })
     (s.port 10).flush = some 0 ∧ (s.port 10).intake = [0, 1] ∧ (s.port 10).intake.Nodup) ∧
    (portQueues 1)[4]? = some (.cls .aft 3) ∧ (portQueues 57)[0]? = some (.seat 47) ∧ (service.port 10).flush = none ∧
    ((service.modSide .fore (fun x => { x with classFlush := some 3 })).side .fore).classFlush = some (3 : Fin 4).val ∧
    (service.side .fore).classFlush = none := by decide +kernel

theorem test_purge_walk_last_visit :
    let t := after .purgeWalkVisit { listed (.seat 47) 3 (some 8) (station 8 2 none service) with
      purge := some { station := 8, visits := 63 } }
    (t.queue (.seat 47)).records = [] ∧ t.purge = some { station := 8, visits := 64 } := by decide +kernel

theorem test_flush_walk_empties_intake_first :
    let t := after (.flushWalkVisit 10) ((waiting 10 1 (frame 1 2 0) (waiting 10 0 (frame 1 2 0) service)).modPort 10
      (fun u => { u with flush := some 0 }))
    (t.port 10).intake = [] ∧ t.mem.freeCount = 2048 ∧ (t.port 10).flush = some 1 := by decide +kernel

theorem test_class_flush_visit :
    let t := after (.classFlushVisit .aft) ((listed (.cls .aft 3) 3 none service).modSide .aft (fun x => { x with classFlush := some 3 }))
    (t.queue (.cls .aft 3)).records = [] ∧ (t.side .aft).classFlush = some 4 := by decide +kernel

theorem witness_WalkEndsTaken :
    (∀ p ∈ [((0 : Port), 6), (9, 3), (10, 2)], (if p.1.val < 2 then 6 else if p.1.val < 10 then 3 else 2) = p.2) ∧
    ((inPhase (.barWalk 8) service).mgmt.exec.map (·.phase) = some (.barWalk 8)) ∧
    ((inPhase (.releaseWalk 8) service).mgmt.exec.map (·.phase) = some (.releaseWalk 8)) ∧
    ((inPhase (.portOff 10 true) service).mgmt.exec.map (·.phase) = some (.portOff 10 true)) ∧
    ((inPhase (.portReset 10) service).mgmt.exec.map (·.phase) = some (.portReset 10)) ∧
    ((inPhase .standDown service).mgmt.exec.map (·.phase) = some .standDown) ∧ service.mgmt.exec.isNone = true ∧
    (∀ q : Port, (service.port q).flush = none) ∧ service.fore.classFlush = none ∧ (service.entry 8).heldCount = 0 := by
  decide +kernel

theorem test_purge_walk_end_finishes_bar :
    answer (after .purgeWalkEnd { inPhase (.barWalk 257) service with purge := some { station := 257, visits := 64 } })
      = some (.done, [1, 1]) := by decide +kernel

theorem test_purge_walk_end_waits_for_held_frames :
    let t := after .purgeWalkEnd { (inPhase (.releaseWalk 8) service).modEntry 8 (fun e => { e with heldCount := 1, state := .barred }) with
      purge := some { station := 8, visits := 64 } }
    t.mgmt.exec.map (·.phase) = some (.releaseWait 8) ∧ (t.entry 8).state = .barred := by decide +kernel

theorem test_flush_walk_end_finishes_clamped_set_port :
    let t := after (.flushWalkEnd 10) ((inPhase (.portOff 10 true) service).modPort 10 (fun u => { u with flush := some 2 }))
    answer t = some (.doneClamped, []) ∧ (t.port 10).flush = none := by decide +kernel

theorem test_class_flush_end_finishes_stand_down :
    let t := after (.classFlushEnd .aft) ((inPhase .standDown transit).modSide .aft (fun x => { x with classFlush := some 4 }))
    answer t = some (.done, []) ∧ (t.side .aft).classFlush = none := by decide +kernel

/-! ## The management unit -/

/-- The part with one request frame in the input queue. -/
def asked (bytes : List Byte) : State :=
  service.modMgmt (fun m => { m with input := [{ bytes := bytes, arrival := .fore, source := 2 }] })

theorem witness_RequestFrameBegun :
    (let m := readMgmtHeader (request 0x0D [1, 2, 3])
     m.version = 1 ∧ m.count = 1 ∧ ((request 0x0D [1, 2, 3]).take ((request 0x0D [1, 2, 3]).length - 4)).drop
       ((readHeader (request 0x0D [1, 2, 3])).body + 13) = [0x0D, 3, 1, 2, 3] ++ List.replicate 28 0) ∧
    (asked (request 1 [])).mgmt.exec.isNone = true ∧ (asked (request 1 [])).mgmt.restart = .none ∧
    (asked (request 1 [])).line.part ≠ .reset ∧ service.mgmt.input = [] := by decide +kernel

/-- A frame of another version has no good header whatever its items. -/
theorem witness_RequestFrameBegun_bad_header :
    (readMgmtHeader ((request 1 []).set 14 2)).version ≠ 1 := by decide +kernel

theorem test_mgmt_frame_begin_finds_items :
    (after .mgmtFrameBegin (asked (request 0x0D [1, 2, 3]))).mgmt.exec.map (fun f => (f.items, f.pointer))
      = some ([{ code := 0x0D, params := [1, 2, 3] }], 0) := by decide +kernel

/-- 12 R174: kind 0x82 and item count 0. -/
theorem test_mgmt_frame_begin_marks_bad_header :
    (match (after .mgmtFrameBegin (asked ((request 1 []).set 14 2))).mgmt.exec.map (·.phase) with
      | some (.response c) => (c.length, c.getD 15 0, c.getD 26 1)
      | _ => (0, 0, 0)) = (60, 0x82, 0) := by decide +kernel

theorem witness_ItemFinished :
    (let f : ExecFrame := { frame := { bytes := [], arrival := .fore, source := 2 }, items := [⟨1, []⟩, ⟨2, []⟩], pointer := 0,
                            answers := [], phase := .ready }
     f.items[f.pointer]? = some ⟨1, []⟩ ∧ f.pointer + 1 < f.items.length) ∧
    ItemIs (executing 0 [] service) 0 [] ∧ ItemIs (executing 0x1B [] service) 0x1B [] ∧ ItemIs (executing 1 [0] service) 1 [0] ∧
    parseSetLine [0] = none ∧ parseTiming [0] = none ∧ parseZoneWrite [64, 0] = none ∧ parseIndex 64 [64] = none ∧
    parseProfileWrite [0, 0] = none ∧ parseIndex 32 [32] = none ∧ parseAdmit [0, 0] = none ∧
    parseRef [2, 0, 0, 0, 0, 0, 0, 2] = none ∧ parseTopUp (addrBytes 0 ++ [0, 0, 0, 0, 0, 0]) = none ∧
    parseFindStation [1, 0, 0, 0, 0, 0] = none ∧ parseTakeReports [17] = none ∧ parsePortWrite [58, 1, 1] = none ∧
    parseIndex 58 [58] = none ∧ parseQueueWrite [0] = none ∧ parseCounters [5, 0] = none ∧ parseNoticeWrite [0] = none ∧
    parseRetire [0] = none := by
  refine ⟨by decide, rfl, rfl, rfl, ?_⟩
  decide +kernel

/-- A current item of another code, and one of each form of SET_ALLOWANCE. -/
theorem witness_ItemFinished_other_code :
    (currentItem (executing 0x02 [] service)).map (·.code.toNat) = some 2 ∧
    (currentItem (executing 0x0F (List.replicate 8 0) service)).map (·.params.length) = some 8 ∧
    (currentItem (executing 0x0F (List.replicate 12 0) service)).map (·.params.length) = some 12 ∧
    (currentItem service).isNone = true := by decide +kernel

theorem test_command_of_another_code_changes_nothing :
    (after .identify (executing 0x02 [] service)).mgmt = (executing 0x02 [] service).mgmt ∧
    (after .setAllowance (executing 0x0F (List.replicate 8 0) service)).mgmt = (executing 0x0F (List.replicate 8 0) service).mgmt := by
  decide +kernel

theorem test_unknown_code_is_bad_item : answer (after .unknownItemCode (executing 0x1B [] service)) = some (.badItem, []) := by
  decide +kernel

theorem witness_ResponsePlaced :
    (let s := inPhase (.response [7]) (up 0 service)
     s.mgmt.exec.map (fun f => (f.phase, f.frame.arrival)) = some (.response [7], .fore) ∧ (s.port (sidePort .fore)).link = true
       ∧ (s.side .fore).slot = none ∧ (service.port (sidePort .fore)).link = false) ∧ service.mgmt.exec.isNone = true := by
  decide +kernel

theorem test_response_place_fills_slot :
    let t := after .responsePlace ((inPhase (.response [7]) (up 0 service)).modMgmt (fun m => { m with restart := .armed }))
    (t.side .fore).slot = some [7] ∧ t.mgmt.exec.isNone = true ∧ t.mgmt.restart = .sent .fore := by decide +kernel

/-! ## Items -/

theorem itemIs_executing (code : Nat) (params : List Byte) (s : State) : ItemIs (executing code params s) code params := rfl

/-- A reference by index, and one by address. -/
def refAt (i : StationIx) (a : Addr) : List Byte := encodeRef (.indexed i a)
def refBy (a : Addr) : List Byte := encodeRef (.byAddr a)

theorem witness_ReadsAnswered :
    ItemIs (executing 0x01 [] transit) 0x01 [] ∧ ItemIs (executing 0x02 [] service) 0x02 [] ∧
    ItemIs (executing 0x12 (refAt 511 2) service) 0x12 (refAt 511 2) ∧ transit.line.part ≠ .reset ∧ service.line.part ≠ .reset ∧
    parseIndex 64 [63] = some 63 ∧ parseIndex 32 [31] = some 31 ∧ parseRef (refAt 511 2) = some (.indexed 511 2) ∧
    parseRef (refBy 2) = some (.byAddr 2) ∧ parseFindStation (addrBytes 2) = some 2 := by
  refine ⟨rfl, rfl, rfl, ?_⟩
  decide +kernel

theorem test_identify : answer (after .identify (executing 0x01 [] transit)) = some (.done, [0, 0, 0, 0, 0, 0, 19, 5, 1]) := by
  decide +kernel

theorem test_read_status :
    answer (after .readStatus (executing 0x02 [] (up 57 service)))
      = some (.done, [2, 5, 1, 0, 0, 0, 0, 0, 125, 8, 0, 4, 0, 0, 64, 0, 2, 0, 0, 0, 0, 0, 0, 0, 0]) := by decide +kernel

theorem test_read_zone_match :
    let z : ZoneEntry :=
      { valid := true, fields := { value := 2, mask := 3, etype := none, vlan := some 0x123, dir := .both, zone := 13 } }
    answer (after .readZoneMatch (executing 0x09 [63]
      { service with cls := { service.cls with zones := service.cls.zones.set 63 z } }))
      = some (.done, [5, 0, 0, 0, 0, 0, 2, 0, 0, 0, 0, 0, 3, 3, 13, 0, 0, 1, 0x23]) := by decide +kernel

theorem test_read_profile :
    (answer (after .readProfile (executing 0x0B [0] (open0 metered service)))).map (fun x => (x.1, x.2.length, x.2.take 10))
      = some (.done, 40, [0, 0, 5, 0xF2, 0, 0, 5, 0xF2, 15, 1]) := by decide +kernel

/-- 04 R64: a credit is brought up to date before it is read. -/
theorem test_read_station_refills :
    let s := executing 0x12 (refBy 2) (station 8 2 (some 10) (service.modEntry 8 (fun e => e)))
    (answer (after .readStation { s with
      time := { s.time with tick := 5 }, table := { s.table with entries := s.table.entries.modify 8 (fun e => { e with upCredit := -1521 }) }
      cls := { s.cls with profiles := s.cls.profiles.modify 0 (fun x => { x with rates := { x.rates with upRate := 100 } }) } })).map
        (fun x => (x.2.length, x.2.take 11, (x.2.drop 15).take 10))
      = some (35, [0, 8, 1, 0, 0, 0, 0, 0, 2, 1, 10], [0xFF, 0xFF, 0xFC, 0x03, 0, 0, 5, 0xF2, 0, 5]) := by decide +kernel

theorem test_find_station :
    answer (after .findStation (executing 0x13 (addrBytes 2) (station 8 2 none service))) = some (.done, [0, 8, 1]) ∧
    answer (after .findStation (executing 0x13 (addrBytes 6) (station 8 2 none service))) = some (.noEntry, []) := by decide +kernel

theorem witness_LineItemsCarriedOut :
    (∀ s ∈ [executing 0x03 [] { transit with line := { transit.line with gateway := some .fore } }, executing 0x04 [] service,
        executing 0x06 [2] transit], ∀ p : Port, isCarriage p = true → (s.line.part ≠ .service → (s.port p).state = .off) ∧
        (isUpOrHeld (s.port p).state = false → (s.port p).rx = .idle)) ∧ transit.line.position ≠ 0 ∧
    ItemIs (executing 0x03 [] transit) 0x03 [] ∧ ItemIs (executing 0x04 [] service) 0x04 [] ∧
    ItemIs (executing 0x06 [2] transit) 0x06 [2] ∧ parseSetLine [2] = some .aft ∧ ItemIs (executing 0x05 [] service) 0x05 [] := by
  refine ⟨by decide +kernel, by decide +kernel, rfl, rfl, rfl, by decide +kernel, rfl⟩

theorem test_start_evaluates_carriage_ports :
    let t := after .start (executing 0x03 [] ({ transit with line := { transit.line with gateway := some .aft } }.modPort 10
      (fun u => { u with link := true, hold := true })))
    t.line.part = .service ∧ (t.port 10).state = .held ∧ (t.port 11).state = .down ∧ (t.port 0).state = .off := by decide +kernel

theorem test_start_without_gateway_is_wrong_state :
    answer (after .start (executing 0x03 [] transit)) = some (.wrongState, []) := by decide +kernel

theorem test_stand_down_waits_for_flushes :
    let t := after .standDown (executing 0x04 [] (station 8 2 (some 10) (up 10 service)))
    t.line.part = .transit ∧ (t.port 10).state = .off ∧ (t.port 10).flush = some 0 ∧ (t.port 57).flush = some 0
      ∧ (t.port 0).flush = none ∧ t.fore.classFlush = some 0 ∧ (t.entry 8).attachment = none
      ∧ t.mgmt.exec.map (·.phase) = some .standDown := by decide +kernel

/-- A carriage port whose flush walk is past its intake visit, with a frame that came since. -/
def late : State :=
  (waiting 10 0 (frame 6 2 0) (up 10 service)).modPort 10 (fun u => { u with flush := some 1 })

theorem witness_LineItemsCarriedOut_late :
    let s := executing 0x04 [] late
    (∀ p : Port, isCarriage p = true → (s.line.part ≠ .service → (s.port p).state = .off) ∧
      (isUpOrHeld (s.port p).state = false → (s.port p).rx = .idle)) ∧ ItemIs s 0x04 [] ∧ s.line.part = .service ∧
    (s.port 10).flush = some (0 + 1) ∧ (s.port 10).intake = [0] := by
  refine ⟨by decide +kernel, rfl, by decide +kernel, by decide +kernel, by decide +kernel⟩

/-- 01 R7: after STAND_DOWN the intake places of the carriage ports are empty; 06 R115: the running walk goes on. -/
theorem test_stand_down_flushes_behind_the_walk :
    let t := after .standDown (executing 0x04 [] late)
    (t.port 10).intake = [] ∧ (t.port 10).flush = some 1 ∧ (t.record 0).stage = .free ∧ t.mem.freeCount = late.mem.freeCount + 1
      ∧ (after .takeFrame t).arb = t.arb := by decide +kernel

theorem test_set_line :
    (after .setLine (executing 0x06 [2] transit)).line.gateway = some .aft ∧
    answer (after .setLine (executing 0x06 [2] service)) = some (.wrongState, []) := by decide +kernel

theorem test_restart_arms : (after .restart (executing 0x05 [] service)).mgmt.restart = .armed := by decide +kernel

theorem witness_SettingsWritten :
    ItemIs (executing 0x07 [2, 4, 0] service) 0x07 [2, 4, 0] ∧
    parseTiming [2, 4, 0] = some { divisor := none, holdOff := some 1024, rehomeLimit := none, learnedLimit := none,
                                   admittedLimit := none, flapLimit := none, spacing := none } ∧
    ItemIs (executing 0x08 [63, 0] service) 0x08 [63, 0] ∧ parseZoneWrite [63, 0] = some (63, none) ∧
    ItemIs (executing 0x0A [31, 2, 1, 15, 15, 3] service) 0x0A [31, 2, 1, 15, 15, 3] ∧
    parseProfileWrite [31, 2, 1, 15, 15, 3]
      = some { profile := 31, rates := none, grants := [(15, { metered with cls := 3 })] } ∧
    (parseProfileWrite [31, 1, 0x10, 0, 0, 0, 5, 0xF1, 0, 0, 0, 1, 0, 0]).map (·.rates)
      = some (some { upRate := 4096, upBurst := 1521, downRate := 0, downBurst := 65536 }) := by
  refine ⟨rfl, by decide +kernel, rfl, by decide +kernel, rfl, by decide +kernel, by decide +kernel⟩

theorem test_set_timing_clamps_hold_off :
    let t := after .setTiming (executing 0x07 [3, 0, 250, 4, 0] service)
    t.roam.holdOff = 1023 ∧ t.time.divisor = 125 ∧ t.time.divisorWritten = some 250 ∧ answer t = some (.doneClamped, []) := by
  decide +kernel

theorem test_write_zone_match :
    let t := after .writeZoneMatch (executing 0x08 ([63, 3] ++ addrBytes 2 ++ addrBytes 3 ++ [2, 13, 0x88, 0xF7]) service)
    let z : ZoneFields := { value := 2, mask := 3, etype := some 0x88F7, vlan := none, dir := .down, zone := 13 }
    t.cls.zones.get 63 = { valid := true, fields := z } := by decide +kernel

theorem test_write_profile_clamps_rates :
    let t := after .writeProfile (executing 0x0A [31, 1, 0x10, 0, 0, 0, 5, 0xF1, 0, 0, 0, 1, 0, 0] service)
    (t.profile 31).rates = { upRate := 4095, upBurst := 1522, downRate := 0, downBurst := 65535 }
      ∧ answer t = some (.doneClamped, []) := by decide +kernel

/-- An entry found; another address at the index; a FREE entry; an address that misses with a full bucket. -/
theorem witness_StationReferenceResolved :
    ((station 8 2 none service).entry 8).state ≠ .free ∧ ((station 8 2 none service).entry 8).addr = 2 ∧
    (service.entry 8).state = .free ∧ lookup (station 8 2 none service).table 2 = some 8 ∧ lookup service.table 2 = none ∧
    freeWay (station 8 1 none (station 9 3 none (station 10 4 none (station 11 5 none service)))).table 2 = none ∧
    parseRefValue (refBy 2 ++ [0, 0, 0, 1]) = some (.byAddr 2, 1) ∧ parseTopUp (refBy 2 ++ [0, 0, 0, 1]) = some (.byAddr 2, 1) ∧
    parseCounters (encodeCounters (.station (.byAddr 2)) true) = some (.station (.byAddr 2), true) ∧
    parseAdmit (refAt 511 2 ++ [31]) = some (.indexed 511 2, 31, none) := by decide +kernel

theorem test_stale_and_missing_references :
    answer (after .releaseStation (executing 0x0E (refAt 8 6) (station 8 2 none service))) = some (.stale, []) ∧
    answer (after .unpin (executing 0x11 (refBy 6) (station 8 2 none service))) = some (.noEntry, []) := by decide +kernel

theorem witness_StationAdmitted :
    ItemIs (executing 0x0C (refBy 2 ++ [31, 1, 0, 0, 0]) service) 0x0C (refBy 2 ++ [31, 1, 0, 0, 0]) ∧
    parseAdmit (refBy 2 ++ [31, 1, 0, 0, 0]) = some (.byAddr 2, 31, some 16777216) ∧
    parseAdmit (refAt 8 2 ++ [0]) = some (.indexed 8 2, 0, none) ∧ freeWay service.table 2 = some 8 ∧
    lookup service.table 2 = none := by
  refine ⟨rfl, ?_⟩
  decide +kernel

theorem test_admit_new_address_clamps_allowance :
    let t := after .admitStation (executing 0x0C (refBy 2 ++ [31, 1, 0, 0, 0]) service)
    (t.entry 8).state = .admitted ∧ (t.entry 8).allowance = 16777215 ∧ (t.entry 8).metered = true ∧ (t.entry 8).upCredit = 1522
      ∧ answer t = some (.doneClamped, [0, 8]) := by decide +kernel

theorem test_admit_again_keeps_credits :
    let t := after .admitStation (executing 0x0C (refAt 8 2 ++ [0]) ((station 8 2 none service).modEntry 8
      (fun e => { e with state := .admitted, upCredit := -7 })))
    (t.entry 8).upCredit = -7 ∧ (t.entry 8).metered = false := by decide +kernel

theorem witness_StationBarred :
    ItemIs (executing 0x0D (refBy 2) service) 0x0D (refBy 2) ∧ ItemIs (executing 0x0E (refAt 8 2) service) 0x0E (refAt 8 2) ∧
    parseRef (refBy 2) = some (.byAddr 2) ∧ lookup service.table 2 = none ∧ freeWay service.table 2 = some 8 ∧
    ((station 8 2 (some 10) service).entry 8).attachment = some 10 := by
  refine ⟨rfl, rfl, ?_⟩
  decide +kernel

theorem test_bar_detaches_and_walks :
    let t := after .barStation (executing 0x0D (refAt 8 2) ((station 8 2 (some 10) service).modPort 10 (fun u => { u with seatCount := 1 })))
    (t.entry 8).state = .barred ∧ (t.entry 8).attachment = none ∧ (t.port 10).seatCount = 0
      ∧ t.purge = some { station := 8, visits := 0 } ∧ t.mgmt.exec.map (·.phase) = some (.barWalk 8) := by decide +kernel

theorem test_release_bars_first :
    let t := after .releaseStation (executing 0x0E (refBy 2) (station 8 2 none service))
    (t.entry 8).state = .barred ∧ t.mgmt.exec.map (·.phase) = some (.releaseWalk 8) := by decide +kernel

theorem witness_AllowanceItemsCarriedOut :
    ItemIs (executing 0x0F (refBy 2 ++ [0, 0, 0, 0]) service) 0x0F (refBy 2 ++ [0, 0, 0, 0]) ∧
    ItemIs (executing 0x0F (refBy 2) service) 0x0F (refBy 2) ∧
    ItemIs (executing 0x10 (refBy 2 ++ [1, 0, 0, 0]) service) 0x10 (refBy 2 ++ [1, 0, 0, 0]) ∧
    (refBy 2 ++ [0, 0, 0, 0]).length ≠ 8 ∧ parseRefValue (refBy 2 ++ [0, 0, 0, 0]) = some (.byAddr 2, 0) ∧ (refBy 2).length = 8 ∧
    parseTopUp (refBy 2 ++ [1, 0, 0, 0]) = some (.byAddr 2, 16777216) ∧
    (match resolve (station 8 2 none service) (.byAddr 2) with | .ok i => i | .error _ => 0) = 8 := by
  refine ⟨rfl, rfl, rfl, ?_⟩
  decide +kernel

theorem test_set_allowance_of_0_is_spent_without_report :
    let t := after .setAllowance (executing 0x0F (refBy 2 ++ [0, 0, 0, 0]) (station 8 2 none service))
    (t.entry 8).spent = true ∧ (t.entry 8).metered = true ∧ t.table.reports = [] := by decide +kernel

theorem test_set_allowance_without_value_unmeters :
    let t := after .setAllowanceUnmetered (executing 0x0F (refBy 2) ((station 8 2 none service).modEntry 8
      (fun e => { e with metered := true, spent := true, spentPending := true })))
    (t.entry 8).metered = false ∧ (t.entry 8).spent = false ∧ (t.entry 8).spentPending = false := by decide +kernel

theorem test_top_up_saturates :
    let t := after .topUp (executing 0x10 (refBy 2 ++ [1, 0, 0, 0]) ((station 8 2 none service).modEntry 8
      (fun e => { e with metered := true, spent := true })))
    (t.entry 8).allowance = 16777215 ∧ (t.entry 8).spent = false ∧ answer t = some (.doneClamped, [0xFF, 0xFF, 0xFF]) := by
  decide +kernel

theorem test_top_up_of_unmetered_is_wrong_state :
    answer (after .topUp (executing 0x10 (refBy 2 ++ [0, 0, 0, 1]) (station 8 2 none service))) = some (.wrongState, []) := by
  decide +kernel

theorem witness_StationUnpinned :
    ItemIs (executing 0x11 (refBy 2) service) 0x11 (refBy 2) ∧ parseRef (refBy 2) = some (.byAddr 2) ∧
    (match resolve (station 8 2 none service) (.byAddr 2) with | .ok i => i | .error _ => 0) = 8 ∧
    (match resolve service (.byAddr 2) with | .ok _ => Status.done | .error st => st) = .noEntry := by
  refine ⟨rfl, ?_⟩
  decide +kernel

theorem test_unpin :
    let t := after .unpin (executing 0x11 (refBy 2) ((station 8 2 (some 10) service).modEntry 8
      (fun e => { e with pinned := true, flapCount := 8, pinnedPending := some 11, recentlyMoved := true })))
    (t.entry 8).pinned = false ∧ (t.entry 8).flapCount = 0 ∧ (t.entry 8).pinnedPending = none
      ∧ (t.entry 8).recentlyMoved = true ∧ (t.entry 8).attachment = some 10 := by decide +kernel

theorem witness_ReportsTaken :
    ItemIs (executing 0x14 [16] service) 0x14 [16] ∧ parseTakeReports [16] = some 16 ∧
    (executing 0x14 [16] service).mgmt.exec.isSome = true := by
  refine ⟨rfl, ?_⟩
  decide +kernel

/-- 12, Worked example: one TAKE_REPORTS answer. -/
theorem test_take_reports_of_manual :
    let t := after .takeReports (executing 0x14 [2] { service with table := { service.table with
      reports := [.learned 355 0x0A0000000052 21, .expired 0x021A3C4D5E6F 7 (some 1200) none, .spent 352 0x12000000004A] } })
    t.table.reports = [.spent 352 0x12000000004A] ∧ answer t = some (.done,
      [1, 1, 1, 0x63, 0x0A, 0, 0, 0, 0, 0x52, 0x15, 4, 1, 0x02, 0x1A, 0x3C, 0x4D, 0x5E, 0x6F, 7, 0, 4, 0xB0]) := by decide +kernel

/-! ## Ports, queues, counters -/

/-- UP with its link to each of the four states; OFF outside; a frame in reception. -/
theorem witness_CarriagePortEvaluated :
    (let s := receiving 10 0 64 (up 10 service)
     isCarriage 10 = true ∧ isUpOrHeld (s.port 10).state = true ∧ (s.port 10).link = true ∧ (s.port 10).rx = .storing 0 64) ∧
    isUpOrHeld (service.port 57).state = false ∧ (service.port 57).rx = .idle := by decide +kernel

theorem test_evaluation_to_held_abandons_reception :
    let t := evaluatePort 10 ((receiving 10 0 64 (up 10 service)).modPort 10 (fun u => { u with hold := true }))
    (t.port 10).state = .held ∧ (t.port 10).rx = .discarding .held ∧ (t.record 0).stage = .free := by decide +kernel

theorem witness_PortSet :
    ItemIs (executing 0x15 [57, 0x19, 0, 5, 1, 7, 8, 1] service) 0x15 [57, 0x19, 0, 5, 1, 7, 8, 1] ∧
    parsePortWrite [57, 0x19, 0, 5, 1, 7, 8, 1] = some
      { port := 57, enable := some false, hold := none, flood := none, seatLimit := some 5, limits := [(.seat, 2049)] } ∧
    (service.port 57).flush = none ∧ queueNamed 57 .seat = some (.seat 47) ∧
    (evaluatePort 57 ((up 57 service).modPort 57 (fun u => { u with enable := false }))).port 57 ≠ (up 57 service).port 57 ∧
    ((up 57 service).port 57).state ≠ .off := by
  refine ⟨rfl, ?_⟩
  decide +kernel

theorem test_set_port_off_waits_for_flush :
    let t := after .setPort (executing 0x15 [57, 0x19, 0, 5, 1, 7, 8, 1] (up 57 service))
    (t.port 57).state = .off ∧ (t.port 57).seatLimit = 4 ∧ (t.queue (.seat 47)).limit = 2048 ∧ (t.port 57).flush = some 0
      ∧ t.mgmt.exec.map (·.phase) = some (.portOff 57 true) := by decide +kernel

theorem test_set_port_hold :
    let t := after .setPort (executing 0x15 [10, 2, 1] (up 10 service))
    (t.port 10).state = .held ∧ answer t = some (.done, []) := by decide +kernel

theorem witness_PortReset :
    ItemIs (executing 0x16 [57] service) 0x16 [57] ∧ parseIndex 58 [57] = some 57 ∧ isCarriage 57 = true ∧ isCarriage 1 = false ∧
    (service.port 57).rx = .idle ∧ (service.port 57).flush = none := by
  refine ⟨rfl, ?_⟩
  decide +kernel

theorem test_reset_port_flushes :
    let t := after .resetPort (executing 0x16 [10] (receiving 10 0 64 (station 8 2 (some 10) (up 10 service))))
    (t.port 10).state = .off ∧ (t.port 10).link = true ∧ (t.port 10).flush = some 0 ∧ (t.entry 8).attachment = none
      ∧ t.mem.freeCount = 2048 ∧ t.mgmt.exec.map (·.phase) = some (.portReset 10) := by decide +kernel

theorem test_reset_port_outside_service :
    answer (after .resetPort (executing 0x16 [10] transit)) = some (.wrongState, []) := by decide +kernel

theorem witness_QueueSetAndCountersRead :
    ItemIs (executing 0x17 [7, 1, 4, 8, 1, 0, 63, 1, 1] service) 0x17 [7, 1, 4, 8, 1, 0, 63, 1, 1] ∧
    parseQueueWrite [7, 1, 4, 8, 1, 0, 63, 1, 1] = some { queue := some (1, .class3), limit := some 2049, quantum := some 63,
                                                          reserve := some 257 } ∧
    queueNamed 1 .class3 = some (drrQueue .aft .class3) ∧
    ItemIs (executing 0x18 [2, 1, 2, 6] service) 0x18 [2, 1, 2, 6] ∧ parseCounters [2, 1, 2, 6] = some (.queue 2 .normal, true) ∧
    parseCounters [1, 0, 57] = some (.port 57, false) ∧ parseCounters [4, 1] = some (.global, true) ∧
    queueNamed 2 .normal = some (.normal 0) := by
  refine ⟨rfl, by decide +kernel, by decide +kernel, rfl, ?_⟩
  decide +kernel

theorem test_set_queue_clamps_all_three :
    let t := after .setQueue (executing 0x17 [7, 1, 4, 8, 1, 0, 63, 1, 1] service)
    (t.queue (.cls .aft 3)).limit = 2048 ∧ (t.side .aft).quantum.get (drrIx .class3) = 64 ∧ t.mem.reserve = 256
      ∧ answer t = some (.doneClamped, []) := by decide +kernel

theorem test_read_counters_clears :
    let t := after .readCounters (executing 0x18 [2, 1, 2, 6] (service.modQueue (.normal 0) (fun x => { x with drops := 258 })))
    answer t = some (.done, [0, 0, 1, 2]) ∧ (t.queue (.normal 0)).drops = 0 := by decide +kernel

/-! ## Notices -/

theorem witness_NoticeSettingsWritten :
    ItemIs (executing 0x19 ([7] ++ addrBytes 2 ++ [2, 1, 8, 1]) service) 0x19 ([7] ++ addrBytes 2 ++ [2, 1, 8, 1]) ∧
    parseNoticeWrite ([7] ++ addrBytes 2 ++ [2, 1, 8, 1])
      = some { dest := some 2, mode := some .auto, enables := [(.strapFault, true)] } ∧
    (executing 0x19 [] service).mgmt.exec.isSome = true ∧
    ItemIs (executing 0x1A [2, 0, 8] service) 0x1A [2, 0, 8] ∧ parseRetire [2, 0, 8] = some [.reports, .strapFault] ∧
    parseRetire [2, 8, 8] = none := by
  refine ⟨rfl, by decide +kernel, by decide +kernel, rfl, ?_⟩
  decide +kernel

/-- A source pending, in service and not enabled, in AUTO or EXPLICIT mode. -/
def noticed (x : Source) (f : SourceFlags) (s : State) : State :=
  { s with notice := { s.notice with flags := s.notice.flags.set (sourceIx x) f } }

theorem test_set_notices_auto_clears_in_service :
    let t := after .setNotices (executing 0x19 ([7] ++ addrBytes 2 ++ [2, 1, 8, 1])
      (noticed .linkChange { enable := false, pending := true, inService := true } service))
    t.notice.dest = some { addr := 2, port := .fore, tag := none } ∧ t.notice.mode = .auto
      ∧ t.notice.flags.get 4 = { enable := false, pending := true, inService := false }
      ∧ (t.notice.flags.get 8).enable = true := by decide +kernel

theorem test_retire_clears_named_only :
    let t := after .retireNotices (executing 0x1A [1, 4] (noticed .memoryLow { enable := true, pending := false, inService := true }
      (noticed .linkChange { enable := true, pending := true, inService := true } service)))
    t.notice.flags.get 4 = { enable := true, pending := true, inService := false } ∧ (t.notice.flags.get 3).inService = true := by
  decide +kernel

/-- A notice for BF with LINK_CHANGE pending and enabled. -/
def noticing : State :=
  let s := noticed .linkChange { enable := true, pending := true, inService := false } (up 0 service)
  { s with notice := { s.notice with
      dest := some { addr := 2, port := .fore, tag := none }, count := 4, changed := s.notice.changed.set 12 true } }

theorem witness_NoticeSent :
    (let s := noticing
     s.line.part ≠ .reset ∧ (s.notice.flags.get (sourceIx .linkChange)).pending = true
       ∧ (s.notice.flags.get (sourceIx .linkChange)).enable = true ∧ (s.notice.flags.get (sourceIx .linkChange)).inService = false
       ∧ s.notice.spacingRunning = false ∧ (s.side .fore).slot = none ∧ (s.port (sidePort .fore)).link = true
       ∧ s.mgmt.exec.isNone = true ∧ s.notice.dest = some { addr := 2, port := .fore, tag := none }) ∧ service.notice.dest = none := by
  decide +kernel

/-- 11, Worked sequence, stamp 500: tag 5, LINK_CHANGE, the set with port 12. -/
theorem test_notice_of_manual :
    let t := after .noticeSend noticing
    (t.side .fore).slot.map (fun c => (c.length, (c.drop 15).take 1, (c.drop 24).take 11))
      = some (60, [3], [0, 5, 0, 0, 0x10, 0, 8, 0, 1, 12, 0])
      ∧ t.notice.flags.get 4 = { enable := true, pending := false, inService := true } ∧ t.notice.count = 5
      ∧ t.notice.spacingRunning = true ∧ t.notice.changed.get 12 = false := by decide +kernel

/-! ## Invariants -/

/-- The part in TRANSIT, with a slow tick to come. -/
def ticking : State := { transit with pending := [.slowTick] }

theorem witness_StepKeepsInvariants_step : (match step ticking with | .next t => t.time.ms | _ => 0) = 1 := by decide +kernel

theorem ticking_entry (i : StationIx) : ticking.entry i = StationEntry.freed 0 := by
  simp [State.entry, ticking, transit, State.reset]

theorem ticking_record (r : RecordIx) : ticking.record r = FrameRecord.fresh := by
  simp [State.record, ticking, transit, State.reset, FrameMemory.fresh]

theorem witness_StepKeepsFrameMemory : MemoryCanonical ticking ∧ FreeCountAgrees ticking := by
  constructor
  · show Memory.wf _ = true; decide +kernel
  · show _ = _; decide +kernel

theorem ticking_queue (q : QueueId) : (ticking.queue q).records = [] ∧ (ticking.queue q).tally = 0 :=
  every_queue (P := fun q => (ticking.queue q).records = [] ∧ (ticking.queue q).tally = 0) (by decide +kernel) q

theorem ticking_cells (r : RecordIx) : cellsOf ticking.mem r = [] := by
  show chainFrom _ (ticking.record r).cellCount _ = []
  rw [ticking_record]; rfl

theorem witness_StepKeepsFrameMemory_frames : FramesAgree ticking := by
  have place : ∀ p, (ticking.port p).rx = .idle ∧ (ticking.port p).intake = [] ∧ (ticking.port p).tx = .idle := by decide +kernel
  have empty : ∀ k : Fin 74, (ticking.queues.get k).records = [] := by decide +kernel
  refine ⟨witness_StepKeepsFrameMemory.2, ⟨?_, fun r => ?_⟩, ⟨?_, ?_, ?_, ?_, ?_⟩, ⟨fun q => ?_, fun r => ?_, ?_⟩, ⟨fun i => ?_, ?_, ?_⟩⟩
  · rw [show cellsOf ticking.mem = fun _ => [] from funext ticking_cells]
    rw [show (List.finRange 1024).flatMap (fun _ => ([] : List CellIx)) = [] by simp, List.append_nil]
    exact .of_eq (by decide +kernel)
  · rw [ticking_cells, ticking_record]; decide
  · intro p r n h; rw [(place p).1] at h; cases h
  · intro p p' r n n' h; rw [(place p).1] at h; cases h
  · intro p r h; rw [(place p).2.1] at h; cases h
  · intro p; rw [(place p).2.1]; exact List.nodup_nil
  · intro p p' r h; rw [(place p).2.1] at h; cases h
  · rw [(ticking_queue q).1, (ticking_queue q).2]; exact ⟨List.nodup_nil, rfl⟩
  · rw [ticking_record]; simp [listings, empty, FrameRecord.fresh]
  · intro p r q n h; rw [(place p).2.2] at h; cases h
  · rw [ticking_entry]; simp [ticking_record, FrameRecord.fresh, StationEntry.freed]
  · intro i _; rw [ticking_entry]; rfl
  · intro r h; rw [ticking_record] at h; exact absurd rfl h

theorem witness_StepKeepsBounds : PlacesBounded ticking ∧ SettingsInRange ticking := by
  refine ⟨⟨by decide +kernel, by decide +kernel, by decide +kernel, fun r => ?_, by decide +kernel⟩, by decide +kernel,
    fun d h => (by cases h), by decide +kernel, by decide +kernel, by decide +kernel, by decide +kernel, by decide +kernel,
    by decide +kernel, by decide +kernel, every_queue (by decide +kernel), by decide +kernel, fun b d => ?_⟩
  · rw [ticking_record]; decide
  · cases b <;> cases d <;> decide +kernel

theorem witness_StepKeepsAllowanceAgreement : AllowanceAgrees ticking := by
  intro i; rw [ticking_entry]; decide

theorem witness_StepKeepsCarriagePorts : CarriagePortsAgree ticking ∧ ServiceAgrees ticking := by
  constructor
  · show ∀ p : Port, _; decide +kernel
  · intro h; cases h

theorem witness_StepKeepsCarriagePorts_intakes : CarriageIntakesFlushed ticking := by
  have : ∀ p, (ticking.port p).intake = [] := by decide +kernel
  exact fun _ p _ _ => this p

theorem witness_StepKeepsStationTable : TableAgrees ticking := by
  constructor
  · intro i h; rw [ticking_entry] at h; exact absurd rfl h
  · intro i j h; rw [ticking_entry] at h; exact absurd rfl h

theorem witness_StepKeepsStationTable_attachments : AttachmentsAgree ticking ∧ CarriagePortsAgree ticking := by
  refine ⟨⟨fun i p h => ?_, fun p _ => ?_⟩, witness_StepKeepsCarriagePorts.1⟩
  · rw [ticking_entry] at h; cases h
  · have : (ticking.port p).seatCount = 0 := by revert p; decide +kernel
    rw [this]; simp [ticking_entry, StationEntry.freed]

theorem witness_ParametersReadBack :
    isGroup 2 = false ∧
    (let w : TimingFields := { divisor := some 250, holdOff := some 65535, rehomeLimit := none, learnedLimit := none,
                               admittedLimit := none, flapLimit := none, spacing := some 0 }
     w.valid = true ∧ ∀ o ∈ [w.divisor, w.holdOff, w.rehomeLimit, w.learnedLimit, w.admittedLimit, w.flapLimit, w.spacing],
       ∀ v ∈ o, v < 2 ^ 16) ∧
    ({ profile := 31, rates := none, grants := [(15, both)] } : ProfileWrite).valid = true ∧
    ({ port := 57, enable := none, hold := none, flood := none, seatLimit := some 255, limits := [(.seat, 65535)] } : PortWrite).valid
      = true ∧
    ({ queue := some (1, .class1), limit := none, quantum := some 65535, reserve := none } : QueueWrite).valid = true ∧
    queueExists 57 .seat = true ∧ ({ dest := some 2, mode := none, enables := [] } : NoticeWrite).valid = true ∧
    [Source.reports, .strapFault].Nodup := by decide +kernel

end Sys2Proof.Tests
end

/-! # Station lookup

The bucket of an address and what a search of its four ways answers (02 R24 to R26). -/

namespace Sys2Proof.Machine

open Sys2Proof

/-! ## The bucket -/

/-- Byte `k` of an address, counted from the least significant one, is its bits from `8 k`. -/
theorem ofNat_div_pow_eq_extractLsb' (a : Addr) (k : Nat) : BitVec.ofNat 8 (a.toNat / 256 ^ k) = a.extractLsb' (8 * k) 8 := by
  apply BitVec.eq_of_toNat_eq
  rw [BitVec.toNat_ofNat, BitVec.extractLsb'_toNat, Nat.shiftRight_eq_div_pow, Nat.pow_mul]

theorem addrBytes_eq (a : Addr) : addrBytes a = [a.extractLsb' 40 8, a.extractLsb' 32 8, a.extractLsb' 24 8,
    a.extractLsb' 16 8, a.extractLsb' 8 8, a.extractLsb' 0 8] := by
  rw [addrBytes, beBytes_eq_map]
  simp only [ofNat_div_pow_eq_extractLsb']
  rfl

theorem foldAddr_eq (a : Addr) : foldAddr a = a.extractLsb' 40 8 ^^^ a.extractLsb' 32 8 ^^^ a.extractLsb' 24 8
    ^^^ a.extractLsb' 16 8 ^^^ a.extractLsb' 8 8 ^^^ a.extractLsb' 0 8 := by
  simp only [foldAddr, addrBytes_eq, List.foldl_cons, List.foldl_nil, BitVec.ofNat_eq_ofNat, BitVec.zero_xor]

theorem mem_waysOf {b : Fin 128} {i : StationIx} : i ∈ waysOf b ↔ i.val / 4 = b.val := by
  simp only [waysOf, List.mem_cons, List.not_mem_nil, or_false, Fin.ext_iff]
  omega

/-- The ways of a bucket stand in ascending order (02 2.1). -/
theorem waysOf_sorted (b : Fin 128) : (waysOf b).Pairwise (· < ·) := by
  simp [waysOf, Fin.mk_lt_mk]

/-! ## The search -/

/-- In an ascending list the first element that has a property is the least one that has it. -/
theorem find?_eq_some_iff_least {α : Type} [LinearOrder α] {p : α → Bool} {l : List α} (hl : l.Pairwise (· < ·)) {x : α} :
    l.find? p = some x ↔ x ∈ l ∧ p x = true ∧ ∀ y < x, y ∈ l → p y = false := by
  induction l with
  | nil => simp
  | cons z l ih =>
    obtain ⟨least, sorted⟩ := List.pairwise_cons.1 hl
    cases hz : p z with
    | true =>
      have head_le : ∀ y ∈ z :: l, z ≤ y := List.forall_mem_cons.2 ⟨le_rfl, fun y hy => (least y hy).le⟩
      rw [List.find?_cons_of_pos hz, Option.some.injEq]
      constructor
      · rintro rfl
        exact ⟨List.mem_cons_self, hz, fun y below hy => absurd below (head_le y hy).not_gt⟩
      · rintro ⟨hx, -, none_below⟩
        by_contra ne
        have := none_below z ((head_le x hx).lt_of_ne ne) List.mem_cons_self
        simp [hz] at this
    | false =>
      have not_head : p x = true → x ≠ z := fun hx e => by simp [← e, hx] at hz
      rw [List.find?_cons_of_neg (by simp [hz]), ih sorted]
      constructor
      · rintro ⟨hx, px, none_below⟩
        refine ⟨List.mem_cons_of_mem _ hx, px, fun y below hy => ?_⟩
        rcases List.mem_cons.1 hy with rfl | hy
        · exact hz
        · exact none_below y below hy
      · rintro ⟨hx, px, none_below⟩
        exact ⟨List.mem_of_ne_of_mem (not_head px) hx, px, fun y below hy => none_below y below (List.mem_cons_of_mem _ hy)⟩

/-- A hit is a non-FREE way of the address's bucket that holds the address (02 R25). -/
theorem lookup_some {t : StationTable} {a : Addr} {i : StationIx} (h : lookup t a = some i) :
    i.val / 4 = (bucketOf a).val ∧ (t.entries.get i).state ≠ .free ∧ (t.entries.get i).addr = a := by
  have way : i.val / 4 = (bucketOf a).val := mem_waysOf.1 (List.mem_of_find?_eq_some h)
  have holds := List.find?_some h
  simp only [Bool.and_eq_true, decide_eq_true_eq] at holds
  exact ⟨way, holds⟩

/-- A miss: no way of the bucket is non-FREE with the address (02 R25). -/
theorem lookup_eq_none {t : StationTable} {a : Addr} : lookup t a = none ↔
    ∀ i : StationIx, i.val / 4 = (bucketOf a).val → (t.entries.get i).state = .free ∨ (t.entries.get i).addr ≠ a := by
  simp only [lookup, List.find?_eq_none, mem_waysOf, Bool.and_eq_true, decide_eq_true_eq, not_and_or, not_not]

/-- The way of a new entry is the lowest FREE one of the bucket (02 R26). -/
theorem freeWay_eq_some {t : StationTable} {a : Addr} {i : StationIx} : freeWay t a = some i ↔
    i.val / 4 = (bucketOf a).val ∧ (t.entries.get i).state = .free ∧
      ∀ j < i, j.val / 4 = (bucketOf a).val → (t.entries.get j).state ≠ .free := by
  rw [freeWay, find?_eq_some_iff_least (waysOf_sorted _)]
  simp only [mem_waysOf, decide_eq_true_eq, decide_eq_false_iff_not, ne_eq]

/-- A full bucket. -/
theorem freeWay_eq_none {t : StationTable} {a : Addr} : freeWay t a = none ↔
    ∀ i : StationIx, i.val / 4 = (bucketOf a).val → (t.entries.get i).state ≠ .free := by
  simp only [freeWay, List.find?_eq_none, mem_waysOf, decide_eq_true_eq, ne_eq]

end Sys2Proof.Machine

section

open Sys2Proof Sys2Proof.Machine

/-- Settles O15: the fold byte by byte, and the search of four ways in ascending order. -/
theorem lookupFindsWayOfBucket : Obligations.LookupFindsWayOfBucket := by
  unfold Obligations.LookupFindsWayOfBucket
  exact ⟨fun a => congrArg (fun x : Byte => x.toNat % 128) (foldAddr_eq a), by decide, by decide, by decide,
    fun i => by omega,
    fun t a => ⟨fun _ => lookup_some, lookup_eq_none, fun _ => freeWay_eq_some, freeWay_eq_none⟩⟩

end

/-! # The items that only read

The items that only read: how an item runs once its parameters are read, and the data of each in the layout of 12 R174. -/

namespace Sys2Proof

variable {α : Type} {n : Nat}

/-- The elements of a table in the order of their indices. -/
theorem Tab.toList_eq_map_get (t : Tab α n) : Vector.toList t = (List.finRange n).map t.get := by
  apply List.ext_getElem
  · simp
  · intro i _ _; simp [Tab.get]

/-! ## Parameters of the reading items -/

theorem parseIndex_singleton_eq_none {x : Byte} (h : n ≤ x.toNat) : parseIndex n [x] = none := by
  have outside : ixOf n x.toNat = none := by rw [ixOf, dif_neg (by omega)]
  have read : takeField 1 [x] = some (x.toNat, []) := by simp [takeField, beNat]
  simp [parseIndex, read, outside]

theorem parseFindStation_addrBytes (a : Addr) : parseFindStation (addrBytes a) = if isGroup a then none else some a := by
  have read : takeField 6 (addrBytes a) = some (a.toNat, []) :=
    takeField_eq_some.2 ⟨a.isLt, (List.append_nil _).symm⟩
  simp [parseFindStation, read, atEnd]

end Sys2Proof

namespace Sys2Proof.Machine

open Sys2Proof

/-! ## Running an item -/

theorem hasCode_ofNat {c : Nat} (h : c < 256) (ps : List Byte) : hasCode c { code := BitVec.ofNat 8 c, params := ps } = true := by
  simp [hasCode, Nat.mod_eq_of_lt h]

section

variable {α : Type} {is : RawItem → Bool} {parse : List Byte → Option α} {eff : α → State → ItemEffect} {s : State}
  {c : Nat} {ps : List Byte}

/-- The current item with parameters that its kind allows has its effect (10 R158). -/
theorem runItem_of_parsed (item : ItemIs s c ps) (kind : is { code := BitVec.ofNat 8 c, params := ps } = true) {a : α}
    (parsed : parse ps = some a) : runItem is parse eff s = applyEffect s (eff a s) := by
  simp only [runItem, show currentItem s = _ from item, kind, parsed, if_true]

/-- The current item with parameters that its kind does not allow is refused (10 R160). -/
theorem runItem_of_malformed (item : ItemIs s c ps) (kind : is { code := BitVec.ofNat 8 c, params := ps } = true)
    (malformed : parse ps = none) : runItem is parse eff s = finishItem .badItem [] s := by
  simp only [runItem, show currentItem s = _ from item, kind, malformed, if_true]

end

theorem onStation_error {r : StationRef} {s : State} {st : Status} (k : StationIx → ItemEffect)
    (h : resolve s r = .error st) : onStation r s k = .refuse st := by
  simp only [onStation, h]

theorem onStation_ok {r : StationRef} {s : State} {i : StationIx} (k : StationIx → ItemEffect)
    (h : resolve s r = .ok i) : onStation r s k = k i := by
  simp only [onStation, h]

theorem resolve_byAddr_hit {s : State} {a : Addr} {i : StationIx} (h : lookup s.table a = some i) :
    resolve s (.byAddr a) = .ok i := by
  simp only [resolve, h]

theorem resolve_byAddr_miss {s : State} {a : Addr} (h : lookup s.table a = none) :
    resolve s (.byAddr a) = .error .noEntry := by
  simp only [resolve, h]

/-! ## What each item does -/

section

variable {s : State} {ps : List Byte}

theorem exec_identify (item : ItemIs s 0x01 []) : exec .identify s = .next (finishItem .done (identifyData s) s) :=
  congrArg Host.Outcome.next (runItem_of_parsed item (hasCode_ofNat (by decide) _) (a := ()) rfl)

theorem exec_readStatus (item : ItemIs s 0x02 []) : exec .readStatus s = .next (finishItem .done (statusData s) s) :=
  congrArg Host.Outcome.next (runItem_of_parsed item (hasCode_ofNat (by decide) _) (a := ()) rfl)

theorem exec_readZoneMatch (item : ItemIs s 0x09 ps) {i : Fin 64} (parsed : parseIndex 64 ps = some i) :
    exec .readZoneMatch s = .next (finishItem .done (zoneData (s.cls.zones.get i)) s) :=
  congrArg Host.Outcome.next (runItem_of_parsed item (hasCode_ofNat (by decide) _) parsed)

theorem exec_readZoneMatch_malformed (item : ItemIs s 0x09 ps) (malformed : parseIndex 64 ps = none) :
    exec .readZoneMatch s = .next (finishItem .badItem [] s) :=
  congrArg Host.Outcome.next (runItem_of_malformed item (hasCode_ofNat (by decide) _) malformed)

theorem exec_readProfile (item : ItemIs s 0x0B ps) {n : Fin 32} (parsed : parseIndex 32 ps = some n) :
    exec .readProfile s = .next (finishItem .done (profileData (s.profile n)) s) :=
  congrArg Host.Outcome.next (runItem_of_parsed item (hasCode_ofNat (by decide) _) parsed)

theorem exec_readProfile_malformed (item : ItemIs s 0x0B ps) (malformed : parseIndex 32 ps = none) :
    exec .readProfile s = .next (finishItem .badItem [] s) :=
  congrArg Host.Outcome.next (runItem_of_malformed item (hasCode_ofNat (by decide) _) malformed)

/-- READ_STATION runs on the entry that its reference resolves to. -/
theorem exec_readStation (item : ItemIs s 0x12 ps) {r : StationRef} (parsed : parseRef ps = some r) :
    exec .readStation s = .next (applyEffect s (onStation r s (fun i =>
      .done (refill i s) (stationData i ((refill i s).entry i)) false))) :=
  congrArg Host.Outcome.next (runItem_of_parsed item (hasCode_ofNat (by decide) _) parsed)

/-- FIND_STATION runs on the entry that its address resolves to. -/
theorem exec_findStation (item : ItemIs s 0x13 ps) {a : Addr} (parsed : parseFindStation ps = some a) :
    exec .findStation s = .next (applyEffect s (onStation (.byAddr a) s (fun i =>
      .done s (beBytes 2 i.val ++ beBytes 1 (entryCode (s.entry i).state)) false))) :=
  congrArg Host.Outcome.next (runItem_of_parsed item (hasCode_ofNat (by decide) _) parsed)

theorem exec_findStation_malformed (item : ItemIs s 0x13 ps) (malformed : parseFindStation ps = none) :
    exec .findStation s = .next (finishItem .badItem [] s) :=
  congrArg Host.Outcome.next (runItem_of_malformed item (hasCode_ofNat (by decide) _) malformed)

end

/-! ## Data -/

theorem partCode_of_ne_reset {x : PartState} (h : x ≠ .reset) : partCode x = if x = .service then 2 else 1 := by
  cases x with
  | reset => exact absurd rfl h
  | transit => rfl
  | service => rfl

/-- A number built from its bits, lowest first, is the sum of their weights. -/
theorem foldr_onOffCode_eq_sum {n : Nat} (f : Fin n → Bool) :
    (List.finRange n).foldr (fun p m => onOffCode (f p) + 2 * m) 0
      = ((List.finRange n).map (fun p => if f p then 2 ^ p.val else 0)).sum := by
  induction n with
  | zero => rfl
  | succ n ih =>
    have double : ∀ p : Fin n, (if f p.succ then 2 ^ p.succ.val else 0) = 2 * if f p.succ then 2 ^ p.val else 0 := by
      intro p; split <;> simp [Nat.pow_succ, Nat.mul_comm]
    rw [List.finRange_succ, List.foldr_cons, List.foldr_map, ih (fun p => f p.succ)]
    simp only [List.map_cons, List.map_map, List.sum_cons, Function.comp_def, double, List.sum_map_mul_left]
    rfl

theorem linkBits_eq_sum (s : State) :
    linkBits s = ((List.finRange 58).map (fun p => if (s.port p).link then 2 ^ p.val else 0)).sum :=
  foldr_onOffCode_eq_sum (fun p => (s.port p).link)

theorem freeRecords_eq_countP (s : State) :
    freeRecords s.mem = (List.finRange 1024).countP (fun r => decide ((s.record r).stage = .free)) := by
  rw [freeRecords, Tab.toList_eq_map_get, List.countP_map]
  rfl

/-- The grants of a profile in the order of their zones. -/
theorem profileData_eq (x : Profile) : profileData x = beBytes 2 x.rates.upRate ++ beBytes 2 x.rates.upBurst
    ++ beBytes 2 x.rates.downRate ++ beBytes 2 x.rates.downBurst
    ++ (List.finRange 16).flatMap (fun z => grantBytes (x.grants.get z)) := by
  rw [profileData, Tab.toList_eq_map_get, List.flatMap_map]

/-- A refill changes its entry and nothing else (04 R63). -/
theorem refill_eq (i : StationIx) (s : State) : refill i s = { s with table := { s.table with
    entries := s.table.entries.set i (refilled (s.profile (s.entry i).profile).rates s.time.tick (s.entry i)) } } := rfl

end Sys2Proof.Machine

section

open Sys2Proof Sys2Proof.Machine

/-- Settles O39: each item runs on its parameters as read, and its data is that of 12 R174 field by field. -/
theorem readsAnswered : Obligations.ReadsAnswered := by
  unfold Obligations.ReadsAnswered
  intro s ps running part
  have code : partCode s.line.part = part := partCode_of_ne_reset running
  refine ⟨fun item => ?identify, fun item => ?status, fun x hx item => ?zoneBad, fun x hx item => ?profileBad,
    fun a group item => ?findBad, fun i item parsed => ?zone, fun n item parsed => ?profile,
    fun r item parsed => ⟨fun st refused => ?stationRefused, fun i found => ?station⟩,
    fun a item parsed => ⟨fun miss => ?findMiss, fun i hit => ?findHit⟩⟩
  case identify => rw [exec_identify item, identifyData, code]
  case status =>
    rw [exec_readStatus item, statusData, code, linkBits_eq_sum, freeRecords_eq_countP]
    rfl
  case zoneBad => exact exec_readZoneMatch_malformed item (parseIndex_singleton_eq_none hx)
  case profileBad => exact exec_readProfile_malformed item (parseIndex_singleton_eq_none hx)
  case findBad => exact exec_findStation_malformed item (by rw [parseFindStation_addrBytes, if_pos group])
  case zone => exact exec_readZoneMatch item parsed
  case profile =>
    rw [exec_readProfile item parsed, profileData_eq]
    rfl
  case stationRefused => rw [exec_readStation item parsed, onStation_error _ refused]; rfl
  case station =>
    rw [exec_readStation item parsed, onStation_ok _ found, refill_eq, entry_set]
    rfl
  case findMiss => rw [exec_findStation item parsed, onStation_error _ (resolve_byAddr_miss miss)]; rfl
  case findHit => rw [exec_findStation item parsed, onStation_ok _ (resolve_byAddr_hit hit)]; rfl

end

/-! # The items that write settings

SET_TIMING, WRITE_ZONE_MATCH and WRITE_PROFILE: what each leaves of a value carried, and when its status is DONE_CLAMPED. -/

namespace Sys2Proof

variable {α : Type} {n : Nat}

/-! ## Several elements of a table written -/

/-- An element that no write names is kept. -/
theorem Tab.get_foldl_set_of_notMem {l : List (Fin n × α)} {i : Fin n} (h : i ∉ l.map (·.1)) (t : Tab α n) :
    Tab.get (l.foldl (fun t g => Tab.set t g.1 g.2) t) i = t.get i := by
  induction l generalizing t with
  | nil => rfl
  | cons g l ih =>
    obtain ⟨other, later⟩ := not_or.1 (mt List.mem_cons.2 h)
    rw [List.foldl_cons, ih later, Tab.get_set_ne t g.2 (Ne.symm other)]

/-- With no index named twice, every write stands at the end. -/
theorem Tab.get_foldl_set_of_mem {l : List (Fin n × α)} (distinct : (l.map (·.1)).Nodup) {g : Fin n × α} (h : g ∈ l)
    (t : Tab α n) : Tab.get (l.foldl (fun t g => Tab.set t g.1 g.2) t) g.1 = g.2 := by
  induction l generalizing t with
  | nil => cases h
  | cons x l ih =>
    obtain ⟨first, distinct⟩ := List.nodup_cons.1 distinct
    rw [List.foldl_cons]
    rcases List.mem_cons.1 h with rfl | later
    · rw [Tab.get_foldl_set_of_notMem first, Tab.get_set_self]
    · exact ih distinct later _

/-! ## Parameters of WRITE_PROFILE -/

/-- Whether a part is present or absent, what follows it is read by the same continuation. -/
theorem exists_of_ite_bind_eq_some {β γ : Type} {present : Prop} [Decidable present] {read absent : Option β}
    {next : β → Option γ} {y : γ} (h : (if present then read.bind next else absent.bind next) = some y) :
    ∃ x, next x = some y := by
  rw [← apply_ite (Option.bind · next), Option.bind_eq_some_iff] at h
  obtain ⟨x, -, read⟩ := h
  exact ⟨x, read⟩

/-- What is read of a WRITE_PROFILE passes the checks on its parts (03 R52). -/
theorem parseProfileWrite_valid {ps : List Byte} {w : ProfileWrite} (parsed : parseProfileWrite ps = some w) :
    w.valid = true := by
  simp only [parseProfileWrite, Option.bind_eq_bind, Option.bind_eq_some_iff] at parsed
  obtain ⟨_, -, _, -, _, -, parsed⟩ := parsed
  obtain ⟨-, parsed⟩ := Option.ite_none_left_eq_some.1 parsed
  obtain ⟨rates, parsed⟩ := exists_of_ite_bind_eq_some parsed
  obtain ⟨grants, parsed⟩ := exists_of_ite_bind_eq_some parsed
  obtain ⟨_, -, checked⟩ := Option.bind_eq_some_iff.1 parsed
  obtain ⟨valid, same⟩ := Option.ite_none_right_eq_some.1 checked
  exact Option.some.inj same ▸ valid

theorem ProfileWrite.nodup_of_valid {w : ProfileWrite} (h : w.valid = true) : (w.grants.map (·.1)).Nodup := by
  simp only [ProfileWrite.valid, noRepeat, Bool.and_eq_true, decide_eq_true_eq] at h
  exact h.2

end Sys2Proof

namespace Sys2Proof.Machine

open Sys2Proof

/-! ## Bringing into range -/

theorem written_eq_getD (lo hi : Nat) (o : Option Nat) (old : Nat) :
    written lo hi o old = (o.map (fun v => max lo (min hi v))).getD old := by
  cases o with
  | none => rfl
  | some v => rfl

theorem outside_eq_true_iff {lo hi v : Nat} : outside lo hi v = true ↔ v < lo ∨ hi < v := decide_eq_true_iff

theorem wasOutside_eq_true_iff {lo hi : Nat} {o : Option Nat} :
    wasOutside lo hi o = true ↔ ∃ v, o = some v ∧ (v < lo ∨ hi < v) := by
  cases o with
  | none => simp [wasOutside]
  | some v => simp [wasOutside, outside_eq_true_iff]

theorem ratesClamped_eq_true_iff {r : Rates} : ratesClamped r = true ↔ 4095 < r.upRate ∨ 4095 < r.downRate ∨
    r.upBurst < 1522 ∨ 65535 < r.upBurst ∨ r.downBurst < 1522 ∨ 65535 < r.downBurst := by
  simp only [ratesClamped, Bool.or_eq_true, outside_eq_true_iff, Config.rateMax, Config.burstMin, Config.burstMax]
  omega

theorem ratesWritten_eq (r : Rates) : ratesWritten r =
    { upRate := min 4095 r.upRate, upBurst := max 1522 (min 65535 r.upBurst)
      downRate := min 4095 r.downRate, downBurst := max 1522 (min 65535 r.downBurst) } := by
  simp only [ratesWritten, clampTo, Config.rateMax, Config.burstMin, Config.burstMax, Nat.zero_max]

/-- An item that was carried out says whether it brought something into range (10 R160). -/
theorem doneStatus_of_iff {clamped : Bool} {P : Prop} (h : clamped = true ↔ P) :
    (P → doneStatus clamped = .doneClamped) ∧ (¬ P → doneStatus clamped = .done) :=
  ⟨fun p => if_pos (h.2 p), fun np => if_neg (mt h.1 np)⟩

/-! ## What each item does -/

section

variable {s : State} {ps : List Byte}

theorem exec_setTiming (item : ItemIs s 0x07 ps) {w : TimingFields} (parsed : parseTiming ps = some w) :
    exec .setTiming s = .next (finishItem (doneStatus (timingClamped w)) [] (timingWritten w s)) :=
  congrArg Host.Outcome.next (runItem_of_parsed item (hasCode_ofNat (by decide) _) parsed)

theorem exec_writeZoneMatch (item : ItemIs s 0x08 ps) {i : Fin 64} {o : Option ZoneFields}
    (parsed : parseZoneWrite ps = some (i, o)) : exec .writeZoneMatch s =
      .next (finishItem .done [] { s with cls := { s.cls with zones := s.cls.zones.set i (zoneWritten o) } }) :=
  congrArg Host.Outcome.next (runItem_of_parsed item (hasCode_ofNat (by decide) _) parsed)

/-- A WRITE_PROFILE without rates part finishes with DONE. -/
theorem exec_writeProfile_grants (item : ItemIs s 0x0A ps) {w : ProfileWrite} (parsed : parseProfileWrite ps = some w)
    (absent : w.rates = none) : exec .writeProfile s = .next (finishItem .done [] { s with cls := { s.cls with
      profiles := s.cls.profiles.set w.profile (profileWritten w (s.profile w.profile)) } }) := by
  refine congrArg Host.Outcome.next ((runItem_of_parsed item (hasCode_ofNat (by decide) _) parsed).trans ?_)
  rw [absent]
  rfl

/-- The status of a WRITE_PROFILE with a rates part is that of its rates. -/
theorem exec_writeProfile_rates (item : ItemIs s 0x0A ps) {w : ProfileWrite} (parsed : parseProfileWrite ps = some w)
    {r : Rates} (carried : w.rates = some r) :
    exec .writeProfile s = .next (finishItem (doneStatus (ratesClamped r)) [] { s with cls := { s.cls with
      profiles := s.cls.profiles.set w.profile (profileWritten w (s.profile w.profile)) } }) := by
  refine congrArg Host.Outcome.next ((runItem_of_parsed item (hasCode_ofNat (by decide) _) parsed).trans ?_)
  rw [carried]
  rfl

end

theorem profileWritten_rates_none {w : ProfileWrite} (absent : w.rates = none) (x : Profile) :
    (profileWritten w x).rates = x.rates := by
  simp only [profileWritten, absent]

theorem profileWritten_rates_some {w : ProfileWrite} {r : Rates} (carried : w.rates = some r) (x : Profile) :
    (profileWritten w x).rates = ratesWritten r := by
  simp only [profileWritten, carried]

end Sys2Proof.Machine

section

open Sys2Proof Sys2Proof.Machine

/-- Settles O41: each item leaves the record its write function gives, and the status says whether a value lay outside its range. -/
theorem settingsWritten : Obligations.SettingsWritten := by
  unfold Obligations.SettingsWritten
  intro s ps out put
  refine ⟨fun w item parsed => ?timing, fun i o item parsed => ?zone, fun w item parsed => ?profile⟩
  case timing =>
    intro t clamped
    have state : timingWritten w s = t := by
      cases hd : w.divisor <;> simp only [timingWritten, written_eq_getD, hd, t, put, if_true, reduceCtorEq, if_false]
    have status : timingClamped w = true ↔ clamped := by
      simp only [timingClamped, Bool.or_eq_true, wasOutside_eq_true_iff, or_assoc, clamped, out]
    obtain ⟨ranged, kept⟩ := doneStatus_of_iff status
    rw [exec_setTiming item parsed, state]
    exact ⟨fun c => by rw [ranged c], fun c => by rw [kept c]⟩
  case zone =>
    rw [exec_writeZoneMatch item parsed]
    cases o with
    | none => rfl
    | some z => rfl
  case profile =>
    have distinct := ProfileWrite.nodup_of_valid (parseProfileWrite_valid parsed)
    refine ⟨profileWritten w (s.profile w.profile), fun g carried => Tab.get_foldl_set_of_mem distinct carried _,
      fun z absent => Tab.get_foldl_set_of_notMem absent _,
      fun absent => ⟨profileWritten_rates_none absent _, exec_writeProfile_grants item parsed absent⟩,
      fun r carried => ⟨(profileWritten_rates_some carried _).trans (ratesWritten_eq r), ?_⟩⟩
    obtain ⟨ranged, kept⟩ := doneStatus_of_iff (ratesClamped_eq_true_iff (r := r))
    rw [exec_writeProfile_rates item parsed carried]
    exact ⟨fun c => by rw [ranged c], fun c => by rw [kept c]⟩

end

/-! # The allowance items

SET_ALLOWANCE in its two forms and TOP_UP (04 R74 to R77): what their parameters read, what they leave of the entry named, and
their status. -/

namespace Sys2Proof

/-! ## Reading what the encoder wrote -/

/-- The address that a station reference carries (02 R29). -/
def StationRef.addr : StationRef → Addr
  | .indexed _ a => a
  | .byAddr a => a

/-- A field is read back from in front of what follows it. -/
theorem takeField_beBytes_append {k v : Nat} (h : v < 256 ^ k) (rest : List Byte) :
    takeField k (beBytes k v ++ rest) = some (v, rest) :=
  takeField_eq_some.2 ⟨h, rfl⟩

theorem takeField_addrBytes_append (a : Addr) (rest : List Byte) : takeField 6 (addrBytes a ++ rest) = some (a.toNat, rest) :=
  takeField_beBytes_append a.isLt rest

/-- A station reference is read back, but for one with a group address, which is refused (12 R173). -/
theorem takeRef_encodeRef_append (r : StationRef) (rest : List Byte) :
    takeRef (encodeRef r ++ rest) = if isGroup r.addr then none else some (r, rest) := by
  cases r with
  | indexed i a =>
    have index : takeField 2 (beBytes 2 i.val ++ (addrBytes a ++ rest)) = some (i.val, addrBytes a ++ rest) :=
      takeField_beBytes_append (by omega) _
    have inTable : i.val ≠ 0xFFFF := by omega
    cases group : isGroup a <;>
      simp [takeRef, encodeRef, index, takeField_addrBytes_append, inTable, ixOf_eq_some.2 rfl, StationRef.addr, group]
  | byAddr a =>
    have index : takeField 2 (beBytes 2 0xFFFF ++ (addrBytes a ++ rest)) = some (0xFFFF, addrBytes a ++ rest) :=
      takeField_beBytes_append (by decide) _
    cases group : isGroup a <;>
      simp [takeRef, encodeRef, index, takeField_addrBytes_append, StationRef.addr, group]

theorem parseRefValue_encodeRefValue (r : StationRef) {v : Nat} (h : v < 256 ^ 4) :
    parseRefValue (encodeRefValue r v) = if isGroup r.addr then none else some (r, v) := by
  have value : takeField 4 (beBytes 4 v) = some (v, []) := takeField_eq_some.2 ⟨h, (List.append_nil _).symm⟩
  rw [parseRefValue, encodeRefValue, takeRef_encodeRef_append]
  cases isGroup r.addr with
  | true => rfl
  | false => simp [value, atEnd]

/-- A TOP_UP is read as a reference and a value, and an amount of 0 is refused (04 R76). -/
theorem parseTopUp_eq_some {ps : List Byte} {r : StationRef} {v : Nat} :
    parseTopUp ps = some (r, v) ↔ parseRefValue ps = some (r, v) ∧ 0 < v := by
  simp [parseTopUp, Option.filter_eq_some_iff, Nat.pos_iff_ne_zero]

theorem parseTopUp_encodeRefValue_zero (r : StationRef) : parseTopUp (encodeRefValue r 0) = none := by
  rw [parseTopUp, parseRefValue_encodeRefValue r (by decide)]
  cases isGroup r.addr with
  | true => rfl
  | false => rfl

end Sys2Proof

namespace Sys2Proof.Machine

open Sys2Proof

/-! ## The allowance of an entry -/

theorem doneStatus_decide (P : Prop) [Decidable P] : doneStatus (decide P) = if P then .doneClamped else .done := by
  simp only [doneStatus, decide_eq_true_eq]

/-- A value makes an entry metered; 0 keeps the SPENT pending flag, any other value clears it (04 R74, R77). -/
theorem meteredWith_some (v : Nat) (e : StationEntry) : meteredWith (some v) e = { e with
    metered := true, allowance := min 16777215 v, spent := decide (v = 0)
    spentPending := if v = 0 then e.spentPending else false } := by
  by_cases zero : v = 0
  · simp [meteredWith, zero]
  · simp [meteredWith, zero, Config.allowanceMax]

/-- Bringing the amount into range before the sum does not show in the sum (04 R76). -/
theorem toppedUp_eq_min (a v : Nat) : toppedUp a v = min 16777215 (a + v) := by
  simp only [toppedUp, Config.allowanceMax]
  omega

/-- An amount out of range takes the sum out of range (04 R76). -/
theorem topUpClamped_eq_decide (a v : Nat) : topUpClamped a v = decide (16777215 < a + v) :=
  decide_eq_decide.2 (by simp only [Config.allowanceMax]; omega)

/-! ## What each item does -/

section

variable {s : State} {ps : List Byte} {r : StationRef} {v : Nat}

/-- SET_ALLOWANCE with a value runs on the entry that its reference resolves to. -/
theorem exec_setAllowance (item : ItemIs s 0x0F ps) (carries : ps.length ≠ 8) (parsed : parseRefValue ps = some (r, v)) :
    exec .setAllowance s = .next (applyEffect s (onStation r s (fun i =>
      .done (s.modEntry i (meteredWith (some v))) [] (decide (16777215 < v))))) :=
  congrArg Host.Outcome.next (runItem_of_parsed item
    (Bool.and_eq_true_iff.2 ⟨hasCode_ofNat (by decide) _, decide_eq_true carries⟩) parsed)

/-- SET_ALLOWANCE without a value runs on the entry that its reference resolves to. -/
theorem exec_setAllowanceUnmetered (item : ItemIs s 0x0F ps) (bare : ps.length = 8) (parsed : parseRef ps = some r) :
    exec .setAllowanceUnmetered s = .next (applyEffect s (onStation r s (fun i =>
      .done (s.modEntry i (meteredWith none)) [] false))) :=
  congrArg Host.Outcome.next (runItem_of_parsed item
    (Bool.and_eq_true_iff.2 ⟨hasCode_ofNat (by decide) _, decide_eq_true bare⟩) parsed)

theorem exec_topUp (item : ItemIs s 0x10 ps) (parsed : parseTopUp ps = some (r, v)) :
    exec .topUp s = .next (applyEffect s (topUpEffect (r, v) s)) :=
  congrArg Host.Outcome.next (runItem_of_parsed item (hasCode_ofNat (by decide) _) parsed)

theorem exec_topUp_malformed (item : ItemIs s 0x10 ps) (malformed : parseTopUp ps = none) :
    exec .topUp s = .next (finishItem .badItem [] s) :=
  congrArg Host.Outcome.next (runItem_of_malformed item (hasCode_ofNat (by decide) _) malformed)

/-- A top-up of an unmetered entry is refused (04 R76). -/
theorem topUpEffect_unmetered {i : StationIx} (found : resolve s r = .ok i) (unmetered : (s.entry i).metered = false) :
    topUpEffect (r, v) s = .refuse .wrongState := by
  simp only [topUpEffect, onStation_ok _ found, unmetered, Bool.false_eq_true, if_false]

/-- A top-up of a metered entry saturates, and the entry is no longer spent (04 R76, R77). -/
theorem topUpEffect_metered {i : StationIx} (found : resolve s r = .ok i) (metered : (s.entry i).metered = true) :
    topUpEffect (r, v) s = .done
      (s.modEntry i (fun e => { e with
        allowance := min 16777215 ((s.entry i).allowance + v), spent := false, spentPending := false }))
      (beBytes 3 (min 16777215 ((s.entry i).allowance + v))) (decide (16777215 < (s.entry i).allowance + v)) := by
  simp only [topUpEffect, onStation_ok _ found, metered, if_true, toppedUp_eq_min, topUpClamped_eq_decide]

end

end Sys2Proof.Machine

section

open Sys2Proof Sys2Proof.Machine

/-- Settles O45: each item runs on the entry that its reference resolves to, and the parser refuses an amount of 0 behind any
reference. -/
theorem allowanceItemsCarriedOut : Obligations.AllowanceItemsCarriedOut := by
  unfold Obligations.AllowanceItemsCarriedOut
  intro s ps r i found entry
  refine ⟨fun v item carries parsed => ?value, fun item bare parsed => ?noValue, fun item => ?amountZero,
    fun v item parsed => ⟨(parseTopUp_eq_some.1 parsed).2, fun unmetered => ?unmetered, fun metered => ?metered⟩⟩
  case value =>
    rw [exec_setAllowance item carries parsed, onStation_ok _ found, funext (meteredWith_some v), applyEffect, doneStatus_decide]
    rfl
  case noValue =>
    rw [exec_setAllowanceUnmetered item bare parsed, onStation_ok _ found]
    rfl
  case amountZero => exact exec_topUp_malformed item (parseTopUp_encodeRefValue_zero r)
  case unmetered =>
    rw [exec_topUp item parsed, topUpEffect_unmetered found unmetered]
    rfl
  case metered =>
    rw [exec_topUp item parsed, topUpEffect_metered found metered, applyEffect, doneStatus_decide]
    rfl

end

/-! # UNPIN

The item that lets a pinned station move again (05 R89). -/

namespace Sys2Proof.Machine

open Sys2Proof

/-- UNPIN runs on the entry that its reference resolves to. -/
theorem exec_unpin {s : State} {ps : List Byte} {r : StationRef} (item : ItemIs s 0x11 ps) (parsed : parseRef ps = some r) :
    exec .unpin s = .next (applyEffect s (onStation r s (fun i =>
      .done (s.modEntry i (fun e => { e with pinned := false, flapCount := 0, pinnedPending := none })) [] false))) :=
  congrArg Host.Outcome.next (runItem_of_parsed item (hasCode_ofNat (by decide) _) parsed)

/-- An answer leaves the station table, and the report queue in it, as they were (10 R158). -/
theorem finishItem_table (st : Status) (data : List Byte) (s : State) : (finishItem st data s).table = s.table := by
  simp only [finishItem_frame]

end Sys2Proof.Machine

section

open Sys2Proof Sys2Proof.Machine

/-- Settles O46: the item runs on the entry that its reference resolves to, and a refusal writes its answer alone. -/
theorem stationUnpinned : Obligations.StationUnpinned := by
  unfold Obligations.StationUnpinned
  intro s ps r item parsed
  refine ⟨fun i found => ?unpinned, fun st refused => ⟨?refused, finishItem_table st [] s⟩⟩
  case unpinned =>
    rw [exec_unpin item parsed, onStation_ok _ found]
    rfl
  case refused =>
    rw [exec_unpin item parsed, onStation_error _ refused]
    rfl

end

/-! # Group frames from the backbone

The queues a group frame is offered to, what one offer does, and what a list of offers adds up to (01 R18, 06 R105 to R107). -/

namespace Sys2Proof.Machine

open Sys2Proof

/-! ## The queues offered a copy -/

theorem floodQueue_normal : ∀ k : Fin 8, floodQueue (queuePort (.normal k)) = .normal k := by decide

theorem floodQueue_seat : ∀ k : Fin 48, floodQueue (queuePort (.seat k)) = .seat k := by decide

theorem queuePort_floodQueue : ∀ p : Port, isCarriage p = true → queuePort (floodQueue p) = p := by decide

theorem isCarriage_sidePort (b : Side) : isCarriage (sidePort b) = false := by cases b <;> rfl

/-- The flooded queues of the carriage ports are the queues at such a port other than the priority queues. -/
theorem exists_floodQueue_eq_iff {q : QueueId} {P : Port → Prop} :
    (∃ p, isCarriage p = true ∧ P p ∧ floodQueue p = q) ↔
      isCarriage (queuePort q) = true ∧ P (queuePort q) ∧ ∀ k, q ≠ .priority k := by
  constructor
  · rintro ⟨p, carriage, hp, rfl⟩
    rw [queuePort_floodQueue p carriage]
    refine ⟨carriage, hp, fun k => ?_⟩
    unfold floodQueue stationQueue
    split <;> simp
  · rintro ⟨carriage, hp, notPriority⟩
    refine ⟨queuePort q, carriage, hp, ?_⟩
    cases q with
    | through b => simp [queuePort, isCarriage_sidePort] at carriage
    | cls b c => simp [queuePort, isCarriage_sidePort] at carriage
    | priority k => exact absurd rfl (notPriority k)
    | normal k => exact floodQueue_normal k
    | seat k => exact floodQueue_seat k

theorem isCarriage_of_mem_filter {f : Port → Bool} {p : Port} (h : p ∈ carriagePorts.filter f) : isCarriage p = true :=
  (List.mem_filter.1 (List.mem_filter.1 h).1).2

/-- A queue of a list of flooded carriage ports is at a carriage port. -/
theorem isCarriage_of_mem_flooded {f : Port → Bool} {q : QueueId} (h : q ∈ (carriagePorts.filter f).map floodQueue) :
    isCarriage (queuePort q) = true := by
  obtain ⟨p, hp, rfl⟩ := List.mem_map.1 h
  have carriage := isCarriage_of_mem_filter hp
  rwa [queuePort_floodQueue p carriage]

/-- A group frame is offered to the other through queue and to the flooded queues of the open carriage ports (01 R18). -/
theorem mem_floodQueues {b : Side} {s : State} {q : QueueId} :
    q ∈ floodQueues b s ↔ q = .through (otherSide b) ∨ (isCarriage (queuePort q) = true ∧
      isUpOrHeld (s.port (queuePort q)).state = true ∧ (s.port (queuePort q)).flood = true ∧ ∀ k, q ≠ .priority k) := by
  have flooded := exists_floodQueue_eq_iff (q := q)
    (P := fun p => isUpOrHeld (s.port p).state = true ∧ (s.port p).flood = true)
  simp only [and_assoc] at flooded
  simp only [floodQueues, carriagePorts, List.mem_cons, List.mem_map, List.mem_filter, List.mem_finRange, true_and,
    Bool.and_eq_true, and_assoc, flooded]

/-- No queue is offered two copies: a carriage port has one flooded queue, and the through queue is at none of them. -/
theorem nodup_floodQueues (b : Side) (s : State) : (floodQueues b s).Nodup := by
  refine List.nodup_cons.2 ⟨fun h => ?_, List.Nodup.map_on ?_ (((List.nodup_finRange 58).filter _).filter _)⟩
  · have carriage := isCarriage_of_mem_flooded h
    simp [queuePort, isCarriage_sidePort] at carriage
  · intro p hp p' hp' same
    rw [← queuePort_floodQueue p (isCarriage_of_mem_filter hp), same, queuePort_floodQueue p' (isCarriage_of_mem_filter hp')]

/-! ## One offer -/

/-- A through queue whose port has no link; it answers a copy with THROUGH_DROPS (01 R18). -/
def lacksLink (q : QueueId) (s : State) : Bool :=
  match q with
  | .through b => !(s.port (sidePort b)).link
  | _ => false

theorem lacksLink_through {b : Side} {s : State} :
    lacksLink (.through b) s = true ↔ (s.port (sidePort b)).link = false := by simp [lacksLink]

theorem lacksLink_of_isCarriage {q : QueueId} (h : isCarriage (queuePort q) = true) (s : State) : lacksLink q s = false := by
  cases q with
  | through b => simp [queuePort, isCarriage_sidePort] at h
  | _ => rfl

/-- A queue without link admits nothing (06 R105). -/
theorem queueAdmits_of_lacksLink {q : QueueId} {s : State} (h : lacksLink q s = true) (cells : Nat) :
    queueAdmits q cells s = false := by
  cases q with
  | through b => simp [queueAdmits, portTakes, queuePort, isCarriage_sidePort, lacksLink_through.1 h]
  | _ => cases h

/-- Admission looks at the queue and at its port only (06 R105). -/
theorem queueAdmits_congr {q : QueueId} {s s' : State} (cells : Nat) (ports : s'.ports = s.ports)
    (queue : s'.queue q = s.queue q) : queueAdmits q cells s' = queueAdmits q cells s := by
  unfold queueAdmits portTakes State.port
  rw [ports, queue]

theorem lacksLink_congr (q : QueueId) {s s' : State} (ports : s'.ports = s.ports) : lacksLink q s' = lacksLink q s := by
  cases q <;> simp only [lacksLink, State.port, ports]

/-- What an offer of record `r` leaves in the queue it is made to. -/
def afterOffer (r : RecordIx) (q : QueueId) (s : State) : Queue :=
  if queueAdmits q (s.record r).cellCount s then
    { s.queue q with records := (s.queue q).records ++ [r], tally := (s.queue q).tally + (s.record r).cellCount }
  else if lacksLink q s then s.queue q
  else { s.queue q with drops := satIncrement (s.queue q).drops }

section

variable {r : RecordIx} {q : QueueId} {s : State}

theorem afterOffer_of_admits (admits : queueAdmits q (s.record r).cellCount s = true) : afterOffer r q s =
    { s.queue q with records := (s.queue q).records ++ [r], tally := (s.queue q).tally + (s.record r).cellCount } :=
  if_pos admits

theorem afterOffer_of_lacksLink (noLink : lacksLink q s = true) : afterOffer r q s = s.queue q := by
  rw [afterOffer, queueAdmits_of_lacksLink noLink, if_neg Bool.false_ne_true, if_pos noLink]

theorem afterOffer_of_refuses (refuses : queueAdmits q (s.record r).cellCount s = false) (link : lacksLink q s = false) :
    afterOffer r q s = { s.queue q with drops := satIncrement (s.queue q).drops } := by
  rw [afterOffer, refuses, link, if_neg Bool.false_ne_true, if_neg Bool.false_ne_true]

end

/-- A record that `n` more queues list (06 R105, R107). -/
def FrameRecord.listedBy (n : Nat) (x : FrameRecord) : FrameRecord :=
  { x with stage := if n = 0 then x.stage else .queued, holders := x.holders + n }

theorem FrameRecord.listedBy_zero : FrameRecord.listedBy 0 = fun x => x := rfl

theorem FrameRecord.listedBy_listedBy (m n : Nat) (x : FrameRecord) : (x.listedBy m).listedBy n = x.listedBy (m + n) := by
  by_cases hn : n = 0 <;> simp [FrameRecord.listedBy, hn, Nat.add_assoc]

/-- The three answers to an offer: the queue lists the record, the port is without link, or the queue refuses (01 R18). -/
theorem offerCopy_cases (r : RecordIx) (q : QueueId) (s : State) :
    (queueAdmits q (s.record r).cellCount s = true ∧ offerCopy r s q = enqueue q r s) ∨
    (queueAdmits q (s.record r).cellCount s = false ∧ lacksLink q s = true ∧ offerCopy r s q = countGlobal .throughDrops s) ∨
    (queueAdmits q (s.record r).cellCount s = false ∧ lacksLink q s = false ∧ offerCopy r s q = countDrop q s) := by
  cases admits : queueAdmits q (s.record r).cellCount s with
  | true => exact .inl ⟨rfl, by simp [offerCopy, admits]⟩
  | false =>
    refine .inr ?_
    cases q with
    | through b => cases link : (s.port (sidePort b)).link <;> simp [offerCopy, admits, lacksLink, link]
    | _ => simp [offerCopy, admits, lacksLink]

/-- A state with the queues, the frame memory and the global counters of another: all that offers change. -/
def State.withFramesOf (s t : State) : State := { s with queues := t.queues, mem := t.mem, globals := t.globals }

theorem withFramesOf_withFramesOf (s t u : State) : (s.withFramesOf t).withFramesOf u = s.withFramesOf u := rfl

theorem offerCopy_frame (r : RecordIx) (s : State) (q : QueueId) : offerCopy r s q = s.withFramesOf (offerCopy r s q) := by
  obtain ⟨-, eq⟩ | ⟨-, -, eq⟩ | ⟨-, -, eq⟩ := offerCopy_cases r q s <;> rw [eq] <;> rfl

theorem offerCopy_ports (r : RecordIx) (s : State) (q : QueueId) : (offerCopy r s q).ports = s.ports := by
  rw [offerCopy_frame]
  rfl

theorem offerCopy_queue (r : RecordIx) (s : State) (q q' : QueueId) :
    (offerCopy r s q).queue q' = if q = q' then afterOffer r q s else s.queue q' := by
  obtain ⟨admits, eq⟩ | ⟨-, noLink, eq⟩ | ⟨refuses, link, eq⟩ := offerCopy_cases r q s
  · rw [eq, enqueue, modRecord_queue, queue_modQueue, afterOffer_of_admits admits]
  · by_cases same : q = q'
    · subst same
      rw [eq, if_pos rfl, afterOffer_of_lacksLink noLink]
      rfl
    · rw [eq, if_neg same]
      rfl
  · rw [eq, countDrop, queue_modQueue, afterOffer_of_refuses refuses link]

theorem offerCopy_mem (r : RecordIx) (s : State) (q : QueueId) :
    (offerCopy r s q).mem = { s.mem with
      records := s.mem.records.modify r (FrameRecord.listedBy (if queueAdmits q (s.record r).cellCount s then 1 else 0)) } := by
  obtain ⟨admits, eq⟩ | ⟨refuses, -, eq⟩ | ⟨refuses, -, eq⟩ := offerCopy_cases r q s
  · rw [eq, if_pos admits]
    rfl
  all_goals simp [eq, refuses, FrameRecord.listedBy_zero]

theorem offerCopy_globals (r : RecordIx) (s : State) (q : QueueId) :
    (offerCopy r s q).globals =
      if lacksLink q s then s.globals.modify (globalCounterIx .throughDrops) satIncrement else s.globals := by
  obtain ⟨admits, eq⟩ | ⟨-, noLink, eq⟩ | ⟨-, link, eq⟩ := offerCopy_cases r q s
  · have link : lacksLink q s = false := by
      by_contra noLink
      rw [queueAdmits_of_lacksLink (Bool.eq_true_of_not_eq_false noLink)] at admits
      cases admits
    simp [eq, link]
  · rw [eq, if_pos noLink]
    rfl
  · simp [eq, link]

theorem offerCopy_cellCount (r : RecordIx) (s : State) (q : QueueId) :
    ((offerCopy r s q).record r).cellCount = (s.record r).cellCount := by
  simp [State.record, offerCopy_mem, FrameRecord.listedBy]

/-- An offer to one queue leaves the answer of another as it was. -/
theorem queueAdmits_offerCopy {q q' : QueueId} (other : q ≠ q') (r : RecordIx) (cells : Nat) (s : State) :
    queueAdmits q' cells (offerCopy r s q) = queueAdmits q' cells s :=
  queueAdmits_congr cells (offerCopy_ports r s q) (by rw [offerCopy_queue, if_neg other])

theorem afterOffer_offerCopy {q q' : QueueId} (other : q ≠ q') (r : RecordIx) (s : State) :
    afterOffer r q' (offerCopy r s q) = afterOffer r q' s := by
  simp only [afterOffer, queueAdmits_offerCopy other, lacksLink_congr q' (offerCopy_ports r s q), offerCopy_cellCount,
    offerCopy_queue, if_neg other]

/-! ## A list of offers -/

/-- The number of queues of a list that admit record `r` (06 R107). -/
def admitters (r : RecordIx) (l : List QueueId) (s : State) : Nat :=
  l.countP (fun q => queueAdmits q (s.record r).cellCount s)

theorem admitters_offerCopy {q : QueueId} {l : List QueueId} (fresh : q ∉ l) (r : RecordIx) (s : State) :
    admitters r l (offerCopy r s q) = admitters r l s :=
  List.countP_congr fun q' mem => by
    have other : q ≠ q' := fun same => fresh (same ▸ mem)
    rw [offerCopy_cellCount, queueAdmits_offerCopy other]

theorem foldl_offerCopy_frame (r : RecordIx) (l : List QueueId) (s : State) :
    l.foldl (offerCopy r) s = s.withFramesOf (l.foldl (offerCopy r) s) := by
  induction l generalizing s with
  | nil => rfl
  | cons q l ih =>
    rw [List.foldl_cons]
    calc l.foldl (offerCopy r) (offerCopy r s q)
      _ = (offerCopy r s q).withFramesOf (l.foldl (offerCopy r) (offerCopy r s q)) := ih (offerCopy r s q)
      _ = (s.withFramesOf (offerCopy r s q)).withFramesOf (l.foldl (offerCopy r) (offerCopy r s q)) :=
        congrArg (State.withFramesOf · _) (offerCopy_frame r s q)
      _ = s.withFramesOf (l.foldl (offerCopy r) (offerCopy r s q)) := withFramesOf_withFramesOf ..

/-- Each queue answers by itself: it is left as its own offer leaves it (01 R18). -/
theorem foldl_offerCopy_queue (r : RecordIx) {l : List QueueId} (nodup : l.Nodup) (s : State) (q : QueueId) :
    (l.foldl (offerCopy r) s).queue q = if q ∈ l then afterOffer r q s else s.queue q := by
  induction l generalizing s with
  | nil => rfl
  | cons q₀ l ih =>
    obtain ⟨fresh, nodup⟩ := List.nodup_cons.1 nodup
    rw [List.foldl_cons, ih nodup, offerCopy_queue]
    by_cases same : q₀ = q
    · subst same
      simp [fresh]
    · simp [same, Ne.symm same, afterOffer_offerCopy same]

/-- The record gains one holder for each queue that admits it, and the rest of the frame memory stays (06 R107). -/
theorem foldl_offerCopy_mem (r : RecordIx) {l : List QueueId} (nodup : l.Nodup) (s : State) :
    (l.foldl (offerCopy r) s).mem =
      { s.mem with records := s.mem.records.modify r (FrameRecord.listedBy (admitters r l s)) } := by
  induction l generalizing s with
  | nil => simp [admitters, FrameRecord.listedBy_zero]
  | cons q l ih =>
    obtain ⟨fresh, nodup⟩ := List.nodup_cons.1 nodup
    rw [List.foldl_cons, ih nodup, offerCopy_mem, admitters_offerCopy fresh]
    simp only [Tab.modify_modify, FrameRecord.listedBy_listedBy]
    rw [show admitters r (q :: l) s = admitters r l s + if queueAdmits q (s.record r).cellCount s then 1 else 0 from
      List.countP_cons, Nat.add_comm]

theorem foldl_offerCopy_globals (r : RecordIx) {l : List QueueId} {s : State} (linked : ∀ q ∈ l, lacksLink q s = false) :
    (l.foldl (offerCopy r) s).globals = s.globals := by
  induction l generalizing s with
  | nil => rfl
  | cons q l ih =>
    obtain ⟨head, tail⟩ := List.forall_mem_cons.1 linked
    have tail' : ∀ q' ∈ l, lacksLink q' (offerCopy r s q) = false := fun q' mem =>
      (lacksLink_congr q' (offerCopy_ports r s q)).trans (tail q' mem)
    rw [List.foldl_cons, ih tail', offerCopy_globals, head]
    rfl

/-! ## The decision -/

/-- The state after all the offers of a group frame. -/
def offeredAll (b : Side) (r : RecordIx) (s : State) : State := (floodQueues b s).foldl (offerCopy r) s

theorem offeredAll_mem (b : Side) (r : RecordIx) (s : State) : (offeredAll b r s).mem =
    { s.mem with records := s.mem.records.modify r (FrameRecord.listedBy (admitters r (floodQueues b s) s)) } :=
  foldl_offerCopy_mem r (nodup_floodQueues b s) s

theorem offeredAll_holders (b : Side) (r : RecordIx) (s : State) :
    ((offeredAll b r s).record r).holders = (s.record r).holders + admitters r (floodQueues b s) s := by
  simp [State.record, offeredAll_mem, FrameRecord.listedBy]

theorem replicate_of_admitters_ne_zero {b : Side} {r : RecordIx} {s : State}
    (admitted : admitters r (floodQueues b s) s ≠ 0) : replicate b r s = setClass r .through none (offeredAll b r s) :=
  have held : ((offeredAll b r s).record r).holders ≠ 0 := by
    rw [offeredAll_holders]
    omega
  if_neg held

theorem replicate_of_admitters_eq_zero {b : Side} {r : RecordIx} {s : State} (unheld : (s.record r).holders = 0)
    (refused : admitters r (floodQueues b s) s = 0) : replicate b r s = releaseRecord r (offeredAll b r s) :=
  have unlisted : ((offeredAll b r s).record r).holders = 0 := by rw [offeredAll_holders, unheld, refused]
  if_pos unlisted

/-- The end of the decision is about the record alone: queues and counters are as the offers left them. -/
theorem replicate_eq (b : Side) (r : RecordIx) (s : State) :
    replicate b r s = { offeredAll b r s with mem := (replicate b r s).mem } := by
  have ends : replicate b r s = if ((offeredAll b r s).record r).holders = 0 then releaseRecord r (offeredAll b r s)
    else setClass r .through none (offeredAll b r s) := rfl
  rw [ends]
  split <;> rfl

theorem replicate_queue (b : Side) (r : RecordIx) (s : State) (q : QueueId) :
    (replicate b r s).queue q = if q ∈ floodQueues b s then afterOffer r q s else s.queue q := by
  rw [replicate_eq]
  exact foldl_offerCopy_queue r (nodup_floodQueues b s) s q

/-- THROUGH_DROPS is the one global counter a group frame counts, at a through port without link (01 R18). -/
theorem replicate_globals (b : Side) (r : RecordIx) (s : State) :
    (replicate b r s).globals = if (s.port (sidePort (otherSide b))).link then s.globals
      else s.globals.modify (globalCounterIx .throughDrops) satIncrement := by
  rw [replicate_eq]
  show (List.foldl (offerCopy r) (offerCopy r s _) _).globals = _
  rw [foldl_offerCopy_globals r fun q mem => lacksLink_of_isCarriage (isCarriage_of_mem_flooded mem) _, offerCopy_globals]
  cases link : (s.port (sidePort (otherSide b))).link <;> simp [lacksLink, link]

theorem replicate_frame (b : Side) (r : RecordIx) (s : State) : replicate b r s = s.withFramesOf (replicate b r s) := by
  have offers : offeredAll b r s = s.withFramesOf (offeredAll b r s) := foldl_offerCopy_frame r (floodQueues b s) s
  rw [replicate_eq]
  conv_lhs => rw [offers]
  rfl

/-- A record that some queue admitted is of class THROUGH with that many holders (06 R107). -/
theorem replicate_mem_admitted {b : Side} {r : RecordIx} {s : State} (admitted : admitters r (floodQueues b s) s ≠ 0) :
    (replicate b r s).mem = { s.mem with records := s.mem.records.modify r (fun x =>
      { x.listedBy (admitters r (floodQueues b s) s) with cls := some .through, dest := none }) } := by
  rw [replicate_of_admitters_ne_zero admitted]
  simp only [setClass, State.modRecord, offeredAll_mem, Tab.modify_modify]

/-- A record that no queue admitted returns with its cells (06 R103, R107). -/
theorem replicate_mem_refused {b : Side} {r : RecordIx} {s : State} (unheld : (s.record r).holders = 0)
    (refused : admitters r (floodQueues b s) s = 0) : (replicate b r s).mem = (releaseRecord r s).mem := by
  have unchanged : (offeredAll b r s).mem = s.mem := by
    rw [offeredAll_mem, refused, FrameRecord.listedBy_zero, Tab.modify_id]
  rw [replicate_of_admitters_eq_zero unheld refused]
  simp only [releaseRecord, unchanged]

theorem replicate_record_of_ne {b : Side} {r r' : RecordIx} {s : State} (unheld : (s.record r).holders = 0) (other : r' ≠ r) :
    (replicate b r s).record r' = s.record r' := by
  rcases eq_or_ne (admitters r (floodQueues b s) s) 0 with refused | admitted
  · rw [State.record, replicate_mem_refused unheld refused]
    exact Tab.get_set_ne _ _ (Ne.symm other)
  · rw [State.record, replicate_mem_admitted admitted]
    exact Tab.get_modify_ne _ _ (Ne.symm other)

/-- Copies are listings: the frame's bytes stand once (06 R107). -/
theorem replicate_bytes {b : Side} {r : RecordIx} {s : State} (unheld : (s.record r).holders = 0) :
    (replicate b r s).mem.bytes = s.mem.bytes := by
  rcases eq_or_ne (admitters r (floodQueues b s) s) 0 with refused | admitted
  · rw [replicate_mem_refused unheld refused, releaseRecord_bytes]
  · rw [replicate_mem_admitted admitted]

end Sys2Proof.Machine

section

open Sys2Proof Sys2Proof.Machine

/-- Settles O22: the queues named are distinct, so each answers as to an offer of its own, and the record's holders count the
answers that admit. -/
theorem groupFrameReplicated : Obligations.GroupFrameReplicated := by
  unfold Obligations.GroupFrameReplicated
  intro s b r unheld cells offered n t
  have count : admitters r (floodQueues b s) s = n := rfl
  have queues : ∀ q, t.queue q = if offered q then afterOffer r q s else s.queue q := replicate_queue b r s
  have globals : t.globals = _ := replicate_globals b r s
  refine ⟨nodup_floodQueues b s, fun q => mem_floodQueues, fun admitted => ?held, fun refused => ?returned,
    fun q offer admits => ?listed,
    fun q offer refuses => ⟨fun ⟨through, noLink⟩ => ⟨?kept, ?throughDrop⟩, fun other => ?drop⟩,
    fun q outside => ?untouched, fun link => ?uncounted,
    fun r' other => replicate_record_of_ne unheld other, replicate_bytes unheld, replicate_frame b r s⟩
  case held =>
    have mem : t.mem = _ := replicate_mem_admitted (count ▸ admitted)
    simp [State.record, mem, FrameRecord.listedBy, count, admitted, show (s.mem.records.get r).holders = 0 from unheld]
  case returned =>
    have mem : t.mem = _ := replicate_mem_refused unheld (count ▸ refused)
    simp [State.record, mem, releaseRecord, FrameRecord.fresh]
  case listed => rw [queues, if_pos offer, afterOffer_of_admits admits]
  case kept =>
    have lacks : lacksLink q s = true := by rw [through, lacksLink_through, noLink]
    rw [queues, if_pos offer, afterOffer_of_lacksLink lacks]
  case throughDrop => rw [globals, noLink]; rfl
  case drop =>
    have link : lacksLink q s = false := by
      obtain rfl | ⟨carriage, -⟩ := mem_floodQueues.1 offer
      · simpa [lacksLink] using other
      · exact lacksLink_of_isCarriage carriage s
    rw [queues, if_pos offer, afterOffer_of_refuses refuses link]
  case untouched => rw [queues, if_neg outside]
  case uncounted => rw [globals, if_pos link]

end

/-! # TRANSMIT_CHOICE of a carriage port

The queue a carriage port picks from, and what the re-home check leaves when the head it looks at is dropped or moved: a port as
ready to choose as before, with one record less (05 R93 to R97, 07 R118 to R124). -/

namespace Sys2Proof.Machine

open Sys2Proof

/-! ## A port and its queues -/

/-- The port that a class names (00, Port map). -/
def PortClass.port : PortClass → Port
  | .backbone b => sidePort b
  | .radio k => queuePort (.normal k)
  | .seat k => queuePort (.seat k)

theorem port_portClass : ∀ p : Port, (portClass p).port = p := by decide

theorem portClass_radioPort : ∀ k : Fin 8, portClass (queuePort (.normal k)) = .radio k := by decide

theorem portClass_priorityPort (k : Fin 8) : portClass (queuePort (.priority k)) = .radio k := portClass_radioPort k

theorem portClass_seatPort : ∀ k : Fin 48, portClass (queuePort (.seat k)) = .seat k := by decide

theorem mem_portQueues_iff {p : Port} {q : QueueId} : q ∈ portQueues p ↔ queuePort q = p := by
  constructor
  · have named := port_portClass p
    unfold portQueues
    cases h : portClass p <;> rw [h] at named <;> subst named <;> intro mem <;>
      simp only [List.mem_cons, List.not_mem_nil, or_false] at mem
    case backbone b => obtain rfl | rfl | rfl | rfl | rfl := mem <;> rfl
    case radio k => obtain rfl | rfl := mem <;> rfl
    case seat k => rw [mem]; rfl
  · rintro rfl
    cases q with
    | through b => simp [portQueues, queuePort, portClass_side]
    | cls b c =>
      have some_class : c = 0 ∨ c = 1 ∨ c = 2 ∨ c = 3 := by omega
      simpa [portQueues, queuePort, portClass_side] using some_class
    | priority k => simp [portQueues, portClass_priorityPort]
    | normal k => simp [portQueues, portClass_radioPort]
    | seat k => simp [portQueues, portClass_seatPort]

theorem nodup_portQueues (p : Port) : (portQueues p).Nodup := by
  unfold portQueues
  split <;> simp

/-- A station's queue is at the port it is attached to (05 R96). -/
theorem queuePort_stationQueue (p : Port) (c : Fin 4) : queuePort (stationQueue p c) = p := by
  have named := port_portClass p
  unfold stationQueue
  cases h : portClass p <;> rw [h] at named
  case backbone b => exact named
  case radio k => simp only; split <;> exact named
  case seat k => exact named

/-- A queue that lists one record less lowers the number listed at its port by one, as long as the port's others stay. -/
theorem listedAt_succ {p : Port} {q : QueueId} {s t : State} (port : queuePort q = p)
    (less : (t.queue q).records.length + 1 = (s.queue q).records.length)
    (others : ∀ q', queuePort q' = p → q' ≠ q → (t.queue q').records = (s.queue q').records) :
    listedAt p t + 1 = listedAt p s := by
  have mem : q ∈ portQueues p := mem_portQueues_iff.2 port
  have rest : ((portQueues p).erase q).map (fun q' => (t.queue q').records.length) =
      ((portQueues p).erase q).map (fun q' => (s.queue q').records.length) := by
    refine List.map_congr_left fun q' h => ?_
    obtain ⟨other, h⟩ := (nodup_portQueues p).mem_erase_iff.1 h
    rw [others q' (mem_portQueues_iff.1 h) other]
  rw [listedAt, listedAt, ← List.sum_map_erase _ mem, ← List.sum_map_erase _ mem, rest]
  omega

/-! ## A record leaves the head of a queue -/

/-- What 07 R118 asks of the unit of a carriage port, as a value: the departure of a record keeps it. -/
def PortUnit.choiceView (u : PortUnit) : TxState × PortState × Option Nat := (u.tx, u.state, u.flush)

theorem choiceView_modPort {f : PortUnit → PortUnit} (keeps : ∀ u, (f u).choiceView = u.choiceView) (s : State) (p x : Port) :
    ((s.modPort p f).port x).choiceView = (s.port x).choiceView := by
  rw [port_modPort]
  split
  · next same => rw [keeps, same]
  · rfl

@[simp] theorem finishItem_port (st : Status) (data : List Byte) (s : State) (x : Port) :
    (finishItem st data s).port x = s.port x := by
  simp only [State.port, finishItem_frame]

@[simp] theorem releaseRecord_port (r : RecordIx) (s : State) (x : Port) : (releaseRecord r s).port x = s.port x := rfl

@[simp] theorem queueEmptied_choiceView (q : QueueId) (s : State) (x : Port) :
    ((queueEmptied q s).port x).choiceView = (s.port x).choiceView := by
  unfold queueEmptied
  split
  · exact choiceView_modPort (by intro u; rfl) s _ x
  · split
    · rw [modSide_port]
    · rfl

@[simp] theorem unlist_choiceView (q : QueueId) (r : RecordIx) (s : State) (x : Port) :
    ((unlist q r s).port x).choiceView = (s.port x).choiceView := by
  unfold unlist
  simp only
  split
  · rw [queueEmptied_choiceView, modQueue_port]
  · rw [modQueue_port]

@[simp] theorem freeEntry_choiceView (i : StationIx) (s : State) (x : Port) :
    ((freeEntry i s).port x).choiceView = (s.port x).choiceView := by
  rw [freeEntry, modEntry_port]
  cases h : (s.entry i).attachment with
  | none => rw [detachStation_none h]
  | some p =>
    rw [detachStation_some h, modEntry_port, modSeatCount]
    split
    · exact choiceView_modPort (by intro u; rfl) s p x
    · rfl

@[simp] theorem departStation_choiceView (d : Option StationIx) (s : State) (x : Port) :
    ((departStation d s).port x).choiceView = (s.port x).choiceView := by
  unfold departStation freeReleased
  split
  · rfl
  · split
    · rfl
    · split
      · rw [finishItem_port, freeEntry_choiceView, modEntry_port]
      · rfl

@[simp] theorem leaveQueue_choiceView (q : QueueId) (r : RecordIx) (s : State) (x : Port) :
    ((leaveQueue q r s).port x).choiceView = (s.port x).choiceView := by
  unfold leaveQueue
  simp only
  split
  · rw [releaseRecord_port, departStation_choiceView, modRecord_port, unlist_choiceView]
  · rw [departStation_choiceView, modRecord_port, unlist_choiceView]

@[simp] theorem rehomeMove_choiceView (q q' : QueueId) (r : RecordIx) (s : State) (x : Port) :
    ((rehomeMove q q' r s).port x).choiceView = (s.port x).choiceView :=
  unlist_choiceView q r s x

@[simp] theorem queueEmptied_queue (q x : QueueId) (s : State) : (queueEmptied q s).queue x = s.queue x := by
  simp only [State.queue, queueEmptied_frame]

theorem unlist_queue (q q' : QueueId) (r : RecordIx) (s : State) : (unlist q r s).queue q' =
    if q = q' then { s.queue q with
      records := (s.queue q).records.erase r, tally := (s.queue q).tally - (s.record r).cellCount }
    else s.queue q' := by
  unfold unlist
  simp only
  split
  · rw [queueEmptied_queue]
    exact queue_modQueue s q q' _
  · exact queue_modQueue s q q' _

theorem leaveQueue_queue (q q' : QueueId) (r : RecordIx) (s : State) :
    (leaveQueue q r s).queue q' = (unlist q r s).queue q' := by
  unfold leaveQueue State.queue
  simp only
  split <;> simp

/-- Outside the queue that the record joins, a move is a departure (05 R96). -/
theorem rehomeMove_queue_of_ne {q q' x : QueueId} (other : q' ≠ x) (r : RecordIx) (s : State) :
    (rehomeMove q q' r s).queue x = (unlist q r s).queue x :=
  queue_modQueue_ne _ _ other

/-! ## The re-home check -/

/-- What the re-home check can do with a record it does not let pass (05 R93 to R97): drop it, with something counted that is neither
in a port unit nor in a queue, or move it to a queue of another port. -/
theorem rehomeCheck_gone_cases {q : QueueId} {r : RecordIx} {s t : State} (gone : rehomeCheck q r s = .gone t) :
    (∃ u, (∀ x, u.port x = s.port x) ∧ (∀ x, u.queue x = s.queue x) ∧ t = leaveQueue q r u) ∨
    (∃ q', queuePort q' ≠ queuePort q ∧ t = rehomeMove q q' r s) := by
  unfold rehomeCheck at gone
  split at gone
  · cases gone
  · next i _ =>
    split at gone
    · cases gone
      exact .inl ⟨countStation i .refused s, fun _ => rfl, fun _ => rfl, rfl⟩
    · split at gone
      · cases gone
        exact .inl ⟨countGlobal .unreachable s, fun _ => rfl, fun _ => rfl, rfl⟩
      · next p _ =>
        split at gone
        · cases gone
        · next elsewhere =>
          simp only at gone
          split at gone <;> cases gone
          · exact .inr ⟨_, by rwa [queuePort_stationQueue], rfl⟩
          · exact .inl ⟨countGlobal .staleDrops s, fun _ => rfl, fun _ => rfl, rfl⟩

theorem rehomeCheck_gone_choiceView {q : QueueId} {r : RecordIx} {s t : State} (gone : rehomeCheck q r s = .gone t) (x : Port) :
    (t.port x).choiceView = (s.port x).choiceView := by
  obtain ⟨u, ports, -, rfl⟩ | ⟨q', -, rfl⟩ := rehomeCheck_gone_cases gone
  · rw [leaveQueue_choiceView, ports]
  · exact rehomeMove_choiceView q q' r s x

/-- Dropped or moved, the record leaves its queue, and the other queues of that port stay. -/
theorem rehomeCheck_gone_records {q x : QueueId} {r : RecordIx} {s t : State} (gone : rehomeCheck q r s = .gone t)
    (port : queuePort x = queuePort q) :
    (t.queue x).records = if q = x then (s.queue q).records.erase r else (s.queue x).records := by
  have unlisted : ∀ u : State, (∀ y, u.queue y = s.queue y) →
      ((unlist q r u).queue x).records = if q = x then (s.queue q).records.erase r else (s.queue x).records := by
    intro u queues
    rw [unlist_queue, queues, queues]
    split <;> rfl
  obtain ⟨u, -, queues, rfl⟩ | ⟨q', elsewhere, rfl⟩ := rehomeCheck_gone_cases gone
  · rw [leaveQueue_queue, unlisted u queues]
  · have other : q' ≠ x := fun same => elsewhere (by rw [same, port])
    rw [rehomeMove_queue_of_ne other, unlisted s fun _ => rfl]

/-- One record less is listed at the port of the queue. -/
theorem rehomeCheck_gone_listedAt {q : QueueId} {r : RecordIx} {l : List RecordIx} {s t : State}
    (head : (s.queue q).records = r :: l) (gone : rehomeCheck q r s = .gone t) :
    listedAt (queuePort q) t + 1 = listedAt (queuePort q) s := by
  refine listedAt_succ rfl ?_ fun q' port other => ?_
  · rw [rehomeCheck_gone_records gone rfl, if_pos rfl, head, List.erase_cons_head, List.length_cons]
  · rw [rehomeCheck_gone_records gone port, if_neg (Ne.symm other)]

/-! ## The choice -/

theorem exec_transmitChoice (p : Port) (s : State) : exec (.transmitChoice p) s = .next (choose p s) := rfl

theorem portSide_of_isCarriage {p : Port} (carriage : isCarriage p = true) : portSide p = none := by
  unfold portSide
  split
  · next b h => exact absurd h (portClass_carriage p carriage b)
  · rfl

theorem choose_carriage {p : Port} (carriage : isCarriage p = true) (s : State) :
    choose p s = if readyToChoose p s then carriageChoice p (listedAt p s + 1) s else s := by
  rw [choose, portSide_of_isCarriage carriage]

theorem readyToChoose_carriage {p : Port} (carriage : isCarriage p = true) {s : State} :
    readyToChoose p s = true ↔ (s.port p).tx = .idle ∧ isUpOrHeld (s.port p).state = true ∧ (s.port p).flush = none := by
  simp [readyToChoose, mayTransmit, carriage, and_assoc]

/-- Whether a carriage port is ready depends on its transmit state, its state and its flush walk alone (07 R118). -/
theorem readyToChoose_congr {p : Port} (carriage : isCarriage p = true) {s t : State}
    (view : (t.port p).choiceView = (s.port p).choiceView) : readyToChoose p t = readyToChoose p s := by
  obtain ⟨tx, state, flush⟩ : _ ∧ _ ∧ _ := by simpa [PortUnit.choiceView] using view
  rw [Bool.eq_iff_iff, readyToChoose_carriage carriage, readyToChoose_carriage carriage, tx, state, flush]

theorem queueEmpty_iff {q : QueueId} {s : State} : queueEmpty q s = true ↔ (s.queue q).records = [] := List.isEmpty_iff

/-- A carriage port picks from a queue of its own that lists a record (07 R122, R123). -/
theorem queuePort_of_pickQueue {p : Port} {q : QueueId} {s : State} (pick : pickQueue p s = some q) :
    queuePort q = p ∧ (s.queue q).records ≠ [] := by
  have named := port_portClass p
  simp only [ne_eq, ← queueEmpty_iff]
  unfold pickQueue at pick
  cases h : portClass p <;> rw [h] at named pick <;> simp only at pick
  case backbone b => cases pick
  case radio k =>
    split at pick
    · split at pick <;> cases pick
      exact ⟨named, ‹_›⟩
    · split at pick
      · cases pick
        exact ⟨named, ‹_›⟩
      · split at pick <;> cases pick <;> exact ⟨named, ‹_›⟩
  case seat k =>
    split at pick <;> cases pick
    exact ⟨named, ‹_›⟩

/-- The picked queue: of a radio port's two, the priority queue while the normal one is empty or the guard count is below 16, the
normal queue while the priority one is empty or the guard count has reached 16 (07 R122, R123). -/
theorem pickQueue_eq_some {q : QueueId} {s : State} (carriage : isCarriage (queuePort q) = true)
    (lists : (s.queue q).records ≠ [])
    (priority : ∀ k, q = .priority k → (s.queue (.normal k)).records = [] ∨ (s.port (queuePort q)).guardCount < 16)
    (normal : ∀ k, q = .normal k → (s.queue (.priority k)).records = [] ∨ 16 ≤ (s.port (queuePort q)).guardCount) :
    pickQueue (queuePort q) s = some q := by
  simp only [ne_eq, ← queueEmpty_iff] at lists priority normal
  unfold pickQueue
  cases q with
  | through b => simp [queuePort, isCarriage_sidePort] at carriage
  | cls b c => simp [queuePort, isCarriage_sidePort] at carriage
  | priority k =>
    simp only [portClass_priorityPort, if_neg lists]
    obtain empty | below := priority k rfl
    · rw [if_pos empty]
    · rw [if_pos (show _ < Config.guardMax from below), ite_self]
  | normal k =>
    simp only [portClass_radioPort, if_neg lists]
    obtain empty | reached := normal k rfl
    · rw [if_pos empty]
    · rw [if_neg (show ¬ _ < Config.guardMax from Nat.not_lt.2 reached), ite_self]
  | seat k =>
    rw [portClass_seatPort]
    exact if_neg lists

section

variable {p : Port} {n : Nat} {s : State}

theorem carriageChoice_of_pickQueue_none (pick : pickQueue p s = none) : carriageChoice p (n + 1) s = s := by
  simp only [carriageChoice, pick]

variable {q : QueueId} {r : RecordIx} {l : List RecordIx}

theorem carriageChoice_of_send (pick : pickQueue p s = some q) (head : (s.queue q).records = r :: l)
    (send : rehomeCheck q r s = .send) : carriageChoice p (n + 1) s = startRecord p q r s := by
  simp only [carriageChoice, pick, head, send]

theorem carriageChoice_of_gone (pick : pickQueue p s = some q) (head : (s.queue q).records = r :: l) {t : State}
    (gone : rehomeCheck q r s = .gone t) : carriageChoice p (n + 1) s = carriageChoice p n t := by
  simp only [carriageChoice, pick, head, gone]

end

theorem choose_of_not_ready {p : Port} {s : State} (unready : ¬ readyToChoose p s = true) : choose p s = s := if_neg unready

theorem choose_of_no_records {p : Port} (carriage : isCarriage p = true) {s : State}
    (empty : ∀ q, queuePort q = p → (s.queue q).records = []) : choose p s = s := by
  have pick : pickQueue p s = none := by
    cases h : pickQueue p s with
    | none => rfl
    | some q =>
      obtain ⟨port, lists⟩ := queuePort_of_pickQueue h
      exact absurd (empty q port) lists
  rw [choose_carriage carriage, carriageChoice_of_pickQueue_none pick, ite_self]

/-- The choice made again: the state that the check leaves is ready as before, and the records still listed are as many as can still go
(07 R123). -/
theorem choose_of_gone {q : QueueId} {r : RecordIx} {l : List RecordIx} {s t : State}
    (carriage : isCarriage (queuePort q) = true) (pick : pickQueue (queuePort q) s = some q)
    (head : (s.queue q).records = r :: l) (gone : rehomeCheck q r s = .gone t) :
    choose (queuePort q) s = if readyToChoose (queuePort q) s then choose (queuePort q) t else s := by
  have ready : readyToChoose (queuePort q) t = readyToChoose (queuePort q) s :=
    readyToChoose_congr carriage (rehomeCheck_gone_choiceView gone _)
  rw [choose_carriage carriage, choose_carriage carriage, ready, carriageChoice_of_gone pick head gone,
    rehomeCheck_gone_listedAt head gone]
  split <;> rfl

/-- The transmission of a record starts: the port's unit alone changes (07 R119, R124). -/
theorem startRecord_eq (p : Port) (q : QueueId) (r : RecordIx) (s : State) : startRecord p q r s = { s with
    ports := s.ports.modify p (fun u => { u with
      tx := .sending r q 0
      guardCount := guardAfter q s u.guardCount }) } := rfl

theorem guardAfter_priority (k : Fin 8) (s : State) (g : Nat) :
    guardAfter (.priority k) s g = if (s.queue (.normal k)).records = [] then g else g + 1 := by
  simp only [guardAfter, queueEmpty_iff]

end Sys2Proof.Machine

section

open Sys2Proof Sys2Proof.Machine

/-- Settles O25: the picked queue is the one the guard count selects, and each departure that the re-home check makes leaves the port
as ready as it was, with one record less to choose from. -/
theorem carriageChoiceTaken : Obligations.CarriageChoiceTaken := by
  unfold Obligations.CarriageChoiceTaken
  intro s p carriage ready
  have ready_iff : readyToChoose p s = true ↔ ready := readyToChoose_carriage carriage
  simp only [exec_transmitChoice]
  refine ⟨fun unready => ?unready, fun empty => ?empty, fun isReady q r l port head priority normal => ?picked⟩
  case unready => rw [choose_of_not_ready (fun h => unready (ready_iff.1 h))]
  case empty => rw [choose_of_no_records carriage empty]
  case picked =>
    subst port
    have pick := pickQueue_eq_some carriage (by rw [head]; exact List.cons_ne_nil r l) priority normal
    refine ⟨fun send => ?sent, fun t gone => ?again⟩
    case sent =>
      rw [choose_carriage carriage, if_pos (ready_iff.2 isReady), carriageChoice_of_send pick head send, startRecord_eq]
      cases q with
      | priority k => simp only [guardAfter_priority]
      | _ => rfl
    case again => rw [choose_of_gone carriage pick head gone, if_pos (ready_iff.2 isReady)]

end

/-! # The position of a strap code

The valid codes are the six-bit codes with three lines high, in ascending order, so the place of a code in the model's
table is the count of 09 R148. -/

namespace Sys2Proof.Machine

open Sys2Proof

/-- The number of the six strap lines that are high in a code (09 R148). -/
def linesHigh (code : BitVec 6) : Nat := (List.finRange 6).countP (fun k => code.getLsbD k.val)

/-- In an ascending list the place of an element, from 1, is the number of elements up to it. -/
theorem idxOf_add_one_eq_countP_le {α : Type} [LinearOrder α] {l : List α} (sorted : l.Pairwise (· < ·)) {x : α} (mem : x ∈ l) :
    l.idxOf x + 1 = l.countP (fun y => decide (y ≤ x)) := by
  induction l with
  | nil => cases mem
  | cons z l ih =>
    obtain ⟨least, sorted⟩ := List.pairwise_cons.1 sorted
    rcases List.mem_cons.1 mem with rfl | mem
    · have none_below : l.countP (fun y => decide (y ≤ x)) = 0 := by
        simpa [List.countP_eq_zero] using least
      simp [none_below]
    · have below : z < x := least x mem
      rw [List.idxOf_cons_ne l below.ne, List.countP_cons_of_pos (by simpa using below.le), ← ih sorted mem]

/-- The table lists the codes with three lines high in ascending value (09 R148). -/
theorem strapCodes_eq_filter :
    strapCodes = (List.range 64).filter (fun n => decide (linesHigh (BitVec.ofNat 6 n) = 3)) := by decide

theorem strapCodes_sorted : strapCodes.Pairwise (· < ·) := by
  rw [strapCodes_eq_filter]
  exact List.pairwise_lt_range.filter _

theorem toNat_mem_strapCodes {code : BitVec 6} : code.toNat ∈ strapCodes ↔ linesHigh code = 3 := by
  have inRange : code.toNat < 64 := code.isLt
  simp [strapCodes_eq_filter, inRange]

theorem strapPosition_of_not_mem {code : BitVec 6} (invalid : code.toNat ∉ strapCodes) : strapPosition code = 0 :=
  if_neg invalid

theorem strapPosition_of_mem {code : BitVec 6} (valid : code.toNat ∈ strapCodes) :
    (strapPosition code).val = strapCodes.idxOf code.toNat + 1 := by
  have place : strapCodes.idxOf code.toNat < 20 := List.idxOf_lt_length_of_mem valid
  rw [strapPosition, if_pos valid, Fin.val_ofNat, Nat.mod_eq_of_lt (by omega)]

/-- The position of a valid code is the number of valid codes up to it. -/
theorem strapPosition_eq_countP {code : BitVec 6} (three : linesHigh code = 3) : (strapPosition code).val =
    (List.range 64).countP (fun n => decide (n ≤ code.toNat) && decide (linesHigh (BitVec.ofNat 6 n) = 3)) := by
  have valid : code.toNat ∈ strapCodes := toNat_mem_strapCodes.2 three
  calc (strapPosition code).val
      = strapCodes.idxOf code.toNat + 1 := strapPosition_of_mem valid
    _ = strapCodes.countP (fun n => decide (n ≤ code.toNat)) := idxOf_add_one_eq_countP_le strapCodes_sorted valid
    _ = _ := by rw [strapCodes_eq_filter, List.countP_filter]

end Sys2Proof.Machine

section

open Sys2Proof Sys2Proof.Machine

/-- Settles O5: the table is read off the model's own, and a code's place in that ascending table is the number of valid codes up to it. -/
theorem strapCodeGivesPosition : Obligations.StrapCodeGivesPosition := by
  unfold Obligations.StrapCodeGivesPosition
  refine ⟨⟨by decide, fun code absent => ?table⟩, fun code => ?count⟩
  case table =>
    refine strapPosition_of_not_mem fun valid => absent ?_
    rw [← show BitVec.ofNat 6 code.toNat = code by simp]
    exact List.mem_map_of_mem (f := BitVec.ofNat 6) valid
  case count =>
    change (strapPosition code).val = if linesHigh code = 3 then _ else 0
    split
    next three => exact strapPosition_eq_countP three
    next invalid => rw [strapPosition_of_not_mem (mt toNat_mem_strapCodes.1 invalid), Fin.val_zero]

end

/-! # A request frame begins

The items that stand in a request frame, and what MGMT_FRAME_BEGIN makes of the oldest waiting one (10 R157, 12 R173). -/

namespace Sys2Proof

/-- A request item in bytes: its code, its length, its parameters (12 R173). -/
def RawItem.bytes (it : RawItem) : List Byte := it.code :: BitVec.ofNat 8 it.params.length :: it.params

theorem RawItem.bytes_eq_fields (it : RawItem) :
    it.bytes = beBytes 1 it.code.toNat ++ beBytes 1 it.params.length ++ it.params := by
  simp [RawItem.bytes, beBytes]

/-- An item is read exactly when its bytes stand in front, of as many parameters as the length byte can count. -/
theorem takeItem_eq_some {bs rest : List Byte} {it : RawItem} :
    takeItem bs = some (it, rest) ↔ it.params.length ≤ 255 ∧ bs = it.bytes ++ rest := by
  simp only [takeItem, Option.bind_eq_bind, Option.bind_eq_some_iff]
  constructor
  · rintro ⟨⟨code, afterCode⟩, readCode, ⟨len, afterLen⟩, readLen, inside⟩
    obtain ⟨codeByte, rfl⟩ := takeField_eq_some.1 readCode
    obtain ⟨lenByte, rfl⟩ := takeField_eq_some.1 readLen
    simp only [Option.pure_def, Option.ite_none_left_eq_some, Nat.not_lt, Option.some.injEq, Prod.mk.injEq] at inside
    obtain ⟨enough, rfl, rfl⟩ := inside
    have count : (afterLen.take len).length = len := List.length_take_of_le enough
    have code_lt : code % 256 = code := Nat.mod_eq_of_lt codeByte
    refine ⟨by rw [count]; omega, ?_⟩
    rw [RawItem.bytes_eq_fields, count, BitVec.toNat_ofNat, code_lt]
    simp
  · rintro ⟨short, rfl⟩
    refine ⟨(it.code.toNat, beBytes 1 it.params.length ++ (it.params ++ rest)),
      takeField_eq_some.2 ⟨it.code.isLt, by simp [RawItem.bytes_eq_fields]⟩,
      (it.params.length, it.params ++ rest), takeField_eq_some.2 ⟨by omega, rfl⟩, ?_⟩
    simp

/-- The items of a request are read exactly when they stand one after another, whatever follows them. -/
theorem splitItems_eq_some {n : Nat} {bs : List Byte} {items : List RawItem} :
    splitItems n bs = some items ↔ ∃ after, items.length = n ∧ (∀ it ∈ items, it.params.length ≤ 255) ∧
      bs = items.flatMap RawItem.bytes ++ after := by
  simp only [splitItems, Option.map_eq_some_iff, Prod.exists, takeMany_eq_some fun _ _ _ => takeItem_eq_some]
  constructor
  · rintro ⟨_, after, read, rfl⟩; exact ⟨after, read⟩
  · rintro ⟨after, read⟩; exact ⟨items, after, read, rfl⟩

end Sys2Proof

namespace Sys2Proof.Machine

open Sys2Proof

/-- A request frame with a good header: these items in it, and these bytes between them and the check sequence (10 R157). -/
def GoodRequest (bytes : List Byte) (items : List RawItem) (after : List Byte) : Prop :=
  (readMgmtHeader bytes).version = 1 ∧ 1 ≤ (readMgmtHeader bytes).count ∧ (readMgmtHeader bytes).count ≤ 8 ∧
    items.length = (readMgmtHeader bytes).count ∧ (∀ it ∈ items, it.params.length ≤ 255) ∧
    (bytes.take (bytes.length - 4)).drop ((readHeader bytes).body + 13) = items.flatMap RawItem.bytes ++ after

theorem goodItems_eq_some {bytes : List Byte} {items : List RawItem} :
    goodItems bytes = some items ↔ ∃ after, GoodRequest bytes items after := by
  simp only [goodItems, Option.ite_none_right_eq_some, splitItems_eq_some, GoodRequest, exists_and_left, and_assoc]

theorem goodItems_eq_none {bytes : List Byte} (bad : ∀ items after, ¬ GoodRequest bytes items after) : goodItems bytes = none :=
  Option.eq_none_iff_forall_ne_some.2 fun items good =>
    have ⟨after, found⟩ := goodItems_eq_some.1 good
    bad items after found

theorem beginExec_good {s : State} {f : MgmtFrame} {items : List RawItem} (good : goodItems f.bytes = some items) :
    beginExec s f = { frame := f, items := items, pointer := 0, answers := [], phase := .ready } := by
  simp only [beginExec, good]

theorem beginExec_bad {s : State} {f : MgmtFrame} (bad : goodItems f.bytes = none) :
    beginExec s f = { frame := f, items := [], pointer := 0, answers := [],
                      phase := .response (buildResponse s.line f true []) } := by
  simp only [beginExec, bad]

/-- No frame begins in RESET, while another executes, or while a restart is to come (09 R154, 10 R157). -/
theorem exec_mgmtFrameBegin_idle {s : State}
    (idle : s.mgmt.input = [] ∨ s.mgmt.exec ≠ none ∨ s.mgmt.restart ≠ .none ∨ s.line.part = .reset) :
    exec .mgmtFrameBegin s = .next s := by
  refine congrArg Host.Outcome.next (?_ : beginFrame s = s)
  unfold beginFrame
  split
  next => rfl
  next f rest waits =>
    refine if_neg ?_
    rintro ⟨run, free, steady⟩
    rcases idle with none_waits | executing | restarting | reset
    · rw [none_waits] at waits; cases waits
    · exact executing free
    · exact restarting steady
    · exact of_decide_eq_true run reset

/-- The oldest waiting frame leaves the input queue and becomes the frame in execution. -/
theorem exec_mgmtFrameBegin_waiting {s : State} {f : MgmtFrame} {rest : List MgmtFrame} (waits : s.mgmt.input = f :: rest)
    (free : s.mgmt.exec = none) (steady : s.mgmt.restart = .none) (run : s.line.part ≠ .reset) :
    exec .mgmtFrameBegin s = .next { s with mgmt := { s.mgmt with input := rest, exec := some (beginExec s f) } } := by
  refine congrArg Host.Outcome.next (?_ : beginFrame s = _)
  simp only [beginFrame, waits]
  exact if_pos ⟨decide_eq_true run, free, steady⟩

end Sys2Proof.Machine

section

open Sys2Proof Sys2Proof.Machine

/-- Settles O36: the parser answers a list of items exactly when those items stand in the frame, so a frame without a good header has
none to execute. -/
theorem requestFrameBegun : Obligations.RequestFrameBegun := by
  unfold Obligations.RequestFrameBegun
  refine fun s => ⟨exec_mgmtFrameBegin_idle, fun f rest waits free steady run => ?_⟩
  intro m body good
  have begun := exec_mgmtFrameBegin_waiting waits free steady run
  refine ⟨fun items after found => ?good, fun bad => ?bad⟩
  case good => rw [begun, beginExec_good (goodItems_eq_some.2 ⟨after, found⟩)]
  case bad => rw [begun, beginExec_bad (goodItems_eq_none bad)]

end

/-! # TAKE_REPORTS

The bytes of a report record, and the records at the head of the report queue that a response has room for (02 R42, 10 R163, R164,
12 R174). -/

namespace Sys2Proof.Machine

open Sys2Proof

/-- The request kinds that return data, by code, with the largest data of each (12 R174). -/
def largestData : List (Nat × Nat) :=
  [(0x01, 9), (0x02, 25), (0x09, 19), (0x0B, 40), (0x0C, 2), (0x0D, 2), (0x10, 3), (0x12, 35), (0x13, 3), (0x14, 1), (0x18, 40)]

theorem maxDataSize_eq_find (c : Nat) :
    maxDataSize c = ((largestData.find? (fun x => x.1 == c)).map (·.2)).getD 0 := by
  unfold maxDataSize
  split
  case h_12 =>
    have unlisted : ∀ x ∈ largestData, ¬ (x.1 == c) = true := by simp only [largestData, List.forall_mem_cons, beq_iff_eq]; grind
    rw [List.find?_eq_none.2 unlisted]
    rfl
  all_goals rfl

/-- The presence byte of two parts (12 R174). -/
theorem beBytes_presence_pair (a b : Bool) :
    beBytes 1 (presence [a, b]) = [(if a then 1 else 0) + (if b then 2 else 0)] := by
  cases a <;> cases b <;> rfl

/-- The bytes of an EXPIRED record, whose allowance and port stand only when present. -/
theorem reportBytes_expired (a : Addr) (profile : Fin 32) (allowance : Option Nat) (port : Option Port) :
    reportBytes (.expired a profile allowance port) =
      [4, (if allowance.isSome then 1 else 0) + (if port.isSome then 2 else 0)] ++ addrBytes a ++ beBytes 1 profile.val
        ++ (match allowance with | none => [] | some v => beBytes 3 v)
        ++ (match port with | none => [] | some p => beBytes 1 p.val) := by
  rw [reportBytes, beBytes_presence_pair]
  cases allowance <;> cases port <;> rfl

/-- The bytes that records take in a response. -/
def reportsSize (xs : List Report) : Nat := (xs.map (fun x => (reportBytes x).length)).sum

@[simp] theorem reportsSize_nil : reportsSize [] = 0 := rfl

@[simp] theorem reportsSize_cons (x : Report) (xs : List Report) :
    reportsSize (x :: xs) = (reportBytes x).length + reportsSize xs := by
  simp [reportsSize]

/-- The records that fit are the longest head of the queue within the count and the room: taking stops only at the count, at the end
of the queue, or before a record for which no room is left (10 R163). -/
theorem fittingReports_eq_take (n room : Nat) (xs : List Report) : ∃ k, k ≤ n ∧ k ≤ xs.length ∧ reportsSize (xs.take k) ≤ room ∧
    (k = n ∨ k = xs.length ∨ room < reportsSize (xs.take (k + 1))) ∧ fittingReports n room xs = xs.take k := by
  induction n, room, xs using fittingReports.induct with
  | case1 room xs => exact ⟨0, by simp [fittingReports]⟩
  | case2 n room => exact ⟨0, by simp [fittingReports]⟩
  | case3 n room x xs fits ih =>
    obtain ⟨k, asked, inQueue, size, longest, head⟩ := ih
    refine ⟨k + 1, by omega, by simpa using inQueue, ?_, ?_, ?_⟩
    · simp only [List.take_succ_cons, reportsSize_cons]; omega
    · simp only [List.length_cons, List.take_succ_cons, reportsSize_cons]; omega
    · rw [fittingReports, if_pos fits, head, List.take_succ_cons]
  | case4 n room x xs full => exact ⟨0, by simp [fittingReports, full]; omega⟩

/-- The records taken leave the head of the queue, and the data is the number left, then the records. -/
theorem exec_takeReports {s : State} {ps : List Byte} {n k : Nat} {f : ExecFrame} (item : ItemIs s 0x14 ps)
    (parsed : parseTakeReports ps = some n) (executes : s.mgmt.exec = some f) (inQueue : k ≤ s.table.reports.length)
    (taken : fittingReports n (reportsRoom f) s.table.reports = s.table.reports.take k) :
    exec .takeReports s = .next (finishItem .done
      (beBytes 1 (s.table.reports.length - k) ++ (s.table.reports.take k).flatMap reportBytes)
      { s with table := { s.table with reports := s.table.reports.drop k } }) := by
  refine congrArg Host.Outcome.next ((runItem_of_parsed item (hasCode_ofNat (by decide) _) parsed).trans ?_)
  simp only [takeReportsEffect, takenReports, executes, taken, List.length_take_of_le inQueue, List.length_drop]
  rfl

end Sys2Proof.Machine

section

open Sys2Proof Sys2Proof.Machine

/-- Settles O47: the records taken are the longest head of the queue within the count and the room. -/
theorem reportsTaken : Obligations.ReportsTaken := by
  unfold Obligations.ReportsTaken
  refine ⟨fun x => ?bytes, ?largest, fun s ps n f item parsed executes => ?taken⟩
  case bytes =>
    cases x with
    | learned i a p => rfl
    | spent i a => rfl
    | pinned i a p => rfl
    | expired a profile allowance port => exact reportBytes_expired a profile allowance port
  case largest => exact fun c _ => maxDataSize_eq_find c
  case taken =>
    intro room size
    obtain ⟨k, asked, inQueue, fits, longest, head⟩ := fittingReports_eq_take n (reportsRoom f) s.table.reports
    exact ⟨k, asked, inQueue, fits, longest, exec_takeReports item parsed executes inQueue head⟩

end

/-! # The items of the notice unit

SET_NOTICES and RETIRE_NOTICES (11 R169, R172): what their parameters read, and what they leave of the flags of each source. -/

namespace Sys2Proof

/-! ## Several elements of a table changed -/

section

variable {α β : Type} {n : Nat} {ix : β → Fin n} {f : β → α → α} {l : List β}

/-- An element that no change names is kept. -/
theorem Tab.get_foldl_modify_of_notMem {i : Fin n} (h : i ∉ l.map ix) (t : Tab α n) :
    Tab.get (l.foldl (fun t b => Tab.modify t (ix b) (f b)) t) i = t.get i := by
  induction l generalizing t with
  | nil => rfl
  | cons b l ih =>
    obtain ⟨other, later⟩ := not_or.1 (mt List.mem_cons.2 h)
    rw [List.foldl_cons, ih later, Tab.get_modify_ne t (f b) (Ne.symm other)]

/-- With no index named twice, an element named is changed once. -/
theorem Tab.get_foldl_modify_of_mem (distinct : (l.map ix).Nodup) {b : β} (h : b ∈ l) (t : Tab α n) :
    Tab.get (l.foldl (fun t b => Tab.modify t (ix b) (f b)) t) (ix b) = f b (t.get (ix b)) := by
  induction l generalizing t with
  | nil => cases h
  | cons x l ih =>
    obtain ⟨first, distinct⟩ := List.nodup_cons.1 distinct
    rw [List.foldl_cons]
    rcases List.mem_cons.1 h with rfl | later
    · rw [Tab.get_foldl_modify_of_notMem first, Tab.get_modify_self]
    · have other : ix x ≠ ix b := fun same => first (same ▸ List.mem_map_of_mem later)
      rw [ih distinct later, Tab.get_modify_ne t (f x) other]

end

/-! ## Notice sources -/

theorem sourceOf_sourceIx (x : Source) : sourceOf (sourceIx x).val = some x := by
  cases x <;> rfl

/-- A source is read from its bit number and from no other (12 R175). -/
theorem sourceOf_eq_some {k : Nat} {x : Source} : sourceOf k = some x ↔ k = (sourceIx x).val := by
  constructor
  · intro h
    unfold sourceOf at h
    split at h <;> cases h <;> rfl
  · rintro rfl
    exact sourceOf_sourceIx x

theorem sourceIx_injective : Function.Injective sourceIx := fun x y same =>
  Option.some.inj (by rw [← sourceOf_sourceIx x, same, sourceOf_sourceIx y])

/-- The byte of a notice source (12 R173). -/
def sourceByte (x : Source) : Byte := BitVec.ofNat 8 (sourceIx x).val

theorem sourceByte_toNat (x : Source) : (sourceByte x).toNat = (sourceIx x).val :=
  Nat.mod_eq_of_lt (by omega)

theorem sourceByte_injective : Function.Injective sourceByte := fun x y same =>
  sourceIx_injective (Fin.ext (by rw [← sourceByte_toNat, same, sourceByte_toNat]))

/-! ## Parameters of RETIRE_NOTICES -/

theorem takeSource_eq_some {bs rest : List Byte} {x : Source} :
    takeSource bs = some (x, rest) ↔ True ∧ bs = [sourceByte x] ++ rest := by
  simp only [takeSource, Option.bind_eq_bind, Option.bind_eq_some_iff, Option.pure_def, Option.some.injEq, Prod.mk.injEq,
    Prod.exists, true_and]
  constructor
  · rintro ⟨k, _, field, y, known, rfl, rfl⟩
    rw [sourceOf_eq_some.1 known] at field
    exact (takeField_eq_some.1 field).2
  · rintro rfl
    exact ⟨(sourceIx x).val, rest, takeField_eq_some.2 ⟨by omega, rfl⟩, x, sourceOf_sourceIx x, rfl, rfl⟩

/-- A RETIRE_NOTICES reads 1 to 9 sources, none twice, and nothing behind them (11 R172). -/
theorem parseRetire_eq_some {ps : List Byte} {l : List Source} : parseRetire ps = some l ↔
    1 ≤ l.length ∧ l.length ≤ 9 ∧ l.Nodup ∧ ps = BitVec.ofNat 8 l.length :: l.map sourceByte := by
  simp only [parseRetire, Option.bind_eq_bind, Option.bind_eq_some_iff, Prod.exists, atEnd_eq_some,
    takeCounted_eq_some (fun _ _ _ => takeSource_eq_some), Option.ite_none_right_eq_some, Option.some.injEq, noRepeat,
    decide_eq_true_eq, ← List.map_eq_flatMap]
  constructor
  · rintro ⟨_, ⟨_, _, ⟨nonempty, few, -, -, rfl⟩, rfl, rfl⟩, distinct, rfl⟩
    exact ⟨nonempty, few, distinct, List.append_nil _⟩
  · rintro ⟨nonempty, few, distinct, rfl⟩
    exact ⟨l, ⟨l, [], ⟨nonempty, few, by omega, fun _ _ => trivial, (List.append_nil _).symm⟩, rfl, rfl⟩, distinct, rfl⟩

/-- An empty set, an unknown source or a source named twice is not read (11 R172). -/
theorem parseRetire_eq_none {codes : List Byte} (bad : codes = [] ∨ (∃ c ∈ codes, 8 < c.toNat) ∨ ¬ codes.Nodup) :
    parseRetire (BitVec.ofNat 8 codes.length :: codes) = none := by
  rw [Option.eq_none_iff_forall_ne_some]
  intro l parsed
  obtain ⟨nonempty, -, distinct, bytes⟩ := parseRetire_eq_some.1 parsed
  obtain rfl : codes = l.map sourceByte := List.tail_eq_of_cons_eq bytes
  rcases bad with empty | ⟨c, named, unknown⟩ | twice
  · rw [List.map_eq_nil_iff.1 empty] at nonempty
    exact absurd nonempty (by decide)
  · obtain ⟨x, -, rfl⟩ := List.mem_map.1 named
    have := sourceByte_toNat x
    omega
  · exact twice (distinct.map sourceByte_injective)

/-! ## Parameters of SET_NOTICES -/

/-- What is read of a SET_NOTICES passes the checks on its parts (11 R169). -/
theorem parseNoticeWrite_valid {ps : List Byte} {w : NoticeWrite} (parsed : parseNoticeWrite ps = some w) :
    w.valid = true := by
  simp only [parseNoticeWrite, Option.bind_eq_bind, Option.bind_eq_some_iff, Option.ite_none_left_eq_some] at parsed
  obtain ⟨_, -, -, _, -, _, -, _, -, parsed⟩ := parsed
  obtain ⟨enables, parsed⟩ := exists_of_ite_bind_eq_some parsed
  obtain ⟨_, -, checked⟩ := Option.bind_eq_some_iff.1 parsed
  obtain ⟨valid, same⟩ := Option.ite_none_right_eq_some.1 checked
  exact Option.some.inj same ▸ valid

theorem NoticeWrite.nodup_of_valid {w : NoticeWrite} (h : w.valid = true) : (w.enables.map (·.1)).Nodup := by
  simp only [NoticeWrite.valid, noRepeat, Bool.and_eq_true, decide_eq_true_eq] at h
  exact h.2

end Sys2Proof

namespace Sys2Proof.Machine

open Sys2Proof

/-! ## The flags of the sources -/

theorem sourceIx_mem_map {x : Source} {l : List Source} : sourceIx x ∈ l.map sourceIx ↔ x ∈ l :=
  List.mem_map_of_injective sourceIx_injective

/-- The flags with the enables carried written (11 R169). -/
def enablesWritten (l : List (Source × Bool)) (t : Tab SourceFlags 9) : Tab SourceFlags 9 :=
  l.foldl (fun t x => t.modify (sourceIx x.1) (fun g => { g with enable := x.2 })) t

theorem enablesWritten_get_of_mem {l : List (Source × Bool)} (distinct : (l.map (·.1)).Nodup) {x : Source} {on : Bool}
    (named : (x, on) ∈ l) (t : Tab SourceFlags 9) :
    (enablesWritten l t).get (sourceIx x) = { t.get (sourceIx x) with enable := on } :=
  Tab.get_foldl_modify_of_mem (ix := sourceIx ∘ Prod.fst) (List.map_map ▸ distinct.map sourceIx_injective) named t

theorem enablesWritten_get_of_notMem {l : List (Source × Bool)} {x : Source} (absent : x ∉ l.map (·.1))
    (t : Tab SourceFlags 9) : (enablesWritten l t).get (sourceIx x) = t.get (sourceIx x) :=
  Tab.get_foldl_modify_of_notMem (ix := sourceIx ∘ Prod.fst) (by rwa [← List.map_map, sourceIx_mem_map]) t

/-- Writing the enables leaves the two other flags of every source. -/
theorem enablesWritten_keeps {l : List (Source × Bool)} (distinct : (l.map (·.1)).Nodup) (x : Source)
    (t : Tab SourceFlags 9) : ((enablesWritten l t).get (sourceIx x)).pending = (t.get (sourceIx x)).pending ∧
      ((enablesWritten l t).get (sourceIx x)).inService = (t.get (sourceIx x)).inService := by
  by_cases named : x ∈ l.map (·.1)
  · obtain ⟨⟨_, on⟩, carried, rfl⟩ := List.mem_map.1 named
    rw [enablesWritten_get_of_mem distinct carried]
    exact ⟨rfl, rfl⟩
  · rw [enablesWritten_get_of_notMem named]
    exact ⟨rfl, rfl⟩

/-- Writing AUTO clears every in-service flag, and nothing else does (11 R169). -/
theorem noticesWritten_get (w : NoticeWrite) (f : Option ExecFrame) (n : NoticeUnit) (i : Fin 9) :
    (noticesWritten w f n).flags.get i = { (enablesWritten w.enables n.flags).get i with
      inService := ((enablesWritten w.enables n.flags).get i).inService && decide (w.mode ≠ some .auto) } := by
  by_cases auto : w.mode = some .auto
  · simp [noticesWritten, auto, enablesWritten]
  · simp [noticesWritten, auto, enablesWritten]

theorem noticesWritten_eq (w : NoticeWrite) (f : ExecFrame) (n : NoticeUnit) : noticesWritten w (some f) n = { n with
    dest := match w.dest with
      | none => n.dest
      | some a => some { addr := a, port := f.frame.arrival, tag := (readHeader f.frame.bytes).tag }
    mode := w.mode.getD n.mode
    flags := (noticesWritten w (some f) n).flags } := by
  cases carried : w.dest <;> simp only [noticesWritten, carried, noticeDest]

/-- The in-service flag of each source named is cleared, and no other flag changes (11 R172). -/
theorem retired_get {l : List Source} (distinct : l.Nodup) (n : NoticeUnit) (x : Source) :
    (retired l n).flags.get (sourceIx x) = { n.flags.get (sourceIx x) with
      inService := (n.flags.get (sourceIx x)).inService && decide (x ∉ l) } := by
  by_cases named : x ∈ l
  · rw [retired, Tab.get_foldl_modify_of_mem (distinct.map sourceIx_injective) named]
    simp [named]
  · rw [retired, Tab.get_foldl_modify_of_notMem (mt sourceIx_mem_map.1 named)]
    simp [named]

/-! ## What each item does -/

section

variable {s : State} {ps : List Byte}

theorem exec_setNotices (item : ItemIs s 0x19 ps) {w : NoticeWrite} (parsed : parseNoticeWrite ps = some w) :
    exec .setNotices s = .next (finishItem .done [] (s.modNotice (noticesWritten w s.mgmt.exec))) :=
  congrArg Host.Outcome.next (runItem_of_parsed item (hasCode_ofNat (by decide) _) parsed)

theorem exec_retireNotices (item : ItemIs s 0x1A ps) {l : List Source} (parsed : parseRetire ps = some l) :
    exec .retireNotices s = .next (finishItem .done [] (s.modNotice (retired l))) :=
  congrArg Host.Outcome.next (runItem_of_parsed item (hasCode_ofNat (by decide) _) parsed)

theorem exec_retireNotices_malformed (item : ItemIs s 0x1A ps) (malformed : parseRetire ps = none) :
    exec .retireNotices s = .next (finishItem .badItem [] s) :=
  congrArg Host.Outcome.next (runItem_of_malformed item (hasCode_ofNat (by decide) _) malformed)

end

end Sys2Proof.Machine

section

open Sys2Proof Sys2Proof.Machine

/-- Settles O52: the flags of each source are those after the enables named, less the in-service flags cleared, and a
RETIRE_NOTICES is read exactly from a set of 1 to 9 different sources. -/
theorem noticeSettingsWritten : Obligations.NoticeSettingsWritten := by
  unfold Obligations.NoticeSettingsWritten
  intro s ps
  refine ⟨fun w f item parsed executes => ⟨s.modNotice (noticesWritten w (some f)), ?done, ?frame, fun x => ?flags⟩,
    fun codes item bad => exec_retireNotices_malformed item (parseRetire_eq_none bad),
    fun item malformed => exec_retireNotices_malformed item malformed, fun l item parsed => ?retire⟩
  case done => rw [exec_setNotices item parsed, executes]
  case frame => exact congrArg (fun n => { s with notice := n }) (noticesWritten_eq w f s.notice)
  case flags =>
    have distinct := NoticeWrite.nodup_of_valid (parseNoticeWrite_valid parsed)
    obtain ⟨pending, inService⟩ := enablesWritten_keeps distinct x s.notice.flags
    rw [modNotice_notice, noticesWritten_get]
    exact ⟨pending, by rw [inService],
      fun on carried => by rw [enablesWritten_get_of_mem distinct carried],
      fun absent => by rw [enablesWritten_get_of_notMem absent]⟩
  case retire =>
    obtain ⟨nonempty, few, distinct, -⟩ := parseRetire_eq_some.1 parsed
    exact ⟨nonempty, few, distinct, s.modNotice (retired l), exec_retireNotices item parsed, rfl, retired_get distinct s.notice⟩

end

/-! # What a step changes

Every operation of the model as a path of small changes, said once. A `Still` change touches neither frame memory nor what a port
unit shows; an `Inner` change touches no port's link, reception, intake, state, enable or flush walk; a `Change` is any. Each carries
the guard under which the model makes it, so that an invariant is proved once for each kind of change. -/

namespace Sys2Proof.Machine

open Sys2Proof Relation

/-! ## The kinds of change -/

/-- The settings that lie outside queues and ports are in their ranges (the rest of `SettingsInRange`). -/
def MiscInRange (s : State) : Prop :=
  s.time.divisor ∈ Config.divisors ∧ (∀ d, s.time.divisorWritten = some d → d ∈ Config.divisors)
  ∧ s.roam.holdOff ≤ 1023 ∧ (1 ≤ s.roam.flapLimit ∧ s.roam.flapLimit ≤ 15) ∧ s.roam.rehomeLimit ≤ 255
  ∧ (1 ≤ s.table.learnedLimit ∧ s.table.learnedLimit ≤ 255) ∧ (1 ≤ s.table.admittedLimit ∧ s.table.admittedLimit ≤ 4095)
  ∧ (1 ≤ s.notice.spacing ∧ s.notice.spacing ≤ 255) ∧ s.mem.reserve ≤ 256
  ∧ (∀ b d, 64 ≤ (s.side b).quantum.get (drrIx d) ∧ (s.side b).quantum.get (drrIx d) ≤ 16383)

/-- A change beside ports, entries, cells, records and queues. -/
structure Aside (s t : State) : Prop where
  ports : t.ports = s.ports
  entries : t.table.entries = s.table.entries
  mem : t.mem = { s.mem with reserve := t.mem.reserve }
  queues : t.queues = s.queues
  part : t.line.part = s.line.part
  position : t.line.position = s.line.position
  gateway : t.line.gateway = s.line.gateway
  reports : s.table.reports.length ≤ 48 → t.table.reports.length ≤ 48
  input : s.mgmt.input.length ≤ 2 → t.mgmt.input.length ≤ 2
  arb : t.arb = s.arb
  settings : MiscInRange s → MiscInRange t

/-- A change of a port unit beside its link, reception, intake, transmission, state, enable, station count and flush walk. -/
structure PortStill (u v : PortUnit) : Prop where
  link : v.link = u.link
  rx : v.rx = u.rx
  intake : v.intake = u.intake
  tx : v.tx = u.tx
  state : v.state = u.state
  enable : v.enable = u.enable
  seatCount : v.seatCount = u.seatCount
  flush : v.flush = u.flush
  seatLimit : 1 ≤ u.seatLimit ∧ u.seatLimit ≤ 4 → 1 ≤ v.seatLimit ∧ v.seatLimit ≤ 4

/-- `AllowanceAgrees` of one entry (04 R70). -/
def StationEntry.allowanceAgrees (e : StationEntry) : Prop :=
  (e.spent = true ↔ e.metered = true ∧ e.allowance = 0) ∧ (e.metered = false → e.allowance = 0) ∧ e.allowance ≤ 16777215

/-- A change of an entry beside its attachment and address, that neither frees it nor takes it into use. -/
structure EntryStill (e f : StationEntry) : Prop where
  free : f.state = .free ↔ e.state = .free
  addr : f.addr = e.addr
  attachment : f.attachment = e.attachment
  allowance : e.allowanceAgrees → f.allowanceAgrees

/-- A change that touches neither frame memory and its holders nor what a port unit shows of reception, transmission and state. -/
inductive Still : State → State → Prop
  | aside {s t : State} (h : Aside s t) : Still s t
  | port (s : State) (p : Port) (f : PortUnit → PortUnit) (h : PortStill (s.port p) (f (s.port p))) : Still s (s.modPort p f)
  | entry (s : State) (i : StationIx) (f : StationEntry → StationEntry) (h : EntryStill (s.entry i) (f (s.entry i)))
      (held : (f (s.entry i)).heldCount = (s.entry i).heldCount) : Still s (s.modEntry i f)
  | create (s : State) (i : StationIx) (a : Addr) (free : (s.entry i).state = .free) (way : i.val / 4 = (bucketOf a).val)
      (miss : lookup s.table a = none) : Still s (createEntry i a s)
  | attach (s : State) (i : StationIx) (p : Port) (used : (s.entry i).state ≠ .free) (carriage : isCarriage p = true)
      (up : isUpOrHeld (s.port p).state = true) : Still s (attachTo i p s)
  | detach (s : State) (i : StationIx) : Still s (detachStation i s)
  | detachAll (s : State) (p : Port) : Still s (detachPort p s)
  | free (s : State) (i : StationIx) (held : (s.entry i).heldCount = 0) : Still s (freeEntry i s)

/-- A change that leaves the ports' links, reception, intakes, states, enables and flush walks. -/
inductive Inner : State → State → Prop
  | still {s t : State} (h : Still s t) : Inner s t
  | giveCell (s : State) (r : RecordIx) : Inner s (giveCell r s)
  | release (s : State) (r : RecordIx) : Inner s (releaseRecord r s)
  | write (s : State) (r : RecordIx) (bytes : List Byte) : Inner s (writeFrame r bytes s)
  | record (s : State) (r : RecordIx) (f : FrameRecord → FrameRecord)
      (h : (s.record r).length ≤ 1522 → (f (s.record r)).length ≤ 1522) : Inner s (s.modRecord r f)
  | queue (s : State) (q : QueueId) (f : Queue → Queue) (h : (s.queue q).limit ≤ 2048 → (f (s.queue q)).limit ≤ 2048) :
      Inner s (s.modQueue q f)
  | tx (s : State) (p : Port) (f : PortUnit → TxState) : Inner s (s.modPort p (fun u => { u with tx := f u }))
  | held (s : State) (i : StationIx) (f : StationEntry → Nat) :
      Inner s (s.modEntry i (fun e => { e with heldCount := f e }))

/-- A change of any kind that a command makes. -/
inductive Change : State → State → Prop
  | inner {s t : State} (h : Inner s t) : Change s t
  | unit (s : State) (p : Port) (f : PortUnit → PortUnit)
      (intake : (s.port p).intake.length ≤ 2 → (f (s.port p)).intake.length ≤ 2)
      (seatCount : (f (s.port p)).seatCount = (s.port p).seatCount)
      (seatLimit : (f (s.port p)).seatLimit = (s.port p).seatLimit) : Change s (s.modPort p f)
  | units (s : State) (f : PortUnit → PortUnit) (h : ∀ u, ∃ l, f u = { u with link := l }) :
      Change s { s with ports := s.ports.mapAll f }
  | line (s : State) (f : LineController → LineController) : Change s (s.modLine f)
  | powerOn (s : State) : Change s (powerOn s)
  | serve (s : State) (a : Arbiter) (h : 2 ≤ s.arb.lastCarriage.val → 2 ≤ a.lastCarriage.val) : Change s { s with arb := a }

/-- A path of still changes. -/
abbrev Stills : State → State → Prop := ReflTransGen Still
/-- A path of inner changes. -/
abbrev Inners : State → State → Prop := ReflTransGen Inner
/-- A path of changes. -/
abbrev Changes : State → State → Prop := ReflTransGen Change

theorem Still.path {s t : State} (h : Still s t) : Stills s t := .single h
theorem Inner.path {s t : State} (h : Inner s t) : Inners s t := .single h
theorem Change.path {s t : State} (h : Change s t) : Changes s t := .single h

theorem inners_of_stills {s t : State} (h : Stills s t) : Inners s t := h.lift id fun _ _ => .still
theorem changes_of_inners {s t : State} (h : Inners s t) : Changes s t := h.lift id fun _ _ => .inner
theorem changes_of_stills {s t : State} (h : Stills s t) : Changes s t := changes_of_inners (inners_of_stills h)

/-! ## Changes beside ports, entries and frame memory -/

section

variable (s : State)

theorem stills_notice (f : NoticeUnit → NoticeUnit) (h : (f s.notice).spacing = s.notice.spacing) : Stills s (s.modNotice f) :=
  .single (.aside ⟨rfl, rfl, rfl, rfl, rfl, rfl, rfl, id, id, rfl, fun ⟨a, b, c, d, e, f', g, sp, rest⟩ =>
    ⟨a, b, c, d, e, f', g, by rw [modNotice_notice, h]; exact sp, rest⟩⟩)

theorem stills_mgmt (f : Management → Management) (h : s.mgmt.input.length ≤ 2 → (f s.mgmt).input.length ≤ 2) :
    Stills s (s.modMgmt f) :=
  .single (.aside ⟨rfl, rfl, rfl, rfl, rfl, rfl, rfl, id, h, rfl, id⟩)

theorem stills_side (b : Side) (f : BackboneTx → BackboneTx)
    (h : ∀ d, 64 ≤ (s.side b).quantum.get d ∧ (s.side b).quantum.get d ≤ 16383 →
      64 ≤ (f (s.side b)).quantum.get d ∧ (f (s.side b)).quantum.get d ≤ 16383) :
    Stills s (s.modSide b f) := by
  refine .single (.aside ⟨by simp, by simp, by simp, by simp, by simp, by simp, by simp, by simp, by simp, by simp, ?_⟩)
  rintro ⟨c1, c2, c3, c4, c5, c6, c7, c8, c9, quanta⟩
  refine ⟨by simpa using c1, by simpa using c2, by simpa using c3, by simpa using c4, by simpa using c5, by simpa using c6,
    by simpa using c7, by simpa using c8, by simpa using c9, fun c d => ?_⟩
  rw [side_modSide]
  split
  · next same => exact h _ (quanta b d)
  · exact quanta c d

/-- The parts of the state that no invariant of frames, ports or entries reads. -/
theorem stills_globals (g : Tab Nat 9) : Stills s { s with globals := g } :=
  .single (.aside ⟨rfl, rfl, rfl, rfl, rfl, rfl, rfl, id, id, rfl, id⟩)

theorem stills_purge (w : Option PurgeWalk) : Stills s { s with purge := w } :=
  .single (.aside ⟨rfl, rfl, rfl, rfl, rfl, rfl, rfl, id, id, rfl, id⟩)

theorem stills_raise (src : Source) : Stills s (raise src s) := stills_notice s _ rfl

theorem stills_countGlobal (c : GlobalCounter) : Stills s (countGlobal c s) := stills_globals s _

theorem stills_noteLinkChange (p : Port) : Stills s (noteLinkChange p s) :=
  (stills_notice s _ rfl).trans (stills_raise _ _)

theorem stills_addReport (x : Report) (room : reportRoom s = true) : Stills s (addReport x s) := by
  have length : s.table.reports.length < 48 := of_decide_eq_true room
  have posted : Still s { s with table := { s.table with reports := s.table.reports ++ [x] } } :=
    .aside ⟨rfl, rfl, rfl, rfl, rfl, rfl, rfl, fun _ => by simp only [List.length_append, List.length_singleton]; omega,
      id, rfl, id⟩
  exact posted.path.trans (stills_raise _ _)

theorem stills_finishItem (st : Status) (data : List Byte) : Stills s (finishItem st data s) := by
  unfold finishItem
  split
  · rfl
  · split
    · rfl
    · exact stills_mgmt s _ id

theorem stills_waitItem (ph : ExecPhase) : Stills s (waitItem ph s) := stills_mgmt s _ id

theorem stills_emptySlot (b : Side) : Stills s (emptySlot b s) := by
  unfold emptySlot
  simp only
  split
  · exact (stills_side s b _ fun _ => id).trans (stills_mgmt _ _ id)
  · exact stills_side s b _ fun _ => id

/-! ## Counters and entries -/

theorem stills_countPort (p : Port) (c : PortCounter) : Stills s (countPort p c s) :=
  .single (.port s p _ ⟨rfl, rfl, rfl, rfl, rfl, rfl, rfl, rfl, id⟩)

/-- A change of an entry that leaves its state, address, attachment, held count and allowance. -/
theorem stills_entry (i : StationIx) (f : StationEntry → StationEntry)
    (h : (f (s.entry i)).state = (s.entry i).state ∧ (f (s.entry i)).addr = (s.entry i).addr ∧
      (f (s.entry i)).attachment = (s.entry i).attachment ∧ (f (s.entry i)).heldCount = (s.entry i).heldCount ∧
      (f (s.entry i)).metered = (s.entry i).metered ∧ (f (s.entry i)).allowance = (s.entry i).allowance ∧
      (f (s.entry i)).spent = (s.entry i).spent) : Stills s (s.modEntry i f) := by
  obtain ⟨state, addr, attachment, held, metered, allowance, spent⟩ := h
  exact .single (.entry s i f ⟨by rw [state], addr, attachment,
    fun h => by rw [StationEntry.allowanceAgrees, metered, allowance, spent]; exact h⟩ held)

theorem stills_countStation (i : StationIx) (c : StationCounter) : Stills s (countStation i c s) :=
  stills_entry s i _ (by and_intros <;> rfl)

theorem stills_refill (i : StationIx) : Stills s (refill i s) := stills_entry s i _ (by and_intros <;> rfl)

theorem stills_markSeen (i : StationIx) : Stills s (markSeen i s) := stills_entry s i _ (by and_intros <;> rfl)

theorem stills_postLearned (i : StationIx) (p : Port) : Stills s (postLearned i p s) := by
  unfold postLearned
  split
  · next room => exact (stills_entry s i _ (by and_intros <;> rfl)).trans (stills_addReport _ _ room)
  · exact (stills_entry s i _ (by and_intros <;> rfl)).trans (stills_raise _ _)

theorem stills_postPinned (i : StationIx) (p : Port) : Stills s (postPinned i p s) := by
  unfold postPinned
  split
  · next room => exact (stills_entry s i _ (by and_intros <;> rfl)).trans (stills_addReport _ _ room)
  · exact (stills_entry s i _ (by and_intros <;> rfl)).trans (stills_raise _ _)

theorem stills_postSpent (i : StationIx) : Stills s (postSpent i s) := by
  unfold postSpent
  split
  · next room => exact (stills_entry s i _ (by and_intros <;> rfl)).trans (stills_addReport _ _ room)
  · exact (stills_entry s i _ (by and_intros <;> rfl)).trans (stills_raise _ _)

theorem stills_deductCredit (l : Leg) (g : Grant) (i : StationIx) (n : Nat) : Stills s (deductCredit l g i n s) := by
  unfold deductCredit
  split
  · exact stills_entry s i _ (by cases l <;> (and_intros <;> rfl))
  · rfl

/-- A metered entry with something left keeps something left, or is spent (04 R72, R73). -/
theorem stills_chargeAllowance (g : Grant) (i : StationIx) (n : Nat) : Stills s (chargeAllowance g i n s) := by
  unfold chargeAllowance
  split
  · next charged =>
    simp only [Bool.and_eq_true, Bool.not_eq_true'] at charged
    obtain ⟨⟨-, metered⟩, unspent⟩ := charged
    split
    · next less =>
      refine .single (.entry s i _ ⟨Iff.rfl, rfl, rfl, fun ⟨_, _, bound⟩ => ?_⟩ rfl)
      rw [StationEntry.allowanceAgrees]
      simp only [metered, unspent, Bool.false_eq_true, true_and, false_iff]
      exact ⟨by omega, fun h => absurd h (by decide), by omega⟩
    · exact .trans (.single (.entry s i _ ⟨Iff.rfl, rfl, rfl, fun _ => by simp [StationEntry.allowanceAgrees, metered]⟩ rfl))
        (stills_postSpent _ _)
  · rfl

theorem stills_refuseMove (i : StationIx) (p : Port) : Stills s (refuseMove i p s) := by
  have counted : Stills s ((countStation i .refused s).modEntry i (fun e => { e with flapCount := min 15 (e.flapCount + 1) })) :=
    (stills_countStation s i _).trans (stills_entry _ i _ (by and_intros <;> rfl))
  unfold refuseMove
  simp only
  split
  · exact (counted.trans (stills_entry _ i _ (by and_intros <;> rfl))).trans (stills_postPinned _ i p)
  · exact counted

/-! ## Aging -/

theorem stills_dueStep (i : StationIx) : Stills s (dueStep i s) := by
  unfold dueStep
  split
  · exact stills_entry s i _ (by and_intros <;> rfl)
  · rfl

theorem heldCount_of_expires {st : EntryState} {i : StationIx} (h : expires st i s = true) : (s.entry i).heldCount = 0 := by
  simp only [expires, Bool.and_eq_true, decide_eq_true_eq] at h
  exact h.2

theorem stills_learnedExpiryStep (i : StationIx) : Stills s (learnedExpiryStep i s) := by
  unfold learnedExpiryStep
  split
  · next due => exact .single (.free s i (heldCount_of_expires s due))
  · rfl

theorem stills_admittedExpiryStep (i : StationIx) : Stills s (admittedExpiryStep i s) := by
  unfold admittedExpiryStep
  split
  · next due =>
    split
    · next room => exact (stills_addReport s _ room).trans (.single (.free _ i (heldCount_of_expires s due)))
    · exact stills_raise s _
  · rfl

theorem stills_holdOffStep (i : StationIx) : Stills s (holdOffStep i s) := by
  unfold holdOffStep
  split
  · exact stills_entry s i _ (by and_intros <;> rfl)
  · rfl

theorem stills_flapDecayStep (i : StationIx) : Stills s (flapDecayStep i s) := by
  unfold flapDecayStep
  split
  · rfl
  · exact stills_entry s i _ (by and_intros <;> rfl)

theorem stills_pendingReportsStep (i : StationIx) : Stills s (pendingReportsStep i s) := by
  have learned : ∀ o : Option Port, Stills s (match o with | none => s | some p => postLearned i p s) := fun o => by
    cases o with
    | none => rfl
    | some p => exact stills_postLearned s i p
  have spent : ∀ t, Stills t (if (t.entry i).spentPending then postSpent i t else t) := fun t => by
    split
    · exact stills_postSpent t i
    · rfl
  unfold pendingReportsStep
  simp only
  split
  · exact (learned _).trans (spent _)
  · exact ((learned _).trans (spent _)).trans (stills_postPinned _ i _)

theorem stills_visitWay (i : StationIx) : Stills s (visitWay s i) := by
  have expired : Stills s (admittedExpiryStep i (learnedExpiryStep i (dueStep i s))) :=
    ((stills_dueStep s i).trans (stills_learnedExpiryStep _ i)).trans (stills_admittedExpiryStep _ i)
  unfold visitWay
  simp only
  split
  · rfl
  · split
    · exact expired
    · exact ((expired.trans (stills_holdOffStep _ i)).trans (stills_flapDecayStep _ i)).trans (stills_pendingReportsStep _ i)

end

/-- A list of things done one after another, each a path. -/
theorem path_foldl {R : State → State → Prop} {β : Type} {f : State → β → State} {l : List β}
    (h : ∀ s, ∀ b ∈ l, ReflTransGen R s (f s b)) (s : State) : ReflTransGen R s (l.foldl f s) := by
  induction l generalizing s with
  | nil => rfl
  | cons b l ih => exact (h s b List.mem_cons_self).trans (ih (fun t c hc => h t c (List.mem_cons_of_mem b hc)) _)

theorem stills_agingVisit (s : State) : Stills s (agingVisit s) := by
  have visited : Stills s ((waysOf s.table.agingPointer).foldl visitWay s) := path_foldl (fun t i _ => stills_visitWay t i) s
  unfold agingVisit
  generalize (waysOf s.table.agingPointer).foldl visitWay s = t at visited ⊢
  exact visited.trans (.single (.aside ⟨rfl, rfl, rfl, rfl, rfl, rfl, rfl, id, id, rfl, id⟩))

end Sys2Proof.Machine

namespace Sys2Proof.Machine

open Sys2Proof Relation

/-! ## Queues and records -/

theorem inners_enqueue (q : QueueId) (r : RecordIx) (s : State) : Inners s (enqueue q r s) :=
  (Inner.queue s q _ id).path.trans (Inner.record _ r _ id).path

theorem inners_setClass (r : RecordIx) (c : RecordClass) (d : Option StationIx) (s : State) : Inners s (setClass r c d s) :=
  (Inner.record s r _ id).path

theorem inners_countDrop (q : QueueId) (s : State) : Inners s (countDrop q s) := (Inner.queue s q _ id).path

theorem stills_queueEmptied (q : QueueId) (s : State) : Stills s (queueEmptied q s) := by
  unfold queueEmptied
  split
  · exact (Still.port s _ _ ⟨rfl, rfl, rfl, rfl, rfl, rfl, rfl, rfl, id⟩).path
  · split
    · exact stills_side s _ _ fun _ => id
    · rfl

theorem inners_unlist (q : QueueId) (r : RecordIx) (s : State) : Inners s (unlist q r s) := by
  have off := (Inner.queue s q (fun x => { x with
    records := x.records.erase r, tally := x.tally - (s.record r).cellCount }) id).path
  unfold unlist
  simp only
  split
  · exact off.trans (inners_of_stills (stills_queueEmptied q _))
  · exact off

theorem stills_freeReleased (i : StationIx) (s : State) : Stills s (freeReleased i s) := by
  unfold freeReleased
  split
  · rfl
  · split
    · next released => exact (Still.free s i released.2).path.trans (stills_finishItem _ _ _)
    · rfl

theorem inners_departStation (d : Option StationIx) (s : State) : Inners s (departStation d s) := by
  unfold departStation
  split
  · rfl
  · exact (Inner.held s _ fun e => e.heldCount - 1).path.trans (inners_of_stills (stills_freeReleased _ _))

theorem inners_leaveQueue (q : QueueId) (r : RecordIx) (s : State) : Inners s (leaveQueue q r s) := by
  have left := ((inners_unlist q r s).trans (Inner.record _ r (fun x => { x with holders := x.holders - 1 }) id).path).trans
    (inners_departStation (s.record r).dest _)
  unfold leaveQueue
  simp only
  split
  · exact left.trans (Inner.release _ r).path
  · exact left

theorem inners_sweepQueue (picks : FrameRecord → Bool) (q : QueueId) (s : State) : Inners s (sweepQueue picks q s) :=
  path_foldl (fun t r _ => inners_leaveQueue q r t) s

theorem inners_endTransmission (p : Port) (s : State) : Inners s (endTransmission p s) := by
  have idle : ∀ t : State, Inners t (t.modPort p (fun u => { u with tx := .idle })) := fun t => (Inner.tx t p fun _ => .idle).path
  unfold endTransmission
  simp only
  split
  · rfl
  · exact (inners_leaveQueue _ _ s).trans (idle _)
  · split
    · exact (inners_of_stills (stills_emptySlot s _)).trans (idle _)
    · exact idle _

theorem inners_abortTransmission (p : Port) (s : State) : Inners s (abortTransmission p s) := by
  unfold abortTransmission
  split
  · rfl
  · exact (inners_of_stills (stills_countPort s p _)).trans (inners_endTransmission p _)

theorem inners_rehomeMove (q q' : QueueId) (r : RecordIx) (s : State) : Inners s (rehomeMove q q' r s) := by
  unfold rehomeMove
  exact (((inners_unlist q r s).trans (Inner.queue _ q' _ id).path).trans (Inner.record _ r _ id).path).trans
    (inners_of_stills (stills_countGlobal _ _))

theorem inners_rehomeCheck {q : QueueId} {r : RecordIx} {s t : State} (gone : rehomeCheck q r s = .gone t) : Inners s t := by
  unfold rehomeCheck at gone
  split at gone
  · cases gone
  · split at gone
    · cases gone; exact (inners_of_stills (stills_countStation s _ _)).trans (inners_leaveQueue q r _)
    · split at gone
      · cases gone; exact (inners_of_stills (stills_countGlobal s _)).trans (inners_leaveQueue q r _)
      · split at gone
        · cases gone
        · simp only at gone
          split at gone <;> cases gone
          · exact inners_rehomeMove _ _ r s
          · exact (inners_of_stills (stills_countGlobal s _)).trans (inners_leaveQueue q r _)

theorem inners_startRecord (p : Port) (q : QueueId) (r : RecordIx) (s : State) : Inners s (startRecord p q r s) := by
  have guard := (Still.port s p (fun u => { u with guardCount := guardAfter q s u.guardCount })
    ⟨rfl, rfl, rfl, rfl, rfl, rfl, rfl, rfl, id⟩).path
  have both : startRecord p q r s = (s.modPort p (fun u => { u with guardCount := guardAfter q s u.guardCount })).modPort p
      (fun u => { u with tx := .sending r q 0 }) := by simp [startRecord, State.modPort]
  rw [both]
  exact (inners_of_stills guard).trans (Inner.tx _ p fun _ => .sending r q 0).path

theorem inners_carriageChoice (p : Port) (n : Nat) (s : State) : Inners s (carriageChoice p n s) := by
  induction n generalizing s with
  | zero => rfl
  | succ n ih =>
    unfold carriageChoice
    split
    · rfl
    · split
      · rfl
      · split
        · exact inners_startRecord _ _ _ s
        · next gone => exact (inners_rehomeCheck gone).trans (ih _)

/-- Deficit round robin leaves the quanta, the slot and the class flush as they are. -/
theorem drrChoice_keeps {b : Side} {s : State} {n : Nat} {x y : BackboneTx} {d : DrrQueue} {r : RecordIx}
    (h : drrChoice b s n x = some (d, r, y)) : y.quantum = x.quantum ∧ y.slot = x.slot ∧ y.classFlush = x.classFlush := by
  induction n generalizing x with
  | zero => cases h
  | succ n ih =>
    cases head : (s.queue (drrQueue b x.pointer)).records with
    | nil =>
      simp only [drrChoice, head] at h
      have kept := ih h
      exact kept
    | cons r' l =>
      simp only [drrChoice, head] at h
      generalize opened : (if x.visitOpen = true then x else { x with
        visitOpen := true, deficit := x.deficit.set (drrIx x.pointer)
          (x.deficit.get (drrIx x.pointer) + x.quantum.get (drrIx x.pointer)) }) = z at h
      have same : z.quantum = x.quantum ∧ z.slot = x.slot ∧ z.classFlush = x.classFlush := by
        subst opened
        split <;> exact ⟨rfl, rfl, rfl⟩
      split at h
      · cases h; exact same
      · obtain ⟨h1, h2, h3⟩ := ih h
        exact ⟨h1.trans same.1, h2.trans same.2.1, h3.trans same.2.2⟩

theorem inners_backboneChoice (b : Side) (s : State) : Inners s (backboneChoice b s) := by
  unfold backboneChoice
  simp only
  split
  · exact (Inner.tx s _ fun _ => .sendingSlot 0).path
  · split
    · exact inners_startRecord _ _ _ s
    · split
      · split
        · next sent =>
          refine .trans (inners_of_stills (stills_side s b _ fun d h => ?_)) (inners_startRecord _ _ _ _)
          rw [(drrChoice_keeps sent).1]
          exact h
        · rfl
      · rfl

theorem inners_choose (p : Port) (s : State) : Inners s (choose p s) := by
  unfold choose
  split
  · split
    · exact inners_backboneChoice _ s
    · exact inners_carriageChoice _ _ s
  · rfl

theorem inners_complete (p : Port) (s : State) : Inners s (complete p s) := by
  unfold complete
  split
  · exact (inners_of_stills (stills_countPort s p _)).trans (inners_endTransmission p _)
  · rfl

/-! ## Decisions -/

/-- The state a test or a decision ends in, frame continued or dropped. -/
def Verdict.state : Verdict → State
  | .ok s => s
  | .error s => s

/-- A decision in two parts. -/
theorem path_bind {R : State → State → Prop} {α : Type} {s : State} {v : Except State α} {k : α → Verdict}
    (dropped : ∀ t, v = .error t → ReflTransGen R s t) (goesOn : ∀ a, v = .ok a → ReflTransGen R s (k a).state) :
    ReflTransGen R s (Verdict.state (v >>= k)) := by
  cases v with
  | error t => exact dropped t rfl
  | ok a => exact goesOn a rfl

/-- A test, and what follows it. -/
theorem path_test {R : State → State → Prop} {s : State} {v : Verdict} {k : State → Verdict} (test : ReflTransGen R s v.state)
    (goesOn : ∀ t, v = .ok t → ReflTransGen R t (k t).state) : ReflTransGen R s (Verdict.state (v >>= k)) := by
  cases v with
  | error t => exact test
  | ok t => exact test.trans (goesOn t rfl)

section

variable (s : State)

theorem stills_testPermit (l : Leg) (g : Grant) (i : StationIx) : Stills s (testPermit l g i s).state := by
  unfold testPermit
  split
  · rfl
  · exact stills_countStation s i _

theorem stills_testPolicing (l : Leg) (g : Grant) (i : StationIx) : Stills s (testPolicing l g i s).state := by
  unfold testPolicing
  simp only
  split
  · split
    · exact stills_refill s i
    · exact (stills_refill s i).trans (stills_countStation _ i _)
  · rfl

theorem stills_testAllowance (g : Grant) (i : StationIx) : Stills s (testAllowance g i s).state := by
  unfold testAllowance
  split
  · exact stills_countStation s i _
  · rfl

theorem stills_testBarred (i : StationIx) : Stills s (testBarred i s).state := by
  unfold testBarred
  split
  · exact stills_countStation s i _
  · rfl

theorem testBarred_ok {i : StationIx} {t : State} (h : testBarred i s = .ok t) : t = s ∧ (s.entry i).state ≠ .barred := by
  unfold testBarred at h
  split at h
  · cases h
  · next unbarred => cases h; exact ⟨rfl, unbarred⟩

theorem stills_testAttached {d : StationIx} {t : State} (h : testAttached d s = .error t) : Stills s t := by
  unfold testAttached at h
  split at h <;> cases h
  exact stills_countGlobal s _

/-- The attachment step of a used entry heard on a UP or HELD carriage port (05 R81). -/
theorem stills_attachStep {i : StationIx} {p : Port} (used : (s.entry i).state ≠ .free) (carriage : isCarriage p = true)
    (up : isUpOrHeld (s.port p).state = true) : Stills s (attachStep i p s).state := by
  unfold attachStep
  split
  · split
    · exact stills_countStation s i _
    · exact (Still.attach s i p used carriage up).path
  · split
    · rfl
    · split
      · exact stills_countStation s i _
      · split
        · exact stills_refuseMove s i p
        · split
          · exact stills_countStation s i _
          · exact (Still.attach s i p used carriage up).path

/-- The source entry found or made is not FREE, and the ports are as they were (01 R11). -/
theorem sourceEntry_ok {a : Addr} {p : Port} {i : StationIx} {t : State} (h : sourceEntry a p s = .ok (i, t)) :
    Stills s t ∧ (t.entry i).state ≠ .free ∧ t.ports = s.ports ∧ t.line = s.line ∧ t.mem = s.mem := by
  unfold sourceEntry at h
  split at h
  · next hit => cases h; exact ⟨.refl, (lookup_some hit).2.1, rfl, rfl, rfl⟩
  · next miss =>
    split at h
    · next way =>
      cases h
      obtain ⟨bucket, free, -⟩ := freeWay_eq_some.1 way
      exact ⟨(Still.create s i a free bucket miss).path.trans (stills_postLearned _ i p),
        by rw [postLearned_eq]; simp [State.entry, createEntry, newEntry], by simp, by simp, by simp⟩
    · cases h

theorem stills_sourceEntry {a : Addr} {p : Port} {t : State} (h : sourceEntry a p s = .error t) : Stills s t := by
  unfold sourceEntry at h
  split at h
  · cases h
  · split at h <;> cases h
    exact (stills_countGlobal s _).trans (stills_raise _ _)

theorem inners_admitTo (d : StationIx) (p : Port) (g : Grant) (r : RecordIx) : Inners s (admitTo d p g r s).state := by
  unfold admitTo
  simp only
  split
  · exact ((inners_enqueue _ r s).trans (inners_setClass r _ _ _)).trans (Inner.held _ d fun e => e.heldCount + 1).path
  · exact inners_countDrop _ s

theorem inners_throughOffer (b : Side) (r : RecordIx) : Inners s (throughOffer b r s).state := by
  unfold throughOffer
  split
  · exact inners_of_stills (stills_countGlobal s _)
  · split
    · exact (inners_enqueue _ r s).trans (inners_setClass r _ _ _)
    · exact inners_countDrop _ s

/-- The commit of one leg: credit, then allowance (04 R69, R72). -/
theorem stills_commit (l : Leg) (g : Grant) (i : StationIx) (n : Nat) :
    Stills s (chargeAllowance g i n (deductCredit l g i n s)) :=
  (stills_deductCredit s l g i n).trans (stills_chargeAllowance _ g i n)

theorem inners_upstream (i : StationIx) (zone : Fin 16) (r : RecordIx) : Inners s (upstream i zone r s).state := by
  unfold upstream
  refine path_test (inners_of_stills (stills_testPermit s .up _ i)) fun s _ => ?_
  refine path_test (inners_of_stills (stills_testPolicing s .up _ i)) fun s _ => ?_
  refine path_test (inners_of_stills (stills_testAllowance s _ i)) fun s _ => ?_
  split
  · rfl
  · simp only
    split
    · exact ((inners_enqueue _ r s).trans (inners_setClass r _ _ _)).trans
        (inners_of_stills ((stills_commit _ .up _ i _).trans (stills_countStation _ i _)))
    · exact (inners_countDrop _ s).trans (inners_of_stills (stills_raise _ _))

theorem inners_neighbour (i d : StationIx) (r : RecordIx) : Inners s (neighbour i d r s).state := by
  unfold neighbour
  refine path_test (inners_of_stills (stills_testPermit s .up _ i)) fun s _ => ?_
  refine path_test (inners_of_stills (stills_testBarred s d)) fun s _ => ?_
  refine path_test (inners_of_stills (stills_testPermit s .down _ d)) fun s _ => ?_
  refine path_bind (fun t h => inners_of_stills (stills_testAttached s h)) fun p _ => ?_
  refine path_test (inners_of_stills (stills_testPolicing s .up _ i)) fun s _ => ?_
  refine path_test (inners_of_stills (stills_testPolicing s .down _ d)) fun s _ => ?_
  refine path_test (inners_of_stills (stills_testAllowance s _ i)) fun s _ => ?_
  refine path_test (inners_of_stills (stills_testAllowance s _ d)) fun s _ => ?_
  refine path_test (inners_admitTo s d p _ r) fun s _ => inners_of_stills ?_
  exact ((((stills_deductCredit s .up _ i _).trans (stills_deductCredit _ .down _ d _)).trans
    (stills_chargeAllowance _ _ i _)).trans (stills_chargeAllowance _ _ d _)).trans
      ((stills_countStation _ i _).trans (stills_countStation _ d _))

theorem inners_downstream (d : StationIx) (h : Header) (r : RecordIx) : Inners s (downstream d h r s).state := by
  unfold downstream
  refine path_test (inners_of_stills (stills_testBarred s d)) fun s _ => ?_
  refine path_bind (fun t h => inners_of_stills (stills_testAttached s h)) fun p _ => ?_
  refine path_test (inners_of_stills (stills_testPermit s .down _ d)) fun s _ => ?_
  refine path_test (inners_of_stills (stills_testPolicing s .down _ d)) fun s _ => ?_
  refine path_test (inners_of_stills (stills_testAllowance s _ d)) fun s _ => ?_
  refine path_test (inners_admitTo s d p _ r) fun s _ => inners_of_stills ?_
  exact (stills_commit s .down _ d _).trans (stills_countStation _ d _)

theorem inners_decideCarriage {p : Port} (r : RecordIx) (carriage : isCarriage p = true)
    (up : isUpOrHeld (s.port p).state = true) : Inners s (decideCarriage p r s).state := by
  unfold decideCarriage
  simp only
  split
  · exact inners_of_stills (stills_countGlobal s _)
  · refine path_bind (fun t h => inners_of_stills (stills_sourceEntry s h)) fun found ok => ?_
    obtain ⟨i, t⟩ := found
    obtain ⟨path, used, ports, -, -⟩ := sourceEntry_ok s ok
    refine (inners_of_stills path).trans (path_test (inners_of_stills (stills_testBarred t i)) fun t' unbarred => ?_)
    obtain ⟨rfl, -⟩ := testBarred_ok t unbarred
    refine path_test (inners_of_stills (stills_attachStep t' used carriage (by rw [State.port, ports]; exact up))) fun u _ => ?_
    refine (inners_of_stills (stills_markSeen u i)).trans ?_
    split
    · exact inners_neighbour _ i _ r
    · exact inners_upstream _ i _ r

theorem inners_settleVerdict {r : RecordIx} {v : Verdict} (h : Inners s v.state) : Inners s (settleVerdict r v) := by
  cases v with
  | ok t => exact h
  | error t => exact h.trans (Inner.release t r).path

theorem stills_handOver (b : Side) (r : RecordIx) : Stills s (handOver b r s) := by
  unfold handOver
  simp only
  split
  · exact stills_countGlobal s _
  · split
    · next room =>
      refine stills_mgmt s _ fun _ => ?_
      simp only [Config.inputQueueSize] at room
      simp only [List.length_append, List.length_singleton]
      omega
    · exact (stills_countGlobal s _).trans (stills_raise _ _)

theorem inners_decideManagement (b : Side) (r : RecordIx) : Inners s (decideManagement b r s) := by
  have handed := inners_of_stills (stills_handOver s b r)
  unfold decideManagement
  simp only
  split
  · split
    · exact handed.trans (inners_settleVerdict _ (inners_throughOffer _ _ r))
    · exact handed.trans (Inner.release _ r).path
  · exact inners_settleVerdict s (inners_throughOffer s _ r)

theorem inners_offerCopy (r : RecordIx) (q : QueueId) : Inners s (offerCopy r s q) := by
  rcases offerCopy_cases r q s with ⟨-, h⟩ | ⟨-, -, h⟩ | ⟨-, -, h⟩ <;> rw [h]
  · exact inners_enqueue q r s
  · exact inners_of_stills (stills_countGlobal s _)
  · exact inners_countDrop q s

theorem inners_replicate (b : Side) (r : RecordIx) : Inners s (replicate b r s) := by
  have offered : Inners s ((floodQueues b s).foldl (offerCopy r) s) := path_foldl (fun t q _ => inners_offerCopy t r q) s
  unfold replicate
  simp only
  split
  · exact offered.trans (Inner.release _ r).path
  · exact offered.trans (inners_setClass r _ _ _)

theorem inners_decideBackbone (b : Side) (r : RecordIx) : Inners s (decideBackbone b r s) := by
  unfold decideBackbone
  simp only
  split
  · exact inners_decideManagement s b r
  · split
    · exact (inners_of_stills (stills_countGlobal s _)).trans (Inner.release _ r).path
    · split
      · exact inners_replicate s b r
      · split
        · exact inners_settleVerdict s (inners_downstream s _ _ r)
        · exact inners_settleVerdict s (inners_throughOffer s _ r)

theorem inners_decideTransit (b : Side) (r : RecordIx) : Inners s (decideTransit b r s) := by
  unfold decideTransit
  split
  · exact inners_decideManagement s b r
  · exact inners_settleVerdict s (inners_throughOffer s _ r)

/-- A port that is of no side is a carriage port. -/
theorem isCarriage_of_portClass {p : Port} (h : ∀ b, portClass p ≠ .backbone b) : isCarriage p = true := by
  by_contra no
  have small : p.val < 2 := by simpa [isCarriage] using no
  have zero_or_one : p = sidePort .fore ∨ p = sidePort .aft := by simp only [sidePort, Fin.ext_iff]; omega
  rcases zero_or_one with rfl | rfl
  · exact h .fore (portClass_side _)
  · exact h .aft (portClass_side _)

theorem inners_decideFrame (p : Port) (r : RecordIx) : Inners s (decideFrame p r s) := by
  unfold decideFrame
  split
  · exact inners_decideBackbone s _ r
  · exact inners_decideTransit s _ r
  · exact (Inner.release s r).path
  · next notBackbone =>
    split
    · next up => exact inners_settleVerdict s (inners_decideCarriage s r (isCarriage_of_portClass notBackbone) up)
    · exact (Inner.release s r).path
  · exact (Inner.release s r).path

end

end Sys2Proof.Machine

namespace Sys2Proof.Machine

open Sys2Proof Relation

/-! ## Reception and port states -/

section

variable (s : State)

/-- A change of a port unit beside its intake, its station count and its seat limit. -/
theorem changes_unit (p : Port) (f : PortUnit → PortUnit)
    (h : (f (s.port p)).intake = (s.port p).intake ∧ (f (s.port p)).seatCount = (s.port p).seatCount ∧
      (f (s.port p)).seatLimit = (s.port p).seatLimit) : Changes s (s.modPort p f) :=
  (Change.unit s p f (by rw [h.1]; exact id) h.2.1 h.2.2).path

theorem changes_setRx (p : Port) (x : RxState) : Changes s (setRx p x s) := changes_unit s p _ ⟨rfl, rfl, rfl⟩

theorem changes_abandon (p : Port) (x : RxState) : Changes s (abandon p x s) := by
  unfold abandon
  split
  · exact (changes_of_inners (Inner.release s _).path).trans (changes_setRx _ p x)
  · rfl

theorem changes_abandonReception (p : Port) : Changes s (abandonReception p s) :=
  (changes_abandon s p .idle).trans (changes_setRx _ p .idle)

theorem changes_requestCell (p : Port) (r : RecordIx) (n : Nat) : Changes s (requestCell p r n s) := by
  unfold requestCell
  split
  · exact (changes_of_inners (Inner.giveCell s r).path).trans (changes_setRx _ p _)
  · exact changes_abandon s p _

theorem changes_outgrow (p : Port) : Changes s (outgrow p s) := by
  unfold outgrow
  split
  · split
    · exact changes_requestCell s p _ _
    · rfl
  · rfl

theorem changes_growTo (p : Port) (n k : Nat) : Changes s (growTo p n k s) := by
  induction k generalizing s with
  | zero => rfl
  | succ k ih =>
    unfold growTo
    split
    · split
      · exact (changes_outgrow s p).trans (ih _)
      · rfl
    · rfl

theorem changes_arriveTo (p : Port) (n : Nat) : Changes s (arriveTo p n s) := by
  unfold arriveTo
  simp only
  split
  · exact (changes_growTo s p n _).trans (changes_abandon _ p _)
  · exact changes_growTo s p n _

/-- A frame still in reception at its end is no longer than a frame may be (01 R3). -/
theorem length_of_arriveTo_storing {p : Port} {n : Nat} {r : RecordIx} {k : Nat}
    (h : ((arriveTo p n s).port p).rx = .storing r k) : n ≤ 1522 := by
  by_contra long
  have beyond : Config.maxFrame < n := by simp only [Config.maxFrame]; omega
  simp only [arriveTo, if_pos beyond, tooLong, abandon] at h
  split at h
  · simp [setRx] at h
  · next notStoring => exact notStoring _ _ h

theorem changes_startFlush (p : Port) : Changes s (startFlush p s) := changes_unit s p _ ⟨rfl, rfl, rfl⟩

theorem changes_changePort (p : Port) (st : PortState) : Changes s (changePort p st s) := by
  have set : Changes s (s.modPort p (fun u => { u with state := st })) := changes_unit s p _ ⟨rfl, rfl, rfl⟩
  unfold changePort
  simp only
  split
  · rfl
  · cases st with
    | off =>
      have stopped := set.trans (changes_abandonReception _ p)
      simp only
      split
      · exact (stopped.trans (changes_of_stills (Still.detachAll _ p).path)).trans (changes_startFlush _ p)
      · exact stopped.trans (changes_startFlush _ p)
    | held => exact set.trans (changes_abandon _ p _)
    | up => exact set
    | down => exact set

theorem changes_evaluatePort (p : Port) : Changes s (evaluatePort p s) := changes_changePort s p _

theorem inners_releaseAll (l : List RecordIx) : Inners s (l.foldl (fun t r => releaseRecord r t) s) :=
  path_foldl (fun t r _ => (Inner.release t r).path) s

theorem changes_flushIntake (p : Port) : Changes s (flushIntake p s) :=
  (changes_of_inners (inners_releaseAll s _)).trans
    (Change.unit _ p (fun u => { u with intake := [] }) (fun _ => Nat.zero_le 2) rfl rfl).path

theorem changes_flushLateIntake (p : Port) : Changes s (flushLateIntake p s) := by
  unfold flushLateIntake
  split
  · exact changes_flushIntake s p
  · rfl

/-! ## Frames -/

theorem changes_beginReception (p : Port) : Changes s (beginReception p s) := by
  unfold beginReception
  split
  · exact changes_setRx s p _
  · split
    · exact changes_setRx s p _
    · split
      · exact (changes_of_inners ((Inner.record s _ (fun _ => { FrameRecord.fresh with stage := .receiving })
          (fun _ => Nat.zero_le _)).path.trans (Inner.giveCell _ _).path)).trans (changes_setRx _ p _)
      · exact changes_setRx s p _

theorem changes_joinIntake (p : Port) (r : RecordIx) {bytes : List Byte} (length : bytes.length ≤ 1522)
    (room : (s.port p).intake.length < 2) : Changes s (joinIntake p r bytes s) := by
  unfold joinIntake
  simp only
  refine .trans (changes_of_inners ((Inner.write s r bytes).path.trans (Inner.record _ r _ fun _ => length).path)) (.trans
    (Change.unit _ p (fun u => { u with intake := u.intake ++ [r] }) (fun _ => ?_) rfl rfl).path
    (changes_of_stills (stills_countPort _ p _)))
  simp only [List.length_append, List.length_singleton, modRecord_port]
  exact room

/-- The end of a frame that, if it is in reception, is not too long (01 R4). -/
theorem changes_settleFrame (p : Port) {bytes : List Byte} (good : Bool)
    (length : ∀ r k, (s.port p).rx = .storing r k → bytes.length ≤ 1522) : Changes s (settleFrame p bytes good s) := by
  have refused : ∀ r c, Changes s (countPort p c (releaseRecord r (setRx p .idle s))) := fun r c =>
    ((changes_setRx s p .idle).trans (changes_of_inners (Inner.release _ r).path)).trans
      (changes_of_stills (stills_countPort _ p c))
  unfold settleFrame
  split
  · rfl
  · exact (changes_of_stills (stills_countPort s p _)).trans (changes_setRx _ p _)
  · next r k storing =>
    simp only
    split
    · exact refused _ _
    · split
      · exact refused _ _
      · split
        · exact refused _ _
        · split
          · next room =>
            exact (changes_setRx s p .idle).trans (changes_joinIntake _ p r (length r k storing) (by simpa [setRx, Config.intakePlaces] using room))
          · exact refused _ _

/-- The arbiter's last carriage port stays one (01 R8). -/
theorem arbitrate_lastCarriage {p : Port} {a : Arbiter} (h : arbitrate s = some (p, a)) (carriage : 2 ≤ s.arb.lastCarriage.val) :
    2 ≤ a.lastCarriage.val := by
  unfold arbitrate at h
  simp only at h
  split at h
  · cases h; exact carriage
  · split at h
    · cases h; exact carriage
    · obtain ⟨q, found, same⟩ := Option.map_eq_some_iff.1 h
      cases same
      have mem := List.mem_of_find?_eq_some found
      simp only [carriageOrder, carriagePorts, List.mem_append, List.mem_filter] at mem
      have carriage : isCarriage p = true := by rcases mem with ⟨⟨-, c⟩, -⟩ | ⟨⟨-, c⟩, -⟩ <;> exact c
      exact of_decide_eq_true carriage

theorem changes_takeOldest : Changes s (takeOldest s) := by
  unfold takeOldest
  split
  · rfl
  · next p a chosen =>
    split
    · rfl
    · next r rest intake =>
      have served : Change s { s with arb := a } := .serve s a (arbitrate_lastCarriage s chosen)
      have taken : Change { s with arb := a } (({ s with arb := a } : State).modPort p (fun u => { u with intake := rest })) :=
        .unit _ p _ (fun (few : (s.port p).intake.length ≤ 2) => by
          rw [intake] at few; exact Nat.le_trans (Nat.le_succ _) few) rfl rfl
      exact (served.path.trans taken.path).trans (changes_of_inners (inners_decideFrame _ p r))

/-! ## Links and resets -/

theorem changes_setLink (p : Port) (up : Bool) : Changes s (setLink p up s) := changes_unit s p _ ⟨rfl, rfl, rfl⟩

theorem changes_setLine (p : Port) (up : Bool) : Changes s (setLine p up s) := (Change.line s _).path

theorem changes_linkUp (p : Port) : Changes s (linkUp p s) := by
  have linked := (changes_of_stills (stills_noteLinkChange s p)).trans (changes_setLink _ p true)
  unfold linkUp
  simp only
  split
  · exact linked.trans (changes_changePort _ p _)
  · exact linked

theorem changes_lineUp (p : Port) : Changes s (lineUp p s) := by
  unfold lineUp
  split
  · exact (changes_setLine s p true).trans (changes_linkUp _ p)
  · exact changes_setLine s p true

theorem changes_carriageLinkLoss (p : Port) : Changes s (carriageLinkLoss p s) := by
  have lost := (changes_of_stills (stills_noteLinkChange s p)).trans (changes_setLink _ p false)
  unfold carriageLinkLoss
  simp only
  split
  · exact (((((lost.trans (changes_unit _ p (fun u => { u with state := .down }) ⟨rfl, rfl, rfl⟩)).trans
      (changes_abandonReception _ p)).trans (changes_of_inners (inners_abortTransmission p _))).trans
        (changes_of_stills (Still.detachAll _ p).path))).trans (changes_startFlush _ p)
  · exact lost.trans (changes_of_inners (inners_abortTransmission p _))

theorem changes_backboneLinkLoss (b : Side) : Changes s (backboneLinkLoss b s) := by
  have lost := (changes_of_stills (stills_noteLinkChange s (sidePort b))).trans (changes_setLink _ (sidePort b) false)
  unfold backboneLinkLoss
  simp only
  exact ((((lost.trans (changes_abandonReception _ _)).trans (changes_of_inners (inners_abortTransmission _ _))).trans
    (changes_of_stills (stills_emptySlot _ b))).trans (changes_startFlush _ _)).trans (changes_of_stills (stills_raise _ _))

theorem changes_linkUpLines : Changes s (linkUpLines s) :=
  path_foldl (fun t p _ => by
    split
    · exact changes_linkUp t p
    · rfl) s

theorem changes_clearLinks : Changes s (clearLinks s) := (Change.units s _ fun _ => ⟨false, rfl⟩).path

theorem stills_checkStraps : Stills s (checkStraps s) := by
  unfold checkStraps
  split
  · exact stills_raise s _
  · rfl

theorem changes_assertReset : Changes s (assertReset s) := by
  unfold assertReset
  split
  · rfl
  · exact (((Change.powerOn s).path.trans (changes_setLine _ 0 false))).trans (changes_setLine _ 1 false)

theorem changes_releaseReset (straps : BitVec 6) : Changes s (releaseReset straps s) := by
  unfold releaseReset
  simp only
  split
  · exact ((((Change.line s _).path.trans (changes_of_stills (stills_checkStraps _))).trans (Change.line _ _).path).trans
      (changes_clearLinks _)).trans (changes_linkUpLines _)
  · rfl

theorem changes_restartPart : Changes s (restartPart s) := by
  unfold restartPart
  simp only
  split
  · exact (((Change.powerOn s).path.trans (Change.line _ _).path).trans (changes_of_stills (stills_checkStraps _))).trans
      (changes_linkUpLines _)
  · rfl

/-! ## Time -/

/-- A change of the timebase beside its divisors. -/
theorem stills_time (x : Timebase) (h : x.divisor = s.time.divisor ∧ x.divisorWritten = s.time.divisorWritten) :
    Stills s { s with time := x } := by
  refine .single (.aside ⟨rfl, rfl, rfl, rfl, rfl, rfl, rfl, id, id, rfl, fun ⟨inForce, awaited, rest⟩ => ⟨?_, ?_, rest⟩⟩)
  · rw [h.1]; exact inForce
  · rw [h.2]; exact awaited

theorem stills_refreshVisit : Stills s (refreshVisit s) := by
  have visited : Stills s (if (s.entry s.time.refreshPointer).state = .free
      then s.modEntry s.time.refreshPointer (fun e => { e with lastRefill := s.time.tick }) else refill s.time.refreshPointer s) := by
    split
    · exact stills_entry s _ _ (by and_intros <;> rfl)
    · exact stills_refill s _
  unfold refreshVisit
  simp only
  generalize (if (s.entry s.time.refreshPointer).state = .free then _ else _ : State) = t at visited ⊢
  exact visited.trans (stills_time t _ ⟨rfl, rfl⟩)

/-- A divisor in force is one that was in force or written (04 R60). -/
theorem stills_refillArrives : Stills s (refillArrives s) := by
  have advanced : Still s { s with time := { s.time with
      periodCount := 0, divisor := s.time.divisorWritten.getD s.time.divisor, divisorWritten := none,
      tick := s.time.tick + 1 } } := by
    refine .aside ⟨rfl, rfl, rfl, rfl, rfl, rfl, rfl, id, id, rfl, fun ⟨divisor, written, rest⟩ => ⟨?_, fun d h => (by cases h), rest⟩⟩
    cases h : s.time.divisorWritten with
    | none => exact divisor
    | some d => exact written d h
  exact advanced.path.trans (stills_refreshVisit _)

theorem stills_advanceMs : Stills s (advanceMs s) := stills_time s _ ⟨rfl, rfl⟩

theorem stills_secondsStep : Stills s (secondsStep s) := by
  unfold secondsStep
  split
  · exact stills_time s _ ⟨rfl, rfl⟩
  · rfl

theorem stills_spacingStep : Stills s (spacingStep s) := by
  unfold spacingStep
  split
  · exact stills_notice s _ rfl
  · rfl

theorem stills_slowArrives : Stills s (slowArrives s) :=
  (((stills_advanceMs s).trans (stills_secondsStep _)).trans (stills_agingVisit _)).trans (stills_spacingStep _)

/-- The two counts of a microsecond, before its ticks (04 R59, R61). -/
def microCounted (s : State) : State :=
  { s with time := { s.time with periodCount := s.time.periodCount + 1, micro := s.time.micro + 1 } }

/-- The counts of a microsecond and the refill tick, where one arrives. -/
def microRefilled (s : State) : State :=
  if s.time.divisor ≤ s.time.periodCount + 1 then refillArrives (microCounted s) else microCounted s

theorem microsecond_eq : microsecond s = if running s
    then (if 1000 ≤ (microRefilled s).time.micro then slowArrives (microRefilled s) else microRefilled s) else s := rfl

theorem stills_microsecond : Stills s (microsecond s) := by
  have counted : Stills s (microCounted s) := stills_time s _ ⟨rfl, rfl⟩
  have ticked : Stills s (microRefilled s) := by
    unfold microRefilled
    split
    · exact counted.trans (stills_refillArrives _)
    · exact counted
  rw [microsecond_eq]
  split
  · split
    · exact ticked.trans (stills_slowArrives _)
    · exact ticked
  · rfl

/-- A step that is taken only out of RESET. -/
theorem path_ite {R : State → State → Prop} {P : Prop} [Decidable P] {s t : State} (h : ReflTransGen R s t) :
    ReflTransGen R s (if P then t else s) := by
  split
  · exact h
  · rfl

/-! ## Walks -/

theorem inners_purgeVisit : Inners s (purgeVisit s) := by
  unfold purgeVisit
  split
  · rfl
  · split
    · rfl
    · exact (inners_sweepQueue _ _ s).trans (inners_of_stills (stills_purge _ _))

theorem stills_purgeFinish : Stills s (purgeFinish s) := by
  unfold purgeFinish
  split
  · rfl
  · split
    · exact stills_finishItem s _ _
    · exact (stills_waitItem s _).trans (stills_freeReleased _ _)
    · rfl

theorem stills_purgeEnd : Stills s (purgeEnd s) := by
  unfold purgeEnd
  split
  · rfl
  · split
    · exact (stills_purge s none).trans (stills_purgeFinish _)
    · rfl

theorem changes_flushVisit (p : Port) : Changes s (flushVisit p s) := by
  have moved : ∀ k t, Changes t (t.modPort p (fun u => { u with flush := some (k + 1) })) := fun k t =>
    changes_unit t p _ ⟨rfl, rfl, rfl⟩
  unfold flushVisit
  simp only
  split
  · rfl
  · exact (changes_flushIntake s p).trans (moved 0 _)
  · split
    · rfl
    · exact (changes_of_inners (inners_sweepQueue _ _ s)).trans (moved _ _)

theorem changes_walkFinish (p : Option Port) : Changes s (walkFinish p s) := by
  have finished : ∀ st data t, Changes t (finishItem st data t) := fun st data t => changes_of_stills (stills_finishItem t st data)
  unfold walkFinish
  split
  · rfl
  · split
    · exact path_ite (finished _ _ s)
    · refine path_ite (.trans ?_ (finished _ _ _))
      exact path_ite (changes_evaluatePort s _)
    · exact path_ite (finished _ _ s)
    · rfl

theorem changes_flushEnd (p : Port) : Changes s (flushEnd p s) := by
  unfold flushEnd
  split
  · rfl
  · exact path_ite (.trans (changes_unit s p _ ⟨rfl, rfl, rfl⟩) (changes_walkFinish _ _))

theorem inners_classVisit (b : Side) : Inners s (classVisit b s) := by
  unfold classVisit
  split
  · rfl
  · split
    · exact (inners_sweepQueue _ _ s).trans (inners_of_stills (stills_side _ b _ fun _ => id))
    · rfl

theorem changes_classEnd (b : Side) : Changes s (classEnd b s) := by
  unfold classEnd
  split
  · rfl
  · exact path_ite (.trans (changes_of_stills (stills_side s b _ fun _ => id)) (changes_walkFinish _ _))

end

end Sys2Proof.Machine

namespace Sys2Proof.Machine

open Sys2Proof Relation

/-! ## Items -/

/-- The state an item's effect leaves, before its answer. -/
def ItemEffect.after (s : State) : ItemEffect → State
  | .refuse _ => s
  | .done t _ _ => t
  | .wait t _ => t

theorem after_refuse (s : State) (st : Status) : (ItemEffect.refuse st).after s = s := rfl
theorem after_done (s t : State) (data : List Byte) (clamped : Bool) : (ItemEffect.done t data clamped).after s = t := rfl
theorem after_wait (s t : State) (ph : ExecPhase) : (ItemEffect.wait t ph).after s = t := rfl

/-- An item's answer, or its wait, is a still change after its effect (10 R158, R159). -/
theorem stills_applyEffect (s : State) (e : ItemEffect) : Stills (e.after s) (applyEffect s e) := by
  cases e with
  | refuse st => exact stills_finishItem s st []
  | done t data clamped => exact stills_finishItem t _ data
  | wait t ph => exact stills_waitItem t ph

/-- What still changes keep, an item keeps when its effect does. -/
theorem runItem_keeps {P : State → Prop} (still : ∀ {t u : State}, Stills t u → P t → P u) {α : Type} {is : RawItem → Bool}
    {parse : List Byte → Option α} {eff : α → State → ItemEffect} {s : State} (hs : P s)
    (h : ∀ ps a, parse ps = some a → P ((eff a s).after s)) : P (runItem is parse eff s) := by
  unfold runItem
  split
  · exact hs
  · split
    · split
      · exact still (stills_finishItem s _ _) hs
      · next parsed => exact still (stills_applyEffect s _) (h _ _ parsed)
    · exact hs

theorem changes_runItem {α : Type} {is : RawItem → Bool} {parse : List Byte → Option α} {eff : α → State → ItemEffect} {s : State}
    (h : ∀ ps a, parse ps = some a → Changes s ((eff a s).after s)) : Changes s (runItem is parse eff s) :=
  runItem_keeps (fun still path => path.trans (changes_of_stills still)) .refl h

theorem resolve_ok {s : State} {r : StationRef} {i : StationIx} (found : resolve s r = .ok i) : (s.entry i).state ≠ .free := by
  unfold resolve at found
  split at found
  · split at found <;> cases found
    next held => exact held.1
  · split at found <;> cases found
    next hit => exact (lookup_some hit).2.1

/-- A station item is refused, or has its effect on a used entry (02 R29). -/
theorem onStation_keeps {P : State → Prop} {r : StationRef} {s : State} {k : StationIx → ItemEffect} (hs : P s)
    (h : ∀ i, (s.entry i).state ≠ .free → P ((k i).after s)) : P ((onStation r s k).after s) := by
  unfold onStation
  split
  · exact hs
  · next i found => exact h i (resolve_ok found)

theorem changes_onStation {r : StationRef} {s : State} {k : StationIx → ItemEffect}
    (h : ∀ i, (s.entry i).state ≠ .free → Changes s ((k i).after s)) : Changes s ((onStation r s k).after s) :=
  onStation_keeps .refl h

/-- A reference that is resolved, or an entry made for it, names a used entry (02 R30). -/
theorem resolveOrCreate_ok {s t : State} {r : StationRef} {i : StationIx} (h : resolveOrCreate s r = .ok (i, t)) :
    Stills s t ∧ (t.entry i).state ≠ .free ∧ t.ports = s.ports ∧ t.line = s.line := by
  unfold resolveOrCreate at h
  split at h
  · simp only [resolve] at h
    split at h
    · next held => cases h; exact ⟨.refl, held.1, rfl, rfl⟩
    · cases h
  · split at h
    · next hit => cases h; exact ⟨.refl, (lookup_some hit).2.1, rfl, rfl⟩
    · next miss =>
      split at h
      · next way =>
        cases h
        obtain ⟨bucket, free, -⟩ := freeWay_eq_some.1 way
        exact ⟨(Still.create s _ _ free bucket miss).path, by simp [createEntry, newEntry], rfl, rfl⟩
      · cases h

section

variable (s : State)

theorem stills_barEntry {i : StationIx} (used : (s.entry i).state ≠ .free) : Stills s (barEntry i s) := by
  have stays : ((detachStation i s).entry i).state = (s.entry i).state := by
    unfold detachStation
    split
    · rfl
    · simp [State.entry]
  unfold barEntry
  refine .trans (.trans (Still.detach s i).path (.single (.entry _ i _ ⟨?_, rfl, rfl, id⟩ rfl))) (stills_purge _ _)
  rw [stays]
  exact ⟨nofun, fun h => absurd h used⟩

theorem meteredWith_allowanceAgrees (v : Option Nat) (e : StationEntry) : (meteredWith v e).allowanceAgrees := by
  cases v with
  | none => simp [meteredWith, StationEntry.allowanceAgrees]
  | some n =>
    rw [meteredWith_some]
    simp only [StationEntry.allowanceAgrees, decide_eq_true_eq, true_and]
    exact ⟨by omega, nofun, by omega⟩

/-- What a change of an entry's allowance leaves of it. -/
theorem meteredWith_keeps (v : Option Nat) (e : StationEntry) : (meteredWith v e).state = e.state ∧ (meteredWith v e).addr = e.addr ∧
    (meteredWith v e).attachment = e.attachment ∧ (meteredWith v e).heldCount = e.heldCount := by
  cases v with
  | none => exact ⟨rfl, rfl, rfl, rfl⟩
  | some n => rw [meteredWith_some]; exact ⟨rfl, rfl, rfl, rfl⟩

theorem stills_meteredWith (i : StationIx) (v : Option Nat) : Stills s (s.modEntry i (meteredWith v)) := by
  obtain ⟨state, addr, attachment, held⟩ := meteredWith_keeps v (s.entry i)
  exact (Still.entry s i _ ⟨by rw [state], addr, attachment, fun _ => meteredWith_allowanceAgrees v _⟩ held).path

/-- What ADMIT leaves of an entry (02 R29). -/
theorem admitted_keeps (p : Fin 32) (v : Option Nat) (s : State) (e : StationEntry) : (admitted p v s e).state = .admitted ∧
    (admitted p v s e).addr = e.addr ∧ (admitted p v s e).attachment = e.attachment ∧
    (admitted p v s e).heldCount = e.heldCount := by
  have kept := fun f : StationEntry => meteredWith_keeps v f
  simp only [admitted, kept]
  split <;> exact ⟨trivial, rfl, rfl, rfl⟩

theorem stills_admitEffect (w : StationRef × Fin 32 × Option Nat) : Stills s ((admitEffect w s).after s) := by
  unfold admitEffect
  split
  · rfl
  · next i t found =>
    obtain ⟨path, used, -, -⟩ := resolveOrCreate_ok found
    obtain ⟨state, addr, attachment, held⟩ := admitted_keeps w.2.1 w.2.2 t (t.entry i)
    exact path.trans (Still.entry t i _ ⟨by rw [state]; exact ⟨nofun, fun h => absurd h used⟩, addr, attachment,
      fun _ => meteredWith_allowanceAgrees _ _⟩ held).path

theorem stills_barEffect (r : StationRef) : Stills s ((barEffect r s).after s) := by
  unfold barEffect
  split
  · rfl
  · next i t found =>
    obtain ⟨path, used, -, -⟩ := resolveOrCreate_ok found
    exact path.trans (stills_barEntry t used)

theorem stills_topUpEffect {w : StationRef × Nat} (amount : 0 < w.2) : Stills s ((topUpEffect w s).after s) := by
  refine onStation_keeps .refl fun i _ => ?_
  simp only
  split
  · next metered =>
    refine .single (.entry s i _ ⟨Iff.rfl, rfl, rfl, fun h => ?_⟩ rfl)
    simp only [StationEntry.allowanceAgrees, metered, toppedUp_eq_min, Bool.false_eq_true, true_and, false_iff]
    exact ⟨by omega, nofun, by omega⟩
  · rfl

theorem stills_takeReportsEffect (n : Nat) : Stills s ((takeReportsEffect n s).after s) :=
  .single (.aside ⟨rfl, rfl, rfl, rfl, rfl, rfl, rfl,
    fun few => by
      show (s.table.reports.drop _).length ≤ 48
      rw [List.length_drop]
      omega, id, rfl, id⟩)

/-! ## Settings -/

theorem written_bounds (lo hi : Nat) (o : Option Nat) (old : Nat) (order : lo ≤ hi) (h : lo ≤ old ∧ old ≤ hi) :
    lo ≤ written lo hi o old ∧ written lo hi o old ≤ hi := by
  cases o with
  | none => exact h
  | some v => simp only [written, clampTo]; omega

/-- The divisor of a SET_TIMING is in the list (04 R60). -/
theorem parseTiming_divisor {ps : List Byte} {t : TimingFields} (parsed : parseTiming ps = some t) :
    ∀ d, t.divisor = some d → d ∈ Config.divisors := by
  have valid : t.valid = true := by
    simp only [parseTiming, Option.bind_eq_bind, Option.bind_eq_some_iff] at parsed
    obtain ⟨_, -, parsed⟩ := parsed
    obtain ⟨-, parsed⟩ := Option.ite_none_left_eq_some.1 parsed
    simp only [Option.bind_eq_some_iff] at parsed
    obtain ⟨_, -, _, -, _, -, _, -, _, -, _, -, _, -, _, -, checked⟩ := parsed
    obtain ⟨valid, same⟩ := Option.ite_none_right_eq_some.1 checked
    exact Option.some.inj same ▸ valid
  intro d h
  simp only [TimingFields.valid, h, Bool.and_eq_true, decide_eq_true_eq] at valid
  exact valid.2

theorem stills_timingWritten {t : TimingFields} (h : ∀ d, t.divisor = some d → d ∈ Config.divisors) :
    Stills s (timingWritten t s) := by
  refine .single (.aside ⟨rfl, rfl, rfl, rfl, rfl, rfl, rfl, id, id, rfl, ?_⟩)
  rintro ⟨inForce, awaited, holdOff, flap, rehome, learned, adm, spacing, rest⟩
  refine ⟨inForce, fun d hd => ?_, (written_bounds 0 1023 _ _ (by decide) ⟨Nat.zero_le _, holdOff⟩).2,
    written_bounds 1 15 _ _ (by decide) flap, (written_bounds 0 255 _ _ (by decide) ⟨Nat.zero_le _, rehome⟩).2,
    written_bounds 1 255 _ _ (by decide) learned, written_bounds 1 4095 _ _ (by decide) adm,
    written_bounds 1 255 _ _ (by decide) spacing, rest⟩
  simp only [timingWritten] at hd
  split at hd
  · exact awaited d hd
  · next h' => exact h d (h'.trans hd)

theorem inners_writeLimit (q : QueueId) (v : Nat) : Inners s (writeLimit q v s) :=
  (Inner.queue s q _ fun _ => by simp only [clampTo, Config.queueLimitMax]; omega).path

theorem inners_writeNamedLimit (p : Port) (x : QueueKind × Nat) : Inners s (writeNamedLimit p s x) := by
  unfold writeNamedLimit
  split
  · rfl
  · exact inners_writeLimit s _ _

theorem inners_writeLimits (p : Port) (l : List (QueueKind × Nat)) : Inners s (l.foldl (writeNamedLimit p) s) :=
  path_foldl (fun t x _ => inners_writeNamedLimit t p x) s

/-- SET_PORT's values but the enable one. -/
theorem changes_portWritten (w : PortWrite) : Changes s (portWritten w s) := by
  have seat := (Still.port s w.port (fun u => { u with seatLimit := written 1 4 w.seatLimit u.seatLimit })
    ⟨rfl, rfl, rfl, rfl, rfl, rfl, rfl, rfl, written_bounds 1 4 _ _ (by decide)⟩).path
  have rest := changes_unit (s.modPort w.port (fun u => { u with seatLimit := written 1 4 w.seatLimit u.seatLimit })) w.port
    (fun u => { u with enable := w.enable.getD u.enable, hold := w.hold.getD u.hold, flood := w.flood.getD u.flood }) ⟨rfl, rfl, rfl⟩
  have both : s.modPort w.port (fun u => { u with
        enable := w.enable.getD u.enable, hold := w.hold.getD u.hold, flood := w.flood.getD u.flood,
        seatLimit := written 1 4 w.seatLimit u.seatLimit })
      = (s.modPort w.port (fun u => { u with seatLimit := written 1 4 w.seatLimit u.seatLimit })).modPort w.port
        (fun u => { u with enable := w.enable.getD u.enable, hold := w.hold.getD u.hold, flood := w.flood.getD u.flood }) := by
    simp [State.modPort]
  unfold portWritten
  rw [both]
  exact ((changes_of_stills seat).trans rest).trans (changes_of_inners (inners_writeLimits _ _ _))

theorem changes_setPortEffect (w : PortWrite) : Changes s ((setPortEffect w s).after s) := by
  have evaluated := (changes_portWritten s w).trans (changes_evaluatePort _ w.port)
  unfold setPortEffect
  split
  · rfl
  · simp only
    split
    · split
      · exact evaluated
      · exact evaluated
    · exact changes_portWritten s w

theorem changes_resetPortEffect (p : Port) : Changes s ((resetPortEffect p s).after s) := by
  unfold resetPortEffect
  split
  · rfl
  · split
    · rfl
    · split
      · exact (changes_changePort s p .off).trans (changes_startFlush _ p)
      · exact (changes_abandonReception s p).trans (changes_startFlush _ p)

theorem stills_writeQuantum (q : QueueId) (v : Nat) : Stills s (writeQuantum q v s) := by
  unfold writeQuantum
  split
  · rfl
  · refine stills_side s _ _ fun e h => ?_
    simp only [Tab.get_set]
    split
    · simp only [clampTo]; omega
    · exact h

theorem stills_writeReserve (v : Nat) : Stills s (writeReserve v s) := by
  have set : Stills s { s with mem := { s.mem with reserve := clampTo 0 256 v } } :=
    .single (.aside ⟨rfl, rfl, rfl, rfl, rfl, rfl, rfl, id, id, rfl, fun ⟨a, b, c, d, e, f, g, h, _, quanta⟩ =>
      ⟨a, b, c, d, e, f, g, h, by simp only [clampTo]; omega, quanta⟩⟩)
  unfold writeReserve
  simp only
  split
  · exact set.trans (stills_raise _ _)
  · exact set

theorem path_writeIf {R : State → State → Prop} {f : Nat → State → State} (h : ∀ t v, ReflTransGen R t (f v t))
    (o : Option Nat) : ReflTransGen R s (writeIf o f s) := by
  cases o with
  | none => rfl
  | some v => exact h s v

theorem inners_queueWritten (w : QueueWrite) : Inners s (queueWritten w s) := by
  have reserve : ∀ t, Inners t (writeIf w.reserve writeReserve t) := fun t =>
    path_writeIf t (fun t v => inners_of_stills (stills_writeReserve t v)) _
  unfold queueWritten
  simp only
  split
  · exact reserve s
  · exact ((path_writeIf s (fun t v => inners_writeLimit t _ v) _).trans
      (path_writeIf _ (fun t v => inners_of_stills (stills_writeQuantum t _ v)) _)).trans (reserve _)

theorem inners_readCountersEffect (w : CounterGroup × Bool) : Inners s ((readCountersEffect w s).after s) := by
  unfold readCountersEffect
  split
  · exact path_ite (inners_of_stills (.single (.port s _ _ ⟨rfl, rfl, rfl, rfl, rfl, rfl, rfl, rfl, id⟩)))
  · split
    · rfl
    · exact path_ite (Inner.queue s _ _ id).path
  · split
    · rfl
    · exact path_ite (inners_of_stills (stills_entry s _ _ (by and_intros <;> rfl)))
  · exact path_ite (inners_of_stills (stills_globals s _))

/-! ## The line items -/

theorem changes_startEffect : Changes s ((startEffect s).after s) := by
  unfold startEffect
  split
  · have served : Changes s (s.modLine (fun l => { l with part := .service })) := (Change.line s _).path
    rw [after_done]
    exact served.trans (path_foldl (fun t p _ => changes_evaluatePort t p) _)
  · rfl

theorem stills_startClassFlush (b : Side) : Stills s (startClassFlush b s) := stills_side s b _ fun _ => id

theorem changes_standDownEffect : Changes s ((standDownEffect s).after s) := by
  unfold standDownEffect
  split
  · have stood : Changes s (s.modLine (fun l => { l with part := .transit })) := (Change.line s _).path
    rw [after_wait]
    exact (stood.trans (path_foldl (fun t p _ => ((changes_changePort t p .off).trans
      (changes_flushLateIntake _ p)).trans (changes_startFlush _ p)) _)).trans
        (changes_of_stills ((stills_startClassFlush _ .fore).trans (stills_startClassFlush _ .aft)))
  · rfl

theorem changes_setLineEffect (b : Side) : Changes s ((setLineEffect b s).after s) := by
  unfold setLineEffect
  split
  · rw [after_done]
    exact (Change.line s _).path
  · rfl

/-! ## Frames in execution, responses, notices -/

theorem stills_beginFrame : Stills s (beginFrame s) := by
  unfold beginFrame
  split
  · rfl
  · next waits =>
    refine path_ite (stills_mgmt s _ fun few => ?_)
    rw [waits] at few
    exact Nat.le_trans (Nat.le_succ _) few

theorem stills_placeResponse : Stills s (placeResponse s) := by
  unfold placeResponse
  split
  · rfl
  · split
    · simp only
      split
      · exact stills_mgmt s _ id
      · exact path_ite ((stills_side s _ _ fun _ => id).trans (stills_mgmt _ _ id))
    · rfl

theorem stills_sendNotice : Stills s (sendNotice s) := by
  unfold sendNotice
  split
  · rfl
  · exact path_ite ((stills_side s _ _ fun _ => id).trans (stills_notice _ _ rfl))

/-! ## Commands and steps -/

/-- A state that the part stops on is not one that a step leads to. -/
theorem changes_of_next {t u : State} (h : Host.Outcome.next (φ := Fault) (ρ := Refusal) u = .next t) (path : Changes s u) :
    Changes s t := by cases h; exact path

/-- Every command is a path of changes. -/
theorem changes_exec {c : Instr} {t : State} (h : exec c s = .next t) : Changes s t := by
  have item : ∀ {α : Type} {is : RawItem → Bool} {parse : List Byte → Option α} {eff : α → State → ItemEffect},
      (.next (runItem is parse eff s) : Host.Outcome State Fault Refusal) = .next t →
      (∀ ps a, parse ps = some a → Changes s ((eff a s).after s)) → Changes s t :=
    fun h path => changes_of_next s h (changes_runItem path)
  cases c with
  | resetPinAssert => exact changes_of_next s h (changes_assertReset s)
  | resetPinRelease straps => exact changes_of_next s h (changes_releaseReset s straps)
  | carriageLinkUp p =>
    simp only [exec, execCarriageLinkUp] at h
    split at h
    · exact changes_of_next s h (changes_lineUp s p)
    · cases h
  | carriageLinkDown p =>
    simp only [exec, execCarriageLinkDown] at h
    split at h
    · refine changes_of_next s h ?_
      split
      · exact (changes_setLine s p false).trans (changes_carriageLinkLoss _ p)
      · exact changes_setLine s p false
    · cases h
  | backboneLinkUp b => exact changes_of_next s h (changes_lineUp s (sidePort b))
  | backboneLinkDown b =>
    refine changes_of_next s h ?_
    split
    · exact (changes_setLine s _ false).trans (changes_backboneLinkLoss _ b)
    · exact changes_setLine s _ false
  | frameStart p => exact changes_of_next s h (path_ite (changes_beginReception s p))
  | cellRequest p => exact changes_of_next s h (changes_outgrow s p)
  | frameTooLong p => exact changes_of_next s h (changes_abandon s p _)
  | frameEnd p bytes good =>
    refine changes_of_next s h ?_
    split
    · rfl
    · exact (changes_arriveTo s p _).trans (changes_settleFrame _ p good fun _ _ => length_of_arriveTo_storing s)
  | takeFrame => exact changes_of_next s h (changes_takeOldest s)
  | transmitChoice p => exact changes_of_next s h (changes_of_inners (inners_choose p s))
  | transmitComplete p => exact changes_of_next s h (changes_of_inners (inners_complete p s))
  | refillTick => exact changes_of_next s h (path_ite (changes_of_stills (stills_refillArrives s)))
  | slowTick => exact changes_of_next s h (path_ite (changes_of_stills (stills_slowArrives s)))
  | secondsAdvance => exact changes_of_next s h (path_ite (changes_of_stills (stills_secondsStep s)))
  | learnedExpiry i => exact changes_of_next s h (path_ite (changes_of_stills (stills_learnedExpiryStep s i)))
  | admittedExpiry i => exact changes_of_next s h (path_ite (changes_of_stills (stills_admittedExpiryStep s i)))
  | holdOffEnd i => exact changes_of_next s h (path_ite (changes_of_stills (stills_holdOffStep s i)))
  | spacingEnd => exact changes_of_next s h (path_ite (changes_of_stills (stills_spacingStep s)))
  | purgeWalkVisit => exact changes_of_next s h (changes_of_inners (inners_purgeVisit s))
  | purgeWalkEnd => exact changes_of_next s h (changes_of_stills (stills_purgeEnd s))
  | flushWalkVisit p => exact changes_of_next s h (changes_flushVisit s p)
  | flushWalkEnd p => exact changes_of_next s h (changes_flushEnd s p)
  | classFlushVisit b => exact changes_of_next s h (changes_of_inners (inners_classVisit s b))
  | classFlushEnd b => exact changes_of_next s h (changes_classEnd s b)
  | mgmtFrameBegin => exact changes_of_next s h (changes_of_stills (stills_beginFrame s))
  | unknownItemCode => exact item h fun _ _ _ => .refl
  | identify => exact item h fun _ _ _ => .refl
  | readStatus => exact item h fun _ _ _ => .refl
  | start => exact item h fun _ _ _ => changes_startEffect s
  | standDown => exact item h fun _ _ _ => changes_standDownEffect s
  | restart => 
    have armed : Stills s (s.modMgmt (fun m => { m with restart := .armed })) := stills_mgmt s _ id
    exact item h fun _ _ _ => changes_of_stills armed
  | restartEvent => exact changes_of_next s h (changes_restartPart s)
  | setLine => exact item h fun _ b _ => changes_setLineEffect s b
  | setTiming => exact item h fun _ _ parsed => changes_of_stills (stills_timingWritten s (parseTiming_divisor parsed))
  | writeZoneMatch =>
    exact item h fun _ _ _ => changes_of_stills (.single (.aside ⟨rfl, rfl, rfl, rfl, rfl, rfl, rfl, id, id, rfl, id⟩))
  | readZoneMatch => exact item h fun _ _ _ => .refl
  | writeProfile =>
    exact item h fun _ _ _ => changes_of_stills (.single (.aside ⟨rfl, rfl, rfl, rfl, rfl, rfl, rfl, id, id, rfl, id⟩))
  | readProfile => exact item h fun _ _ _ => .refl
  | admitStation => exact item h fun _ w _ => changes_of_stills (stills_admitEffect s w)
  | barStation => exact item h fun _ r _ => changes_of_stills (stills_barEffect s r)
  | releaseStation => exact item h fun _ _ _ => changes_onStation fun _ used => changes_of_stills (stills_barEntry s used)
  | setAllowance => exact item h fun _ _ _ => changes_onStation fun i _ => changes_of_stills (stills_meteredWith s i _)
  | setAllowanceUnmetered => exact item h fun _ _ _ => changes_onStation fun i _ => changes_of_stills (stills_meteredWith s i _)
  | topUp => exact item h fun _ _ parsed => changes_of_stills (stills_topUpEffect s (parseTopUp_eq_some.1 parsed).2)
  | unpin =>
    exact item h fun _ _ _ => changes_onStation fun i _ => changes_of_stills (stills_entry s i _ (by and_intros <;> rfl))
  | readStation => exact item h fun _ _ _ => changes_onStation fun i _ => changes_of_stills (stills_refill s i)
  | findStation => exact item h fun _ _ _ => changes_onStation fun _ _ => .refl
  | takeReports => exact item h fun _ n _ => changes_of_stills (stills_takeReportsEffect s n)
  | setPort => exact item h fun _ w _ => changes_setPortEffect s w
  | resetPort => exact item h fun _ p _ => changes_resetPortEffect s p
  | setQueue => exact item h fun _ w _ => changes_of_inners (inners_queueWritten s w)
  | readCounters => exact item h fun _ w _ => changes_of_inners (inners_readCountersEffect s w)
  | setNotices => exact item h fun _ _ _ => changes_of_stills (stills_notice s _ rfl)
  | retireNotices => exact item h fun _ _ _ => changes_of_stills (stills_notice s _ rfl)
  | responsePlace => exact changes_of_next s h (changes_of_stills (stills_placeResponse s))
  | noticeSend => exact changes_of_next s h (changes_of_stills (stills_sendNotice s))

/-- Every step is a path of changes. -/
theorem changes_step {t : State} (h : step s = .next t) : Changes s t := by
  unfold step at h
  split at h
  · exact changes_of_next s h (changes_of_stills (stills_microsecond s))
  · next c rest _ =>
    have shifted : Still s { s with pending := rest } := .aside ⟨rfl, rfl, rfl, rfl, rfl, rfl, rfl, id, id, rfl, id⟩
    exact (changes_of_stills shifted.path).trans (changes_exec _ h)

end

/-- What every change keeps, every step keeps. -/
theorem step_keeps {P : State → Prop} (h : ∀ {s t : State}, Change s t → P s → P t) {s t : State} (hs : P s)
    (step : step s = .next t) : P t :=
  (changes_step s step).rec hs (fun _ c => h c)

end Sys2Proof.Machine

/-! # What each kind of change keeps -/

namespace Sys2Proof.Machine

open Sys2Proof Relation

/-! ## Entries and ports after the operations on attachments -/

theorem port_modSeatCount (p q : Port) (f : Nat → Nat) (s : State) : (modSeatCount p f s).port q =
    if p = q ∧ isSeat p = true then { s.port q with seatCount := f (s.port q).seatCount } else s.port q := by
  unfold modSeatCount
  by_cases seat : isSeat p = true
  · by_cases same : p = q
    · subst same; simp [seat]
    · simp [seat, same, port_modPort_ne]
  · simp [seat]

@[simp] theorem modSeatCount_entry (p : Port) (f : Nat → Nat) (s : State) (i : StationIx) :
    (modSeatCount p f s).entry i = s.entry i := by
  rw [State.entry, (modSeatCount_frame p f s).2.2.2.1, ← State.entry]

theorem entry_detachStation (i j : StationIx) (s : State) : (detachStation i s).entry j =
    if i = j then { s.entry i with attachment := none } else s.entry j := by
  cases h : (s.entry i).attachment with
  | none =>
    rw [detachStation_none h]
    split
    · next same => rw [← h, ← same]
    · rfl
  | some p => rw [detachStation_some h, entry_modEntry, modSeatCount_entry, modSeatCount_entry]

theorem port_detachStation (i : StationIx) (s : State) (q : Port) : (detachStation i s).port q =
    if (s.entry i).attachment = some q ∧ isSeat q = true then { s.port q with seatCount := (s.port q).seatCount - 1 }
    else s.port q := by
  cases h : (s.entry i).attachment with
  | none => rw [detachStation_none h]; simp
  | some p =>
    simp only [detachStation_some h, modEntry_port, port_modSeatCount, Option.some.injEq]
    by_cases same : p = q
    · simp [same]
    · simp [same]

theorem entry_attachTo (i j : StationIx) (p : Port) (s : State) : (attachTo i p s).entry j =
    if i = j then { s.entry i with attachment := some p, recentlyMoved := true, movedAt := s.time.ms } else s.entry j := by
  simp only [attachTo, entry_modEntry, modSeatCount_entry, entry_detachStation, if_true]
  split <;> simp_all

theorem entry_freeEntry (i j : StationIx) (s : State) : (freeEntry i s).entry j =
    if i = j then StationEntry.freed (s.entry i).lastRefill else s.entry j := by
  simp only [freeEntry, entry_modEntry, entry_detachStation, if_true]
  split <;> simp_all

theorem entry_detachPort (p : Port) (s : State) (j : StationIx) : (detachPort p s).entry j =
    if (s.entry j).attachment = some p then { s.entry j with attachment := none } else s.entry j := by
  rw [detachPort, modSeatCount_entry]
  exact Tab.get_mapAll _ _ j

theorem port_detachPort (p q : Port) (s : State) : (detachPort p s).port q =
    if p = q ∧ isSeat p = true then { s.port q with seatCount := 0 } else s.port q := by
  rw [detachPort, port_modSeatCount]
  rfl

theorem port_freeEntry (i : StationIx) (s : State) (q : Port) : (freeEntry i s).port q = (detachStation i s).port q := rfl

theorem port_attachTo (i : StationIx) (p q : Port) (s : State) : (attachTo i p s).port q =
    if p = q ∧ isSeat p = true then { (detachStation i s).port q with seatCount := ((detachStation i s).port q).seatCount + 1 }
    else (detachStation i s).port q := by
  rw [attachTo, modEntry_port, port_modSeatCount]

theorem entry_createEntry (i j : StationIx) (a : Addr) (s : State) : (createEntry i a s).entry j =
    if i = j then newEntry a s else s.entry j := by rw [createEntry, entry_modEntry]

/-! ## What a still and an inner change keep -/

/-- What an inner change keeps of a port unit: its link, reception, intake, state, enable and flush walk. -/
def PortUnit.view (u : PortUnit) : PortUnit :=
  { u with tx := .idle, hold := false, flood := false, seatLimit := 1, seatCount := 0, guardCount := 0, counters := Tab.fill 10 0 }

/-- The seat limit of a port is in its range. -/
def PortUnit.seatLimitOk (u : PortUnit) : Prop := 1 ≤ u.seatLimit ∧ u.seatLimit ≤ 4

/-- A port unit of which a change keeps all but settings, counts and counters. -/
def PortKept (u v : PortUnit) : Prop := v.view = u.view ∧ v.tx = u.tx ∧ (u.seatLimitOk → v.seatLimitOk)

theorem PortKept.refl (u : PortUnit) : PortKept u u := ⟨rfl, rfl, id⟩

theorem portKept_detachStation (i : StationIx) (s : State) (q : Port) : PortKept (s.port q) ((detachStation i s).port q) := by
  rw [port_detachStation]
  split
  · exact ⟨rfl, rfl, id⟩
  · exact .refl _

theorem Still.portKept {s t : State} (h : Still s t) (q : Port) : PortKept (s.port q) (t.port q) := by
  cases h with
  | aside h => rw [State.port, State.port, h.ports]; exact .refl _
  | port p f h =>
    rw [port_modPort]
    split
    · next same =>
      subst same
      obtain ⟨link, rx, intake, tx, state, enable, -, flush, limit⟩ := h
      exact ⟨by simp only [PortUnit.view, link, rx, intake, state, enable, flush], tx, limit⟩
    · exact .refl _
  | entry => exact .refl _
  | create => exact .refl _
  | attach i p =>
    obtain ⟨view, tx, limit⟩ := portKept_detachStation i s q
    rw [port_attachTo]
    split
    · exact ⟨view, tx, limit⟩
    · exact ⟨view, tx, limit⟩
  | detach => exact portKept_detachStation _ s q
  | detachAll =>
    rw [port_detachPort]
    split
    · exact ⟨rfl, rfl, id⟩
    · exact .refl _
  | free => rw [port_freeEntry]; exact portKept_detachStation _ s q

/-- Beside ports and entries a detachment changes nothing. -/
theorem detachStation_shape (i : StationIx) (s : State) : ∃ ports entries,
    detachStation i s = { s with ports := ports, table := { s.table with entries := entries } } := by
  cases h : (s.entry i).attachment with
  | none => exact ⟨s.ports, s.table.entries, by rw [detachStation_none h]⟩
  | some p => rw [detachStation_some h, modSeatCount_eq]; exact ⟨_, _, rfl⟩

/-- A still change is aside of ports and entries, or of nothing else. -/
theorem Still.shape {s t : State} (h : Still s t) :
    Aside s t ∨ ∃ ports entries, t = { s with ports := ports, table := { s.table with entries := entries } } := by
  cases h with
  | aside h => exact .inl h
  | port => exact .inr ⟨_, _, rfl⟩
  | entry => exact .inr ⟨_, _, rfl⟩
  | create => exact .inr ⟨_, _, rfl⟩
  | attach i p =>
    obtain ⟨ports, entries, h⟩ := detachStation_shape i s
    rw [attachTo, modSeatCount_eq, h]
    exact .inr ⟨_, _, rfl⟩
  | detach i => exact .inr (detachStation_shape i s)
  | detachAll => rw [detachPort, modSeatCount_eq]; exact .inr ⟨_, _, rfl⟩
  | free i =>
    obtain ⟨ports, entries, h⟩ := detachStation_shape i s
    rw [freeEntry, h]
    exact .inr ⟨_, _, rfl⟩

theorem Still.mem {s t : State} (h : Still s t) : t.mem = { s.mem with reserve := t.mem.reserve } := by
  rcases h.shape with h | ⟨ports, entries, rfl⟩
  · exact h.mem
  · rfl

theorem Still.queues {s t : State} (h : Still s t) : t.queues = s.queues := by
  rcases h.shape with h | ⟨ports, entries, rfl⟩
  · exact h.queues
  · rfl

theorem Still.line {s t : State} (h : Still s t) :
    t.line.part = s.line.part ∧ t.line.position = s.line.position ∧ t.line.gateway = s.line.gateway := by
  rcases h.shape with h | ⟨ports, entries, rfl⟩
  · exact ⟨h.part, h.position, h.gateway⟩
  · exact ⟨rfl, rfl, rfl⟩

/-- What a still change keeps of queues of the part and of settings. -/
theorem Still.bounds {s t : State} (h : Still s t) : (s.table.reports.length ≤ 48 → t.table.reports.length ≤ 48) ∧
    (s.mgmt.input.length ≤ 2 → t.mgmt.input.length ≤ 2) ∧ t.arb = s.arb ∧
    (MiscInRange s → MiscInRange t) := by
  rcases h.shape with h | ⟨ports, entries, rfl⟩
  · exact ⟨h.reports, h.input, h.arb, h.settings⟩
  · exact ⟨id, id, rfl, id⟩

theorem Inner.line {s t : State} (h : Inner s t) :
    t.line.part = s.line.part ∧ t.line.position = s.line.position ∧ t.line.gateway = s.line.gateway := by
  cases h with
  | still h => exact h.line
  | giveCell => simp
  | release => exact ⟨rfl, rfl, rfl⟩
  | write => exact ⟨rfl, rfl, rfl⟩
  | record => exact ⟨rfl, rfl, rfl⟩
  | queue => exact ⟨rfl, rfl, rfl⟩
  | tx => exact ⟨rfl, rfl, rfl⟩
  | held => exact ⟨rfl, rfl, rfl⟩

@[simp] theorem giveCell_port (r : RecordIx) (s : State) (p : Port) : (giveCell r s).port p = s.port p := by simp [State.port]

@[simp] theorem giveCell_entry (r : RecordIx) (s : State) (i : StationIx) : (giveCell r s).entry i = s.entry i := by
  simp [State.entry]

@[simp] theorem giveCell_queue (r : RecordIx) (s : State) (q : QueueId) : (giveCell r s).queue q = s.queue q := by
  simp [State.queue]

theorem Inner.view {s t : State} (h : Inner s t) (q : Port) :
    (t.port q).view = (s.port q).view ∧ ((s.port q).seatLimitOk → (t.port q).seatLimitOk) := by
  cases h with
  | still h => obtain ⟨view, -, limit⟩ := h.portKept q; exact ⟨view, limit⟩
  | giveCell => rw [giveCell_port]; exact ⟨rfl, id⟩
  | release => exact ⟨rfl, id⟩
  | write => exact ⟨rfl, id⟩
  | record => exact ⟨rfl, id⟩
  | queue => exact ⟨rfl, id⟩
  | tx p f =>
    rw [port_modPort]
    split
    · next same => subst same; exact ⟨rfl, id⟩
    · exact ⟨rfl, id⟩
  | held => exact ⟨rfl, id⟩

/-! ## What a change does to the entries -/

/-- A change of an entry beside its attachment, its held count and its counts. -/
structure EntryKept (e f : StationEntry) : Prop where
  free : f.state = .free ↔ e.state = .free
  addr : f.addr = e.addr
  allowance : e.allowanceAgrees → f.allowanceAgrees

theorem EntryKept.refl (e : StationEntry) : EntryKept e e := ⟨.rfl, rfl, id⟩

theorem EntryKept.of_eq {e f : StationEntry} (h : f = e) : EntryKept e f := h ▸ .refl e

/-- Each entry is kept or freed, or one entry is created. -/
theorem Still.entries {s t : State} (h : Still s t) :
    (∀ i, EntryKept (s.entry i) (t.entry i) ∨ ∃ x, t.entry i = StationEntry.freed x) ∨
    ∃ i a, i.val / 4 = (bucketOf a).val ∧ lookup s.table a = none ∧ t = createEntry i a s := by
  cases h with
  | aside h => exact .inl fun i => .inl (.of_eq (by rw [State.entry, h.entries, State.entry]))
  | port => exact .inl fun i => .inl (.refl _)
  | entry j f h =>
    refine .inl fun i => .inl ?_
    rw [entry_modEntry]
    split
    · next same => subst same; exact ⟨h.free, h.addr, h.allowance⟩
    · exact .refl _
  | create i a _ way miss => exact .inr ⟨i, a, way, miss, rfl⟩
  | attach j p =>
    refine .inl fun i => .inl ?_
    rw [entry_attachTo]
    split
    · next same => subst same; exact ⟨.rfl, rfl, id⟩
    · exact .refl _
  | detach j =>
    refine .inl fun i => .inl ?_
    rw [entry_detachStation]
    split
    · next same => subst same; exact ⟨.rfl, rfl, id⟩
    · exact .refl _
  | detachAll p =>
    refine .inl fun i => .inl ?_
    rw [entry_detachPort]
    split
    · exact ⟨.rfl, rfl, id⟩
    · exact .refl _
  | free j =>
    refine .inl fun i => ?_
    rw [entry_freeEntry]
    split
    · exact .inr ⟨_, rfl⟩
    · exact .inl (.refl _)

theorem Change.entries {s t : State} (h : Change s t) :
    (∀ i, EntryKept (s.entry i) (t.entry i) ∨ ∃ x, t.entry i = StationEntry.freed x) ∨
    ∃ i a, i.val / 4 = (bucketOf a).val ∧ lookup s.table a = none ∧ t = createEntry i a s := by
  have same : (∀ i, t.entry i = s.entry i) → (∀ i, EntryKept (s.entry i) (t.entry i) ∨ ∃ x, t.entry i = StationEntry.freed x) :=
    fun h i => .inl (.of_eq (h i))
  cases h with
  | inner h =>
    cases h with
    | still h => exact h.entries
    | giveCell => exact .inl (same fun i => by simp)
    | release => exact .inl (same fun i => rfl)
    | write => exact .inl (same fun i => rfl)
    | record => exact .inl (same fun i => rfl)
    | queue => exact .inl (same fun i => rfl)
    | tx => exact .inl (same fun i => rfl)
    | held j f =>
      refine .inl fun i => .inl ?_
      rw [entry_modEntry]
      split
      · next h => subst h; exact ⟨.rfl, rfl, id⟩
      · exact .refl _
  | unit => exact .inl (same fun i => rfl)
  | units => exact .inl (same fun i => rfl)
  | line => exact .inl (same fun i => rfl)
  | powerOn => exact .inl fun i => .inr ⟨0, Tab.get_fill _ i⟩
  | serve => exact .inl (same fun i => rfl)

/-! ## The invariants right after reset -/

theorem reset_port (p : Port) : State.reset.port p = PortUnit.fresh := Tab.get_fill _ p
theorem reset_entry (i : StationIx) : State.reset.entry i = StationEntry.freed 0 := Tab.get_fill _ i
theorem reset_record (r : RecordIx) : State.reset.record r = FrameRecord.fresh := Tab.get_fill _ r

theorem freed_allowanceAgrees (x : Stamp) : (StationEntry.freed x).allowanceAgrees := by
  simp [StationEntry.freed, StationEntry.allowanceAgrees]

theorem freshQueues_get : ∀ k : Fin 74, (freshQueues.get k).records = [] ∧ (freshQueues.get k).tally = 0 ∧
    (freshQueues.get k).limit ≤ 2048 := by decide

theorem reset_queue (q : QueueId) : (State.reset.queue q).records = [] ∧ (State.reset.queue q).tally = 0 ∧
    (State.reset.queue q).limit ≤ 2048 := freshQueues_get (queueIx q)

theorem reset_freeCountAgrees : FreeCountAgrees State.reset := by
  simp only [FreeCountAgrees, State.reset, FrameMemory.fresh, Config.cellCount, List.length_finRange]

theorem reset_placesBounded : PlacesBounded State.reset := by
  refine ⟨Nat.zero_le _, fun p => ?_, Nat.zero_le _, fun r => ?_, by decide⟩
  · rw [reset_port]; exact Nat.zero_le _
  · rw [reset_record]; exact Nat.zero_le _

theorem fresh_quantum : ∀ k : Fin 4, 64 ≤ BackboneTx.fresh.quantum.get k ∧ BackboneTx.fresh.quantum.get k ≤ 16383 := by decide

theorem reset_miscInRange : MiscInRange State.reset := by
  refine ⟨by decide, nofun, by decide, by decide, by decide, by decide, by decide, by decide, by decide, fun b d => ?_⟩
  cases b <;> exact fresh_quantum _

/-- The settings in ranges: those of queues, those of ports, and the others. -/
theorem settingsInRange_iff {s : State} : SettingsInRange s ↔
    MiscInRange s ∧ (∀ q, (s.queue q).limit ≤ 2048) ∧ ∀ p, (s.port p).seatLimitOk := by
  unfold SettingsInRange MiscInRange PortUnit.seatLimitOk
  tauto

theorem reset_settingsInRange : SettingsInRange State.reset := by
  refine settingsInRange_iff.2 ⟨reset_miscInRange, fun q => (reset_queue q).2.2, fun p => ?_⟩
  rw [reset_port]
  exact ⟨by decide, by decide⟩

/-! ## The invariants that every change keeps -/

theorem giveCell_freeCount {r : RecordIx} {s : State} (h : FreeCountAgrees s) : FreeCountAgrees (giveCell r s) := by
  unfold FreeCountAgrees at *
  cases free : s.mem.free with
  | nil => rw [show giveCell r s = s by simp only [giveCell, free]]; exact h
  | cons c rest =>
    rw [free, List.length_cons] at h
    simp only [giveCell, free]
    split
    · simp only [raise_frame]; omega
    · simp only; omega

theorem change_keeps_memory {s t : State} (h : Change s t) (hs : MemoryCanonical s ∧ FreeCountAgrees s) :
    MemoryCanonical t ∧ FreeCountAgrees t := by
  obtain ⟨canonical, count⟩ := hs
  have same : t.mem = s.mem → MemoryCanonical t ∧ FreeCountAgrees t := fun e => by
    rw [MemoryCanonical, FreeCountAgrees, e]; exact ⟨canonical, count⟩
  cases h with
  | inner h =>
    cases h with
    | still h => rw [MemoryCanonical, FreeCountAgrees, h.mem]; exact ⟨canonical, count⟩
    | giveCell r => exact ⟨by rw [MemoryCanonical, giveCell_bytes]; exact canonical, giveCell_freeCount count⟩
    | release r =>
      refine ⟨canonical, ?_⟩
      simp only [FreeCountAgrees, releaseRecord, List.length_append] at *
      omega
    | write => exact ⟨Memory.wf_writeAll _ _ canonical, count⟩
    | record => exact ⟨canonical, count⟩
    | queue => exact same rfl
    | tx => exact same rfl
    | held => exact same rfl
  | unit => exact same rfl
  | units => exact same rfl
  | line => exact same rfl
  | powerOn => exact ⟨reset_memory_wf, reset_freeCountAgrees⟩
  | serve => exact same rfl

theorem giveCell_record_length (r r' : RecordIx) (s : State) : ((giveCell r s).record r').length = (s.record r').length := by
  cases free : s.mem.free with
  | nil => simp [giveCell, free]
  | cons c rest =>
    have records : (giveCell r s).mem.records = s.mem.records.modify r (fun x =>
        { x with firstCell := if (cellsOf s.mem r).isEmpty then c else x.firstCell, cellCount := x.cellCount + 1 }) := by
      simp only [giveCell, free]
      split <;> rfl
    rw [State.record, records, Tab.get_modify]
    split
    · next same => rw [← same]; rfl
    · rfl

theorem record_releaseRecord (r r' : RecordIx) (s : State) : (releaseRecord r s).record r' =
    if r = r' then FrameRecord.fresh else s.record r' := Tab.get_set _ _ _ _

theorem change_keeps_placesBounded {s t : State} (h : Change s t) (hs : PlacesBounded s) : PlacesBounded t := by
  obtain ⟨reports, intakes, input, lengths, served⟩ := hs
  have intake : ∀ {t : State}, Inner s t → ∀ p, (t.port p).intake.length ≤ 2 := fun {t} h p => by
    have view := congrArg PortUnit.intake (h.view p).1
    have same : (t.port p).intake = (s.port p).intake := view
    rw [same]
    exact intakes p
  have records : ∀ {t : State}, t.mem.records = s.mem.records → ∀ r, (t.record r).length ≤ 1522 := fun e r => by
    rw [State.record, e]; exact lengths r
  cases h with
  | inner h =>
    have kept := intake h
    cases h with
    | still h =>
      obtain ⟨reportsKept, inputKept, arbKept, -⟩ := h.bounds
      exact ⟨reportsKept reports, kept, inputKept input, records (by rw [h.mem]), by rw [arbKept]; exact served⟩
    | giveCell r =>
      exact ⟨by simpa using reports, kept, by simpa using input, fun r' => by rw [giveCell_record_length]; exact lengths r',
        by simpa using served⟩
    | release r =>
      refine ⟨reports, kept, input, fun r' => ?_, served⟩
      rw [record_releaseRecord]
      split
      · exact Nat.zero_le _
      · exact lengths r'
    | write => exact ⟨reports, kept, input, lengths, served⟩
    | record r f h =>
      refine ⟨reports, kept, input, fun r' => ?_, served⟩
      rw [record_modRecord]
      split
      · exact h (lengths r)
      · exact lengths r'
    | queue => exact ⟨reports, kept, input, lengths, served⟩
    | tx => exact ⟨reports, kept, input, lengths, served⟩
    | held => exact ⟨reports, kept, input, lengths, served⟩
  | unit p f h =>
    refine ⟨reports, fun q => ?_, input, lengths, served⟩
    rw [port_modPort]
    split
    · exact h (intakes p)
    · exact intakes q
  | units f h =>
    refine ⟨reports, fun q => ?_, input, lengths, served⟩
    obtain ⟨l, e⟩ := h (s.port q)
    rw [State.port, Tab.get_mapAll, show f (s.ports.get q) = _ from e]
    exact intakes q
  | line => exact ⟨reports, intakes, input, lengths, served⟩
  | powerOn => exact reset_placesBounded
  | serve a carriage => exact ⟨reports, intakes, input, lengths, carriage served⟩

/-- A setting of the part that a queue or a port does not hold. -/
theorem giveCell_miscInRange {r : RecordIx} {s : State} (h : MiscInRange s) : MiscInRange (giveCell r s) := by
  cases free : s.mem.free with
  | nil => simp only [giveCell, free]; exact h
  | cons c rest =>
    simp only [giveCell, free]
    split <;> exact h

theorem change_keeps_settings {s t : State} (h : Change s t) (hs : SettingsInRange s) : SettingsInRange t := by
  obtain ⟨misc, limits, seats⟩ := settingsInRange_iff.1 hs
  refine settingsInRange_iff.2 ?_
  have sameQueues : t.queues = s.queues → ∀ q, (t.queue q).limit ≤ 2048 := fun e q => by rw [State.queue, e]; exact limits q
  cases h with
  | inner h =>
    have seats : ∀ p, (t.port p).seatLimitOk := fun p => (h.view p).2 (seats p)
    cases h with
    | still h => exact ⟨h.bounds.2.2.2 misc, sameQueues h.queues, seats⟩
    | giveCell => exact ⟨giveCell_miscInRange misc, sameQueues (by simp), seats⟩
    | release => exact ⟨misc, limits, seats⟩
    | write => exact ⟨misc, limits, seats⟩
    | record => exact ⟨misc, limits, seats⟩
    | queue q f h =>
      refine ⟨misc, fun q' => ?_, seats⟩
      rw [queue_modQueue]
      split
      · exact h (limits q)
      · exact limits q'
    | tx => exact ⟨misc, limits, seats⟩
    | held => exact ⟨misc, limits, seats⟩
  | unit p f _ _ seatLimit =>
    refine ⟨misc, limits, fun q => ?_⟩
    rw [port_modPort]
    split
    · rw [PortUnit.seatLimitOk, seatLimit]; exact seats p
    · exact seats q
  | units f h =>
    refine ⟨misc, limits, fun q => ?_⟩
    obtain ⟨l, e⟩ := h (s.port q)
    rw [State.port, Tab.get_mapAll, show f (s.ports.get q) = _ from e]
    exact seats q
  | line => exact ⟨misc, limits, seats⟩
  | powerOn => exact settingsInRange_iff.1 reset_settingsInRange
  | serve => exact ⟨misc, limits, seats⟩

theorem newEntry_allowanceAgrees (a : Addr) (s : State) : (newEntry a s).allowanceAgrees := freed_allowanceAgrees s.time.tick

theorem change_keeps_allowance {s t : State} (h : Change s t) (hs : AllowanceAgrees s) : AllowanceAgrees t := by
  intro i
  rcases h.entries with each | ⟨j, a, -, -, rfl⟩
  · rcases each i with kept | ⟨x, freed⟩
    · exact kept.allowance (hs i)
    · rw [freed]; exact freed_allowanceAgrees x
  · rw [entry_createEntry]
    split
    · exact newEntry_allowanceAgrees a s
    · exact hs i

theorem change_keeps_table {s t : State} (h : Change s t) (hs : TableAgrees s) : TableAgrees t := by
  obtain ⟨buckets, distinct⟩ := hs
  rcases h.entries with each | ⟨j, a, way, miss, rfl⟩
  · have used : ∀ i, (t.entry i).state ≠ .free → (s.entry i).state ≠ .free ∧ (t.entry i).addr = (s.entry i).addr := fun i h => by
      rcases each i with kept | ⟨x, freed⟩
      · exact ⟨fun e => h (kept.free.2 e), kept.addr⟩
      · exact absurd (by rw [freed]; rfl) h
    refine ⟨fun i h => ?_, fun i k hi hk same => ?_⟩
    · rw [(used i h).2]; exact buckets i (used i h).1
    · exact distinct i k (used i hi).1 (used k hk).1 (by rw [← (used i hi).2, ← (used k hk).2, same])
  · have absent : ∀ k, (s.entry k).state ≠ .free → (s.entry k).addr ≠ a := fun k hk same => by
      rcases lookup_eq_none.1 miss k (by rw [← same]; exact buckets k hk) with h | h
      · exact hk h
      · exact h same
    refine ⟨fun i h => ?_, fun i k hi hk same => ?_⟩
    · rw [entry_createEntry] at h ⊢
      split
      · next e => subst e; exact way
      · next e => rw [if_neg e] at h; exact buckets i h
    · rw [entry_createEntry] at hi hk same
      rw [entry_createEntry] at same
      by_cases ei : j = i <;> by_cases ek : j = k
      · exact ei.symm.trans ek
      · rw [if_neg ek] at hk same; rw [if_pos ei] at same
        exact absurd same.symm (absent k hk)
      · rw [if_neg ei] at hi same; rw [if_pos ek] at same
        exact absurd same (absent i hi)
      · rw [if_neg ei] at hi same; rw [if_neg ek] at hk same
        exact distinct i k hi hk same

end Sys2Proof.Machine

section

open Sys2Proof Sys2Proof.Machine

/-- Settles O56: every change of a path keeps both bounds. -/
theorem stepKeepsBounds : Obligations.StepKeepsBounds :=
  ⟨fun _ _ => step_keeps change_keeps_placesBounded, fun _ _ => step_keeps change_keeps_settings⟩

/-- Settles O57: every entry that a change does not free or create keeps its agreement. -/
theorem stepKeepsAllowanceAgreement : Obligations.StepKeepsAllowanceAgreement :=
  fun _ _ => step_keeps change_keeps_allowance

end

/-! # Carriage ports and attachments

What each operation on a port does to what the port shows, and the invariants of carriage ports, of their intakes and of attachments
(05 R79, 08 R131, 01 R5, R7) along every command. -/

namespace Sys2Proof.Machine

open Sys2Proof Relation

/-! ## What an operation does to one port -/

/-- An operation changes what port `p` shows by `g`, and what no other port shows. -/
def ViewAt (p : Port) (g : PortUnit → PortUnit) (s t : State) : Prop :=
  (∀ q, q ≠ p → (t.port q).view = (s.port q).view) ∧ (t.port p).view = g (s.port p).view

theorem ViewAt.trans {p : Port} {g h : PortUnit → PortUnit} {s t u : State} (first : ViewAt p g s t) (second : ViewAt p h t u) :
    ViewAt p (fun x => h (g x)) s u :=
  ⟨fun q hq => (second.1 q hq).trans (first.1 q hq), by rw [second.2, first.2]⟩

theorem viewAt_of_view {p : Port} {s t : State} (h : ∀ q, (t.port q).view = (s.port q).view) : ViewAt p (fun u => u) s t :=
  ⟨fun q _ => h q, h p⟩

theorem inners_view {s t : State} (h : Inners s t) (q : Port) : (t.port q).view = (s.port q).view := by
  induction h with
  | refl => rfl
  | tail _ last ih => exact (last.view q).1.trans ih

theorem viewAt_inners (p : Port) {s t : State} (h : Inners s t) : ViewAt p (fun u => u) s t := viewAt_of_view (inners_view h)

theorem viewAt_modPort (p : Port) (s : State) {f g : PortUnit → PortUnit} (h : ∀ u, (f u).view = g u.view) :
    ViewAt p g s (s.modPort p f) :=
  ⟨fun q hq => by rw [port_modPort_ne _ _ (Ne.symm hq)], by rw [port_modPort_self, h]⟩

/-- A port unit whose frame in reception is abandoned. -/
def PortUnit.abandoned (x : RxState) (u : PortUnit) : PortUnit :=
  match u.rx with
  | .storing _ _ => { u with rx := x }
  | _ => u

/-- A port unit whose flush walk runs. -/
def PortUnit.flushing (u : PortUnit) : PortUnit := { u with flush := some (u.flush.getD 0) }

/-- What a port unit shows once its carriage port has changed to a state (Table 8-1). -/
def PortUnit.changed (st : PortState) (u : PortUnit) : PortUnit :=
  if u.state = st then u
  else match st with
    | .off => ({ u with state := .off, rx := .idle } : PortUnit).flushing
    | .held => ({ u with state := .held } : PortUnit).abandoned (.discarding .held)
    | .up | .down => { u with state := st }

section

variable (p : Port) (s : State)

theorem viewAt_setRx (x : RxState) : ViewAt p (fun u => { u with rx := x }) s (setRx p x s) := viewAt_modPort p s fun _ => rfl

theorem viewAt_abandon (x : RxState) : ViewAt p (PortUnit.abandoned x) s (abandon p x s) := by
  unfold abandon
  split
  · next r n storing =>
    have at_p := (viewAt_inners p (Inner.release s r).path).trans (viewAt_setRx p _ x)
    refine ⟨at_p.1, at_p.2.trans ?_⟩
    simp only [PortUnit.abandoned, show (s.port p).view.rx = .storing r n from storing]
  · next notStoring =>
    refine ⟨fun _ _ => rfl, ?_⟩
    unfold PortUnit.abandoned
    split
    · next r n storing => exact absurd storing (notStoring r n)
    · rfl

theorem viewAt_abandonReception : ViewAt p (fun u => { u with rx := .idle }) s (abandonReception p s) := by
  have at_p := (viewAt_abandon p s .idle).trans (viewAt_setRx p _ .idle)
  refine ⟨at_p.1, at_p.2.trans ?_⟩
  simp only [PortUnit.abandoned]
  split <;> rfl

theorem viewAt_startFlush : ViewAt p PortUnit.flushing s (startFlush p s) :=
  viewAt_modPort p s fun u => by cases h : u.flush <;> simp [PortUnit.view, PortUnit.flushing, h]

theorem viewAt_detachIf (b : Bool) : ViewAt p (fun u => u) s (if b = true then detachPort p s else s) := by
  split
  · exact viewAt_inners p (inners_of_stills (Still.detachAll s p).path)
  · exact viewAt_of_view fun _ => rfl

theorem viewAt_changePort (st : PortState) : ViewAt p (PortUnit.changed st) s (changePort p st s) := by
  have set : ViewAt p (fun u => { u with state := st }) s (s.modPort p (fun u => { u with state := st })) :=
    viewAt_modPort p s fun _ => rfl
  unfold changePort
  simp only
  by_cases same : (s.port p).state = st
  · rw [if_pos same]
    exact ⟨fun _ _ => rfl, by unfold PortUnit.changed; exact (if_pos (show (s.port p).view.state = st from same)).symm⟩
  · rw [if_neg same]
    have differs : (s.port p).view.state ≠ st := same
    cases st with
    | off =>
      have stopped := set.trans (viewAt_abandonReception p _)
      have at_p := (stopped.trans (viewAt_detachIf p _ (isUpOrHeld (s.port p).state))).trans (viewAt_startFlush p _)
      exact ⟨at_p.1, at_p.2.trans (by rw [PortUnit.changed, if_neg differs])⟩
    | held =>
      have at_p := set.trans (viewAt_abandon p _ (.discarding .held))
      exact ⟨at_p.1, at_p.2.trans (by rw [PortUnit.changed, if_neg differs])⟩
    | up => exact ⟨set.1, set.2.trans (by rw [PortUnit.changed, if_neg differs])⟩
    | down => exact ⟨set.1, set.2.trans (by rw [PortUnit.changed, if_neg differs])⟩

theorem viewAt_flushIntake : ViewAt p (fun u => { u with intake := [] }) s (flushIntake p s) :=
  (viewAt_inners p (inners_releaseAll s _)).trans (viewAt_modPort p _ fun _ => rfl)

theorem viewAt_setLink (up : Bool) : ViewAt p (fun u => { u with link := up }) s (setLink p up s) := viewAt_modPort p s fun _ => rfl

end

/-! ## The units of carriage ports -/

/-- What the rules give of a carriage port's unit in a part state, with its intake where `W` asks for it. -/
def unitOk (W : Prop) (part : PartState) (u : PortUnit) : Prop :=
  (part ≠ .service → u.state = .off) ∧ (u.state ≠ .off → u.enable = true) ∧ (isUpOrHeld u.state = true → u.link = true)
  ∧ (isUpOrHeld u.state = false → u.rx = .idle) ∧ (W → part ≠ .service → u.flush ≠ some 0 → u.intake = [])

/-- The rules hold of every carriage port, each judged by a part state. -/
def PortsOk (W : Prop) (π : Port → PartState) (s : State) : Prop := ∀ p, isCarriage p = true → unitOk W (π p) (s.port p)

theorem carriagePortsAgree_iff {s : State} : CarriagePortsAgree s ↔ PortsOk False (fun _ => s.line.part) s := by
  unfold CarriagePortsAgree PortsOk unitOk
  simp

theorem carriageIntakesFlushed_iff {s : State} :
    CarriagePortsAgree s ∧ CarriageIntakesFlushed s ↔ PortsOk True (fun _ => s.line.part) s := by
  unfold CarriagePortsAgree CarriageIntakesFlushed PortsOk unitOk
  constructor
  · rintro ⟨ports, intakes⟩ p carriage
    obtain ⟨off, enabled, linked, idle⟩ := ports p carriage
    exact ⟨off, enabled, linked, idle, fun _ out => intakes out p carriage⟩
  · intro h
    refine ⟨fun p carriage => ?_, fun out p carriage => (h p carriage).2.2.2.2 trivial out⟩
    obtain ⟨off, enabled, linked, idle, -⟩ := h p carriage
    exact ⟨off, enabled, linked, idle⟩

/-- The rules speak of what a unit shows. -/
theorem unitOk_of_view {W : Prop} {part : PartState} {u v : PortUnit} (h : v.view = u.view) (ok : unitOk W part u) :
    unitOk W part v := by
  have viewed : unitOk W part u.view := ok
  rw [← h] at viewed
  exact viewed

theorem PortsOk.of_view {W : Prop} {π : Port → PartState} {s t : State} (h : ∀ q, (t.port q).view = (s.port q).view)
    (ok : PortsOk W π s) : PortsOk W π t := fun p carriage => unitOk_of_view (h p) (ok p carriage)

/-- An operation on one port that leaves its unit well. -/
theorem PortsOk.step {W : Prop} {π ρ : Port → PartState} {p : Port} {g : PortUnit → PortUnit} {s t : State} (ok : PortsOk W π s)
    (at_p : ViewAt p g s t) (parts : ∀ q, q ≠ p → ρ q = π q)
    (unit : isCarriage p = true → unitOk W (π p) (s.port p).view → unitOk W (ρ p) (g (s.port p).view)) : PortsOk W ρ t := by
  intro q carriage
  by_cases same : q = p
  · subst same
    refine unitOk_of_view (u := g (s.port q).view) ?_ (unit carriage (ok q carriage))
    rw [← at_p.2]
    rfl
  · rw [parts q same]
    exact unitOk_of_view (at_p.1 q same) (ok q carriage)

section

variable {W : Prop} {part : PartState} {u : PortUnit}

theorem unitOk_off (h : u.state = .off) (idle : u.rx = .idle) (intake : W → part ≠ .service → u.flush ≠ some 0 → u.intake = []) :
    unitOk W part u := by
  refine ⟨fun _ => h, fun h' => absurd h h', fun up => ?_, fun _ => idle, intake⟩
  rw [h] at up
  cases up

theorem part_of_isUpOrHeld (ok : unitOk W part u) (up : isUpOrHeld u.state = true) : part = .service := by
  by_contra out
  rw [ok.1 out] at up
  cases up

theorem enable_of_isUpOrHeld (ok : unitOk W part u) (up : isUpOrHeld u.state = true) : u.enable = true :=
  ok.2.1 fun off => by rw [off] at up; cases up

/-- A unit in SERVICE that is enabled, has its link while UP or HELD, and receives nothing otherwise. -/
theorem unitOk_service (enabled : u.state ≠ .off → u.enable = true) (linked : isUpOrHeld u.state = true → u.link = true)
    (idle : isUpOrHeld u.state = false → u.rx = .idle) : unitOk W .service u :=
  ⟨fun h => absurd rfl h, enabled, linked, idle, fun _ h => absurd rfl h⟩

theorem abandoned_fields (x : RxState) : (u.abandoned x).state = u.state ∧ (u.abandoned x).link = u.link ∧
    (u.abandoned x).enable = u.enable ∧ (u.abandoned x).flush = u.flush ∧ (u.abandoned x).intake = u.intake := by
  unfold PortUnit.abandoned
  split <;> exact ⟨rfl, rfl, rfl, rfl, rfl⟩

/-- The evaluation of a carriage port in SERVICE leaves its unit well (08 R132). -/
theorem unitOk_evaluated (hold : Bool) (linked : isUpOrHeld u.state = true → u.link = true)
    (idle : isUpOrHeld u.state = false → u.rx = .idle) :
    unitOk W .service (u.changed (if !u.enable then .off else if !u.link then .down else if hold then .held else .up)) := by
  cases enabled : u.enable with
  | false =>
    simp only [Bool.not_false, if_true]
    by_cases off : u.state = .off
    · rw [PortUnit.changed, if_pos off]
      exact unitOk_off off (idle (by rw [off]; rfl)) fun _ h => absurd rfl h
    · rw [PortUnit.changed, if_neg off]
      exact unitOk_off rfl rfl fun _ h => absurd rfl h
  | true =>
    cases link : u.link with
    | false =>
      have down : isUpOrHeld u.state = false := by
        cases up : isUpOrHeld u.state with
        | false => rfl
        | true => rw [linked up] at link; cases link
      simp only [Bool.not_true, Bool.not_false, if_true, Bool.false_eq_true, if_false]
      have kept : (u.changed .down).state = .down ∧ (u.changed .down).enable = u.enable ∧ (u.changed .down).rx = u.rx := by
        unfold PortUnit.changed
        split
        · next same => exact ⟨same, rfl, rfl⟩
        · exact ⟨rfl, rfl, rfl⟩
      obtain ⟨state, enable, rx⟩ := kept
      exact unitOk_service (fun _ => by rw [enable, enabled]) (fun up => by rw [state] at up; cases up)
        (fun _ => by rw [rx, idle down])
    | true =>
      have up : ∀ st, isUpOrHeld st = true → (st = .up ∨ st = .held) → unitOk W .service (u.changed st) := fun st up which => by
        have kept : (u.changed st).state = st ∧ (u.changed st).enable = u.enable ∧ (u.changed st).link = u.link := by
          unfold PortUnit.changed
          split
          · next same => exact ⟨same, rfl, rfl⟩
          · rcases which with rfl | rfl
            · exact ⟨rfl, rfl, rfl⟩
            · obtain ⟨state, link, enable, -, -⟩ := abandoned_fields (u := { u with state := .held }) (.discarding .held)
              exact ⟨state, enable, link⟩
        obtain ⟨state, enable, link'⟩ := kept
        refine unitOk_service (fun _ => by rw [enable, enabled]) (fun _ => by rw [link', link]) (fun down => ?_)
        rw [state, up] at down
        cases down
      simp only [Bool.not_true, Bool.false_eq_true, if_false]
      cases hold with
      | true => exact up .held rfl (.inr rfl)
      | false => exact up .up rfl (.inl rfl)

end

/-! ## Attachments to ports that are UP or HELD -/

/-- Every attachment is to a port that is UP or HELD, or to the one excepted. -/
def AttachedUp (x : Option Port) (s : State) : Prop :=
  ∀ i q, (s.entry i).attachment = some q → some q ≠ x → isUpOrHeld (s.port q).state = true

/-- An inner change makes no attachment but to a port that is UP or HELD. -/
theorem Inner.attached {s t : State} (h : Inner s t) (i : StationIx) (q : Port) (attached : (t.entry i).attachment = some q) :
    (s.entry i).attachment = some q ∨ isUpOrHeld (s.port q).state = true := by
  cases h with
  | still h =>
    cases h with
    | aside h => rw [State.entry, h.entries] at attached; exact .inl attached
    | port => exact .inl attached
    | entry j f h =>
      rw [entry_modEntry] at attached
      split at attached
      · next same => subst same; rw [h.attachment] at attached; exact .inl attached
      · exact .inl attached
    | create j a =>
      rw [entry_createEntry] at attached
      split at attached
      · cases attached
      · exact .inl attached
    | attach j p _ _ up =>
      rw [entry_attachTo] at attached
      split at attached
      · cases attached; exact .inr up
      · exact .inl attached
    | detach j =>
      rw [entry_detachStation] at attached
      split at attached
      · cases attached
      · exact .inl attached
    | detachAll p =>
      rw [entry_detachPort] at attached
      split at attached
      · cases attached
      · exact .inl attached
    | free j =>
      rw [entry_freeEntry] at attached
      split at attached
      · cases attached
      · exact .inl attached
  | giveCell => rw [giveCell_entry] at attached; exact .inl attached
  | release => exact .inl attached
  | write => exact .inl attached
  | record => exact .inl attached
  | queue => exact .inl attached
  | tx => exact .inl attached
  | held j f =>
    rw [entry_modEntry] at attached
    split at attached
    · next same => subst same; exact .inl attached
    · exact .inl attached

theorem state_of_view {u v : PortUnit} (h : v.view = u.view) : v.state = u.state := by
  have state := congrArg PortUnit.state h
  exact state

theorem AttachedUp.inners {x : Option Port} {s t : State} (h : AttachedUp x s) (path : Inners s t) : AttachedUp x t := by
  induction path with
  | refl => exact h
  | tail _ last ih =>
    intro i q attached differs
    rw [state_of_view (last.view q).1]
    rcases last.attached i q attached with before | up
    · exact ih i q before differs
    · exact up

/-- Attachments and port states are all that counts. -/
theorem AttachedUp.congr {x : Option Port} {s t : State} (h : AttachedUp x s) (table : t.table = s.table)
    (states : ∀ q, some q ≠ x → (t.port q).state = (s.port q).state) : AttachedUp x t := by
  intro i q attached differs
  rw [states q differs]
  exact h i q (by rw [State.entry, table] at attached; exact attached) differs

theorem AttachedUp.except {s : State} (h : AttachedUp none s) (x : Option Port) : AttachedUp x s :=
  fun i q attached _ => h i q attached nofun

/-- Once no station is attached to the excepted port there is no exception. -/
theorem AttachedUp.detached {p : Port} {s : State} (h : AttachedUp (some p) s) : AttachedUp none (detachPort p s) := by
  intro i q attached _
  rw [entry_detachPort] at attached
  split at attached
  · cases attached
  · next other =>
    have differs : q ≠ p := fun e => other (e ▸ attached)
    rw [port_detachPort, if_neg fun same => differs same.1.symm]
    exact h i q attached fun e => differs (Option.some.inj e)

/-- Nobody is attached to a port that is not UP or HELD, so its state may change. -/
theorem AttachedUp.of_down {p : Port} {s t : State} (h : AttachedUp none s) (down : isUpOrHeld (s.port p).state = false)
    (table : t.table = s.table) (states : ∀ q, q ≠ p → (t.port q).state = (s.port q).state) : AttachedUp none t := by
  intro i q attached _
  have before : (s.entry i).attachment = some q := by rw [State.entry, table] at attached; exact attached
  have up := h i q before nofun
  rw [states q fun e => by rw [e, down] at up; cases up]
  exact up

theorem AttachedUp.of_up {p : Port} {s t : State} (h : AttachedUp none s) (up : isUpOrHeld (t.port p).state = true)
    (table : t.table = s.table) (states : ∀ q, q ≠ p → (t.port q).state = (s.port q).state) : AttachedUp none t := by
  intro i q attached _
  by_cases same : q = p
  · rw [same]; exact up
  · rw [states q same]
    exact h i q (by rw [State.entry, table] at attached; exact attached) nofun

theorem ViewAt.states {p : Port} {g : PortUnit → PortUnit} {s t : State} (h : ViewAt p g s t) :
    ∀ q, q ≠ p → (t.port q).state = (s.port q).state := fun q differs => state_of_view (h.1 q differs)

theorem ViewAt.state {p : Port} {g : PortUnit → PortUnit} {s t : State} (h : ViewAt p g s t) :
    (t.port p).state = (g (s.port p).view).state := by
  rw [← h.2]
  rfl

/-- A change of state to OFF, UP or HELD, or to DOWN from a state that nobody is attached in, keeps the attachments in order. -/
theorem AttachedUp.changePort {p : Port} {st : PortState} {s : State} (h : AttachedUp none s)
    (lawful : st = .down → isUpOrHeld (s.port p).state = false) : AttachedUp none (changePort p st s) := by
  have at_p := viewAt_changePort p s st
  by_cases same : (s.port p).state = st
  · have unchanged : Machine.changePort p st s = s := by simp only [Machine.changePort, same, if_true]
    rw [unchanged]; exact h
  · cases st with
    | off =>
      cases down : isUpOrHeld (s.port p).state with
      | false =>
        refine h.of_down down ?_ at_p.states
        simp only [Machine.changePort, same, down, if_false, Bool.false_eq_true, startFlush_frame, abandonReception_frame, modPort_table]
      | true =>
        simp only [Machine.changePort, same, down, if_false, if_true]
        have excepted : AttachedUp (some p) (abandonReception p (s.modPort p (fun u => { u with state := .off }))) :=
          (h.except (some p)).congr (by simp) fun q differs => by
            have other : q ≠ p := fun e => differs (by rw [e])
            rw [(viewAt_abandonReception p _).states q other, port_modPort_ne _ _ (Ne.symm other)]
        refine excepted.detached.congr (by simp) fun q _ => ?_
        by_cases e : q = p
        · subst e
          rw [(viewAt_startFlush q _).state]
          rfl
        · exact (viewAt_startFlush p _).states q e
    | up => exact h.of_up (by simp [Machine.changePort, same, isUpOrHeld]) (by simp [Machine.changePort, same]) at_p.states
    | held =>
      refine h.of_up ?_ (by simp [Machine.changePort, same]) at_p.states
      rw [at_p.state, PortUnit.changed, if_neg (show ¬ (s.port p).view.state = .held from same)]
      simp only [abandoned_fields]
      rfl
    | down => exact h.of_down (lawful rfl) (by simp [Machine.changePort, same]) at_p.states

end Sys2Proof.Machine

namespace Sys2Proof.Machine

open Sys2Proof Relation

/-! ## What a command keeps of them -/

/-- From `s` to `t` the carriage ports stay well, SERVICE keeps a position and a side, and attachments are to UP and HELD ports. -/
structure PortsStep (s t : State) : Prop where
  units : ∀ W, PortsOk W (fun _ => s.line.part) s → PortsOk W (fun _ => t.line.part) t
  service : ServiceAgrees s → ServiceAgrees t
  attached : PortsOk False (fun _ => s.line.part) s → AttachedUp none s → AttachedUp none t

namespace PortsStep

theorem refl (s : State) : PortsStep s s := ⟨fun _ => id, id, fun _ => id⟩

theorem trans {s t u : State} (first : PortsStep s t) (second : PortsStep t u) : PortsStep s u :=
  ⟨fun W h => second.units W (first.units W h), fun h => second.service (first.service h),
    fun ok h => second.attached (first.units _ ok) (first.attached ok h)⟩

theorem service_of_line {s t : State} (part : t.line.part = s.line.part) (position : t.line.position = s.line.position)
    (gateway : t.line.gateway = s.line.gateway) (h : ServiceAgrees s) : ServiceAgrees t := by
  rw [ServiceAgrees, part, position, gateway]
  exact h

theorem of_inners {s t : State} (path : Inners s t) : PortsStep s t := by
  have line : t.line.part = s.line.part ∧ t.line.position = s.line.position ∧ t.line.gateway = s.line.gateway := by
    induction path with
    | refl => exact ⟨rfl, rfl, rfl⟩
    | tail _ last ih =>
      obtain ⟨part, position, gateway⟩ := ih
      obtain ⟨part', position', gateway'⟩ := last.line
      exact ⟨part'.trans part, position'.trans position, gateway'.trans gateway⟩
  exact ⟨fun W ok => by rw [line.1]; exact ok.of_view (inners_view path), service_of_line line.1 line.2.1 line.2.2,
    fun _ h => h.inners path⟩

theorem of_stills {s t : State} (path : Stills s t) : PortsStep s t := of_inners (inners_of_stills path)

theorem ite {P : Prop} [Decidable P] {s t : State} (h : P → PortsStep s t) : PortsStep s (if P then t else s) := by
  split
  · next hp => exact h hp
  · exact refl s

theorem foldl {β : Type} {f : State → β → State} {l : List β} (h : ∀ s, ∀ b ∈ l, PortsStep s (f s b)) (s : State) :
    PortsStep s (l.foldl f s) := by
  induction l generalizing s with
  | nil => exact refl s
  | cons b l ih => exact (h s b List.mem_cons_self).trans (ih (fun t c hc => h t c (List.mem_cons_of_mem b hc)) _)

/-- An operation on one port that leaves the line controller as it is. -/
theorem at_port {p : Port} {g : PortUnit → PortUnit} {s t : State} (at_p : ViewAt p g s t) (line : t.line = s.line)
    (unit : ∀ W, isCarriage p = true → unitOk W s.line.part (s.port p).view → unitOk W s.line.part (g (s.port p).view))
    (attached : (isCarriage p = true → unitOk False s.line.part (s.port p)) → AttachedUp none s → AttachedUp none t) :
    PortsStep s t where
  units W ok := by rw [line]; exact ok.step at_p (fun _ _ => rfl) (unit W)
  service := service_of_line (by rw [line]) (by rw [line]) (by rw [line])
  attached ok := attached (ok p)

/-- An operation on one port that keeps its state and the station table. -/
theorem at_port_calm {p : Port} {g : PortUnit → PortUnit} {s t : State} (at_p : ViewAt p g s t) (line : t.line = s.line)
    (table : t.table = s.table) (state : (g (s.port p).view).state = (s.port p).state)
    (unit : ∀ W, isCarriage p = true → unitOk W s.line.part (s.port p).view → unitOk W s.line.part (g (s.port p).view)) :
    PortsStep s t :=
  at_port at_p line unit fun _ h => h.congr table fun q _ => by
    by_cases same : q = p
    · subst same; rw [at_p.state, state]
    · exact at_p.states q same

end PortsStep

/-! ## Reception -/

/-- An operation on the reception of a port: it changes the receive state and the intake, and neither at a port that receives nothing. -/
structure Receives (p : Port) (s t : State) : Prop where
  line : t.line = s.line
  table : t.table = s.table
  others : ∀ q, q ≠ p → (t.port q).view = (s.port q).view
  unit : ∃ x l, (t.port p).view = { (s.port p).view with rx := x, intake := l } ∧
    ((s.port p).rx = .idle → x = .idle ∧ l = (s.port p).intake)

namespace Receives

theorem refl (p : Port) (s : State) : Receives p s s :=
  ⟨rfl, rfl, fun _ _ => rfl, (s.port p).rx, (s.port p).intake, rfl, fun h => ⟨h, rfl⟩⟩

theorem trans {p : Port} {s t u : State} (first : Receives p s t) (second : Receives p t u) : Receives p s u := by
  obtain ⟨x, l, view, idle⟩ := first.unit
  obtain ⟨y, m, view', idle'⟩ := second.unit
  refine ⟨second.line.trans first.line, second.table.trans first.table,
    fun q hq => (second.others q hq).trans (first.others q hq), y, m, by rw [view', view], fun h => ?_⟩
  obtain ⟨rfl, rfl⟩ := idle h
  have rx := congrArg PortUnit.rx view
  have intake := congrArg PortUnit.intake view
  obtain ⟨rfl, rfl⟩ := idle' rx
  exact ⟨rfl, intake⟩

theorem of_inners (p : Port) {s t : State} (path : Inners s t) (line : t.line = s.line) (table : t.table = s.table) :
    Receives p s t :=
  ⟨line, table, fun q _ => inners_view path q, (s.port p).rx, (s.port p).intake, inners_view path p, fun h => ⟨h, rfl⟩⟩

theorem setRx {p : Port} {x : RxState} {s : State} (h : (s.port p).rx = .idle → x = .idle) : Receives p s (Machine.setRx p x s) :=
  ⟨rfl, rfl, (viewAt_setRx p s x).1, x, (s.port p).intake, (viewAt_setRx p s x).2, fun idle => ⟨h idle, rfl⟩⟩

theorem abandon (p : Port) (x : RxState) (s : State) : Receives p s (Machine.abandon p x s) := by
  unfold Machine.abandon
  split
  · next storing =>
    refine (of_inners p (Inner.release s _).path rfl rfl).trans (setRx fun idle => ?_)
    rw [releaseRecord_port, storing] at idle
    cases idle
  · exact refl p s

theorem outgrow (p : Port) (s : State) : Receives p s (Machine.outgrow p s) := by
  unfold Machine.outgrow
  split
  · next r n storing =>
    split
    · unfold requestCell
      split
      · refine (of_inners p (Inner.giveCell s r).path (by simp) (by simp)).trans (setRx fun idle => ?_)
        rw [giveCell_port, storing] at idle
        cases idle
      · exact abandon p _ s
    · exact refl p s
  · exact refl p s

theorem growTo (p : Port) (n k : Nat) (s : State) : Receives p s (Machine.growTo p n k s) := by
  induction k generalizing s with
  | zero => exact refl p s
  | succ k ih =>
    unfold Machine.growTo
    split
    · split
      · exact (outgrow p s).trans (ih _)
      · exact refl p s
    · exact refl p s

theorem arriveTo (p : Port) (n : Nat) (s : State) : Receives p s (Machine.arriveTo p n s) := by
  unfold Machine.arriveTo
  simp only
  split
  · exact (growTo p n _ s).trans (abandon p _ _)
  · exact growTo p n _ s

theorem settleFrame (p : Port) (bytes : List Byte) (good : Bool) (s : State) : Receives p s (Machine.settleFrame p bytes good s) := by
  have counted : ∀ c t, Receives p t (countPort p c t) := fun c t =>
    of_inners p (inners_of_stills (stills_countPort t p c)) (by simp) (by simp)
  have refused : ∀ r c, Receives p s (countPort p c (releaseRecord r (Machine.setRx p .idle s))) := fun r c =>
    ((setRx fun _ => rfl).trans (of_inners p (Inner.release _ r).path rfl rfl)).trans (counted c _)
  unfold Machine.settleFrame
  split
  · exact refl p s
  · exact (counted _ s).trans (setRx fun _ => rfl)
  · next r n storing =>
    simp only
    split
    · exact refused _ _
    · split
      · exact refused _ _
      · split
        · exact refused _ _
        · split
          · have at_p := ((viewAt_setRx p s .idle).trans (viewAt_modPort p (Machine.setRx p .idle s)
              (f := fun u => { u with intake := u.intake ++ [r] }) (g := fun u => { u with intake := u.intake ++ [r] })
              fun _ => rfl)).trans (viewAt_inners p (inners_of_stills (stills_countPort _ p .rxFrames)))
            refine ⟨by simp [joinIntake], by simp [joinIntake], at_p.1, .idle, (s.port p).intake ++ [r], at_p.2, fun idle => ?_⟩
            rw [storing] at idle
            cases idle
          · exact refused _ _

/-- A frame begins only where the port may receive. -/
theorem beginReception (p : Port) (s : State) : ∃ x, ViewAt p (fun u => { u with rx := x }) s (Machine.beginReception p s) ∧
    (Machine.beginReception p s).line = s.line ∧ (Machine.beginReception p s).table = s.table := by
  unfold Machine.beginReception
  split
  · exact ⟨_, viewAt_setRx p s _, rfl, rfl⟩
  · split
    · exact ⟨_, viewAt_setRx p s _, rfl, rfl⟩
    · next r _ =>
      split
      · exact ⟨_, (viewAt_inners p ((Inner.record s r (fun _ => { FrameRecord.fresh with stage := .receiving })
          fun _ => Nat.zero_le _).path.trans (Inner.giveCell _ r).path)).trans (viewAt_setRx p _ _), by simp, by simp⟩
      · exact ⟨_, viewAt_setRx p s _, rfl, rfl⟩

/-- Reception changes nothing at a carriage port that is neither UP nor HELD, and only SERVICE has others. -/
theorem portsStep {p : Port} {s t : State} (h : Receives p s t) : PortsStep s t := by
  obtain ⟨line, table, others, x, l, view, idle⟩ := h
  refine PortsStep.at_port_calm (g := fun u => { u with rx := x, intake := l }) ⟨others, view⟩ line table rfl fun W _ ok => ?_
  cases up : isUpOrHeld (s.port p).state with
  | false =>
    obtain ⟨rfl, rfl⟩ := idle (ok.2.2.2.1 up)
    have rx : (s.port p).rx = .idle := ok.2.2.2.1 up
    rw [← rx]
    exact ok
  | true =>
    have service := part_of_isUpOrHeld ok up
    rw [service] at ok ⊢
    exact unitOk_service ok.2.1 ok.2.2.1 fun down => absurd (up.symm.trans down) (by decide)

end Receives

section

variable (s : State)

theorem portsStep_frameStart (p : Port) : PortsStep s (if (s.port p).rx = .idle ∧ mayReceive p s then beginReception p s else s) := by
  refine PortsStep.ite fun ⟨_, may⟩ => ?_
  obtain ⟨x, at_p, line, table⟩ := Receives.beginReception p s
  refine PortsStep.at_port_calm at_p line table rfl fun W carriage ok => ?_
  have up : isUpOrHeld (s.port p).state = true := by
    rw [mayReceive, if_pos carriage] at may
    exact may
  have service := part_of_isUpOrHeld ok up
  rw [service] at ok ⊢
  exact unitOk_service ok.2.1 ok.2.2.1 fun down => absurd (up.symm.trans down) (by decide)

theorem portsStep_takeOldest : PortsStep s (takeOldest s) := by
  unfold takeOldest
  split
  · exact .refl s
  · next p a chosen =>
    split
    · exact .refl s
    · next r rest intake =>
      have served : PortsStep s { s with arb := a } := ⟨fun _ => id, id, fun _ => id⟩
      refine (served.trans ?_).trans (PortsStep.of_inners (inners_decideFrame _ p r))
      refine PortsStep.at_port_calm (viewAt_modPort p _ (g := fun u => { u with intake := rest }) fun _ => rfl) rfl rfl rfl
        fun W _ ok => ⟨ok.1, ok.2.1, ok.2.2.1, ok.2.2.2.1, fun w out flush => ?_⟩
      have empty : (s.port p).intake = [] := ok.2.2.2.2 w out flush
      rw [intake] at empty
      cases empty

/-! ## Links and port states -/

theorem portsStep_setLine (p : Port) (up : Bool) : PortsStep s (setLine p up s) :=
  ⟨fun _ => id, id, fun _ => id⟩

/-- The evaluation of a carriage port in SERVICE, also after a write of its settings (08 R132). -/
theorem portsStep_evaluatePort {p : Port} {h : PortUnit → PortUnit} {s t : State} (service : s.line.part = .service)
    (at_p : ViewAt p h s t) (line : t.line = s.line) (table : t.table = s.table)
    (keeps : ∀ u, (h u).link = u.link ∧ (h u).rx = u.rx ∧ (h u).state = u.state) (carriage : isCarriage p = true) :
    PortsStep s (evaluatePort p t) := by
  obtain ⟨link, rx, state⟩ := keeps (s.port p).view
  have viewed : evaluatedState (t.port p) = (if !(h (s.port p).view).enable then .off else if !(h (s.port p).view).link then .down
      else if (t.port p).hold then .held else .up) := by
    rw [← at_p.2]
    rfl
  have unit : ∀ W, unitOk W s.line.part (s.port p).view →
      unitOk W s.line.part ((h (s.port p).view).changed (evaluatedState (t.port p))) := fun W ok => by
    rw [viewed, service]
    refine unitOk_evaluated _ (fun up => ?_) (fun down => ?_)
    · rw [state] at up; rw [link]; exact ok.2.2.1 up
    · rw [state] at down; rw [rx]; exact ok.2.2.2.1 down
  refine PortsStep.at_port (at_p.trans (viewAt_changePort p t (evaluatedState (t.port p)))) (by simp [line]) (fun W _ => unit W)
    fun ok calm => ?_
  have written : AttachedUp none t := calm.congr table fun q _ => by
    by_cases same : q = p
    · subst same; rw [at_p.state, state]; rfl
    · exact at_p.states q same
  refine written.changePort fun down => ?_
  cases up : isUpOrHeld (t.port p).state with
  | false => rfl
  | true =>
    have same : (t.port p).state = (s.port p).state := by rw [at_p.state, state]; rfl
    have linked : (h (s.port p).view).link = true := by rw [link]; exact (ok carriage).2.2.1 (by rw [← same]; exact up)
    rw [viewed, linked] at down
    split at down
    · cases down
    · split at down
      · next no => cases no
      · split at down <;> cases down

theorem portsStep_setLink_true (p : Port) : PortsStep s (setLink p true s) :=
  PortsStep.at_port_calm (viewAt_setLink p s true) rfl rfl rfl fun _ _ ok => ⟨ok.1, ok.2.1, fun _ => rfl, ok.2.2.2⟩

theorem portsStep_linkUp (p : Port) : PortsStep s (linkUp p s) := by
  have linked := (PortsStep.of_stills (stills_noteLinkChange s p)).trans (portsStep_setLink_true (noteLinkChange p s) p)
  unfold linkUp
  simp only
  refine linked.trans (PortsStep.ite fun ⟨carriage, down⟩ => ?_)
  have present : ((setLink p true (noteLinkChange p s)).port p).link = true := by
    rw [setLink, port_modPort_self]
  generalize setLink p true (noteLinkChange p s) = t at down present ⊢
  have evaluated : unitOk False t.line.part (t.port p) → t.line.part = .service ∧
      changePort p (if (t.port p).hold then .held else .up) t = evaluatePort p t := fun ok => by
    have enabled : (t.port p).enable = true := ok.2.1 (by rw [down]; nofun)
    refine ⟨?_, by simp [evaluatePort, evaluatedState, enabled, present]⟩
    by_contra out
    have off := ok.1 out
    rw [down] at off
    cases off
  have unjudged : ∀ W, PortsOk W (fun _ => t.line.part) t → unitOk False t.line.part (t.port p) := fun W ok => by
    obtain ⟨off, enabled, link, idle, -⟩ := ok p carriage
    exact ⟨off, enabled, link, idle, False.elim⟩
  have evaluate := fun service => portsStep_evaluatePort (p := p) (h := fun u => u) (s := t) (t := t) service
    (viewAt_of_view fun _ => rfl) rfl rfl (fun _ => ⟨rfl, rfl, rfl⟩) carriage
  refine ⟨fun W ok => ?_, ?_, fun ok calm => ?_⟩
  · obtain ⟨service, same⟩ := evaluated (unjudged W ok)
    rw [same]; exact (evaluate service).units W ok
  · exact PortsStep.service_of_line (by simp) (by simp) (by simp)
  · obtain ⟨service, same⟩ := evaluated (unjudged _ ok)
    rw [same]; exact (evaluate service).attached ok calm

theorem portsStep_lineUp (p : Port) : PortsStep s (lineUp p s) := by
  unfold lineUp
  split
  · exact (portsStep_setLine s p true).trans (portsStep_linkUp _ p)
  · exact portsStep_setLine s p true

theorem portsStep_linkUpLines : PortsStep s (linkUpLines s) :=
  PortsStep.foldl (fun t p _ => PortsStep.ite fun _ => portsStep_linkUp t p) s

theorem portsStep_carriageLinkLoss {p : Port} (carriage : isCarriage p = true) : PortsStep s (carriageLinkLoss p s) := by
  unfold carriageLinkLoss
  simp only
  refine (PortsStep.of_stills (stills_noteLinkChange s p)).trans ?_
  rw [show (s.port p).state = ((noteLinkChange p s).port p).state from rfl]
  generalize noteLinkChange p s = s
  cases up : isUpOrHeld (s.port p).state with
  | false =>
    rw [if_neg (by decide)]
    refine .trans (PortsStep.at_port_calm (viewAt_setLink p s false) rfl rfl rfl fun _ _ ok =>
      ⟨ok.1, ok.2.1, fun h => absurd (up.symm.trans h) (by decide), ok.2.2.2⟩)
      (PortsStep.of_inners (inners_abortTransmission p _))
  | true =>
    rw [if_pos rfl]
    have lost := (((viewAt_setLink p s false).trans (viewAt_modPort p _ (f := fun u => { u with state := .down })
      (g := fun u => { u with state := .down }) fun _ => rfl)).trans (viewAt_abandonReception p _)).trans
        (viewAt_inners p (inners_abortTransmission p _))
    have at_p := (lost.trans (viewAt_inners p (inners_of_stills (Still.detachAll _ p).path))).trans (viewAt_startFlush p _)
    refine PortsStep.at_port at_p (by simp) (fun W _ ok => ?_) fun _ calm => ?_
    · have service := part_of_isUpOrHeld ok up
      have enabled := enable_of_isUpOrHeld ok up
      rw [service]
      exact unitOk_service (fun _ => enabled) nofun fun _ => rfl
    · have excepted : AttachedUp (some p)
          (abandonReception p ((setLink p false s).modPort p (fun u => { u with state := .down }))) :=
        (calm.except (some p)).congr (by simp) fun q differs => by
          have other : q ≠ p := fun e => differs (by rw [e])
          rw [(viewAt_abandonReception p _).states q other, port_modPort_ne _ _ (Ne.symm other),
            (viewAt_setLink p s false).states q other]
      refine (excepted.inners (inners_abortTransmission p _)).detached.congr (by simp) fun q _ => ?_
      by_cases e : q = p
      · subst e; rw [(viewAt_startFlush q _).state]; rfl
      · exact (viewAt_startFlush p _).states q e

/-- The operations on a backbone port speak of no carriage port. -/
theorem portsStep_backbone {p : Port} {g : PortUnit → PortUnit} {s t : State} (backbone : isCarriage p = false)
    (at_p : ViewAt p g s t) (line : t.line = s.line) (table : t.table = s.table)
    (state : (g (s.port p).view).state = (s.port p).state) : PortsStep s t :=
  PortsStep.at_port_calm at_p line table state fun _ carriage => by rw [backbone] at carriage; cases carriage

theorem portsStep_backboneLinkLoss (b : Side) : PortsStep s (backboneLinkLoss b s) := by
  have backbone := isCarriage_sidePort b
  unfold backboneLinkLoss
  simp only
  refine (((((PortsStep.of_stills (stills_noteLinkChange s (sidePort b))).trans
    (portsStep_backbone backbone (viewAt_setLink _ _ false) rfl rfl rfl)).trans
    (portsStep_backbone backbone (viewAt_abandonReception _ _) (by simp) (by simp) rfl)).trans
    (PortsStep.of_inners (inners_abortTransmission (sidePort b) _))).trans (PortsStep.of_stills (stills_emptySlot _ b))).trans ?_
  exact (portsStep_backbone backbone (viewAt_startFlush _ _) rfl rfl rfl).trans (PortsStep.of_stills (stills_raise _ _))

/-! ## Resets -/

theorem portsOk_powerOn (W : Prop) (π : Port → PartState) : PortsOk W π (powerOn s) := fun p _ => by
  rw [show (powerOn s).port p = PortUnit.fresh from reset_port p]
  exact unitOk_off rfl rfl fun _ _ _ => rfl

theorem attachedUp_powerOn : AttachedUp none (powerOn s) := fun i q attached _ => by
  rw [show (powerOn s).entry i = StationEntry.freed 0 from reset_entry i] at attached
  cases attached

/-- A reset leaves every port as it is after power-on, out of SERVICE. -/
theorem portsStep_of_powerOn {t : State} (ports : t.ports = (powerOn s).ports) (table : t.table = (powerOn s).table)
    (out : t.line.part ≠ .service) : PortsStep s t where
  units W _ := (portsOk_powerOn s W _).of_view fun q => by rw [State.port, ports]; rfl
  service _ h := absurd h out
  attached _ _ := (attachedUp_powerOn s).congr table fun q _ => by rw [State.port, ports]; rfl

theorem portsStep_assertReset : PortsStep s (assertReset s) := by
  unfold assertReset
  split
  · exact .refl s
  · exact portsStep_of_powerOn s rfl rfl (by simp [setLine, powerOn, State.reset])

theorem portsStep_restartPart : PortsStep s (restartPart s) := by
  unfold restartPart
  simp only
  refine PortsStep.ite fun _ => .trans ?_ (portsStep_linkUpLines _)
  exact portsStep_of_powerOn s (by simp) (by simp) (by simp)

theorem portsStep_releaseReset (straps : BitVec 6) : PortsStep s (releaseReset straps s) := by
  unfold releaseReset
  simp only
  refine PortsStep.ite fun inReset => .trans ?_ (portsStep_linkUpLines _)
  have read : Stills (s.modLine (fun l => { l with strapCode := straps, position := strapPosition straps }))
      (checkStraps (s.modLine (fun l => { l with strapCode := straps, position := strapPosition straps }))) := stills_checkStraps _
  generalize h : checkStraps _ = t at read ⊢
  have ports : t.ports = s.ports := by rw [← h]; simp
  have table : t.table = s.table := by rw [← h]; simp
  have unit : ∀ p, (clearLinks (t.modLine (fun l => { l with lineJoin := false, part := .transit }))).port p
      = { s.port p with link := false } := fun p => by
    simp only [clearLinks, State.port, Tab.get_mapAll, modLine_ports, ports]
  refine ⟨fun W ok p carriage => ?_, fun _ serves => by simp at serves, fun ok calm => calm.congr (by simp [table]) fun q _ => by
    rw [unit]⟩
  obtain ⟨off, -, -, idle, intake⟩ := ok p carriage
  have out : s.line.part ≠ .service := by rw [inReset]; nofun
  rw [unit]
  exact unitOk_off (off out) (idle (by rw [off out]; rfl)) fun w _ flush => intake w out flush

end

end Sys2Proof.Machine

namespace Sys2Proof.Machine

open Sys2Proof Relation

section

variable (s : State)

/-! ## Walks and items -/

/-- A flush walk that goes on from its first visit, or later, leaves the intake as it is or empty. -/
theorem portsStep_flushTo {p : Port} {t : State} (o : Option Nat) (line : t.line = s.line) (table : t.table = s.table)
    (at_p : ViewAt p (fun u => u) s t)
    (intake : ∀ W : Prop, unitOk W s.line.part (s.port p) → W → s.line.part ≠ .service → o ≠ some 0 → (s.port p).intake = []) :
    PortsStep s (t.modPort p (fun u => { u with flush := o })) :=
  PortsStep.at_port_calm (at_p.trans (viewAt_modPort p t (g := fun u => { u with flush := o }) fun _ => rfl)) line table rfl
    fun W _ ok => ⟨ok.1, ok.2.1, ok.2.2.1, ok.2.2.2.1, fun w out flush => intake W ok w out flush⟩

theorem portsStep_flushVisit (p : Port) : PortsStep s (flushVisit p s) := by
  unfold flushVisit
  simp only
  split
  · exact .refl s
  · exact PortsStep.at_port_calm ((viewAt_flushIntake p s).trans (viewAt_modPort p _
      (g := fun u => { u with flush := some (0 + 1) }) fun _ => rfl)) (by simp) (by simp) rfl
        fun W _ ok => ⟨ok.1, ok.2.1, ok.2.2.1, ok.2.2.2.1, fun _ _ _ => rfl⟩
  · next k flush =>
    split
    · exact .refl s
    · next q _ =>
      have swept : Inners s (sweepQueue (fun _ => true) q s) := inners_sweepQueue _ q s
      have same : ((sweepQueue (fun _ => true) q s).port p).flush = some (k + 1) := by
        have view := congrArg PortUnit.flush (inners_view swept p)
        exact view.trans flush
      refine (PortsStep.of_inners swept).trans ?_
      generalize sweepQueue (fun _ => true) q s = t at same ⊢
      exact portsStep_flushTo t _ rfl rfl (viewAt_of_view fun _ => rfl)
        fun W ok w out _ => ok.2.2.2.2 w out (by rw [same]; simp)

theorem portsStep_walkFinish (p : Option Port) : PortsStep s (walkFinish p s) := by
  have finished : ∀ st data t, PortsStep t (finishItem st data t) := fun st data t => .of_stills (stills_finishItem t st data)
  unfold walkFinish
  split
  · exact .refl s
  · split
    · exact .ite fun _ => finished _ _ s
    · refine .ite fun _ => .trans (.ite fun ⟨carriage, service⟩ => ?_) (finished _ _ _)
      exact portsStep_evaluatePort (s := s) service (viewAt_of_view fun _ => rfl) rfl rfl (h := fun u => u)
        (fun _ => ⟨rfl, rfl, rfl⟩) carriage
    · exact .ite fun _ => finished _ _ s
    · exact .refl s

theorem portsStep_flushEnd (p : Port) : PortsStep s (flushEnd p s) := by
  unfold flushEnd
  split
  · exact .refl s
  · next k flush =>
    refine .ite fun last => .trans (portsStep_flushTo s none rfl rfl (viewAt_of_view fun _ => rfl) fun W ok w out _ =>
      ok.2.2.2.2 w out ?_) (portsStep_walkFinish _ _)
    rw [flush]
    intro first
    cases first
    omega

theorem portsStep_classEnd (b : Side) : PortsStep s (classEnd b s) := by
  unfold classEnd
  split
  · exact .refl s
  · exact .ite fun _ => .trans (.of_stills (stills_side s b _ fun _ => id)) (portsStep_walkFinish _ _)

theorem portsStep_startEffect : PortsStep s ((startEffect s).after s) := by
  unfold startEffect
  split
  · next ready =>
    obtain ⟨transit, position, gateway⟩ := ready
    rw [after_done]
    have entered : PortsStep s (s.modLine (fun l => { l with part := .service })) := by
      refine ⟨fun W ok p carriage => ?_, fun _ _ => ⟨position, ?_⟩, fun _ => id⟩
      · obtain ⟨-, enabled, link, idle, -⟩ := ok p carriage
        exact unitOk_service enabled link idle
      · show s.line.gateway ≠ none
        intro none
        rw [none] at gateway
        cases gateway
    have served : (s.modLine (fun l => { l with part := .service })).line.part = .service := rfl
    refine entered.trans ?_
    generalize s.modLine (fun l => { l with part := .service }) = t at served ⊢
    have evaluated : ∀ l : List Port, (∀ p ∈ l, isCarriage p = true) → ∀ t : State, t.line.part = .service →
        PortsStep t (l.foldl (fun t p => evaluatePort p t) t) := by
      intro l
      induction l with
      | nil => exact fun _ t _ => .refl t
      | cons p l ih =>
        intro carriage t served
        have first := portsStep_evaluatePort (s := t) (p := p) (h := fun u => u) served (viewAt_of_view fun _ => rfl) rfl rfl
          (fun _ => ⟨rfl, rfl, rfl⟩) (carriage p List.mem_cons_self)
        exact first.trans (ih (fun q hq => carriage q (List.mem_cons_of_mem p hq)) _ (by simpa using served))
    exact evaluated _ (fun p mem => (List.mem_filter.1 mem).2) t served
  · exact .refl s

/-- What STAND_DOWN does at one carriage port (09 R153). -/
def standPortDown (p : Port) (s : State) : State := startFlush p (flushLateIntake p (changePort p .off s))

/-- What a port unit shows once STAND_DOWN has been at it. -/
def PortUnit.stoodDown (u : PortUnit) : PortUnit :=
  PortUnit.flushing (if flushPastIntake (u.changed .off) then { u.changed .off with intake := [] } else u.changed .off)

theorem viewAt_standPortDown (p : Port) : ViewAt p PortUnit.stoodDown s (standPortDown p s) := by
  have off := viewAt_changePort p s .off
  have late : ViewAt p (fun u => if flushPastIntake u then { u with intake := [] } else u) (changePort p .off s)
      (flushLateIntake p (changePort p .off s)) := by
    generalize changePort p .off s = t
    unfold flushLateIntake
    by_cases past : flushPastIntake (t.port p) = true
    · rw [if_pos past]
      refine ⟨(viewAt_flushIntake p t).1, (viewAt_flushIntake p t).2.trans ?_⟩
      exact (if_pos (show flushPastIntake (t.port p).view = true from past)).symm
    · rw [if_neg past]
      exact ⟨fun _ _ => rfl, (if_neg (show ¬ flushPastIntake (t.port p).view = true from past)).symm⟩
  exact (off.trans late).trans (viewAt_startFlush p _)

/-- A unit of SERVICE that has been stood down is well in TRANSIT. -/
theorem unitOk_stoodDown {W : Prop} {u : PortUnit} (ok : unitOk W .service u) : unitOk W .transit u.stoodDown := by
  have off : (u.changed .off).state = .off ∧ (u.changed .off).rx = .idle := by
    unfold PortUnit.changed
    split
    · next same => exact ⟨same, ok.2.2.2.1 (by rw [same]; rfl)⟩
    · exact ⟨rfl, rfl⟩
  unfold PortUnit.stoodDown
  generalize u.changed .off = v at off
  by_cases past : flushPastIntake v = true
  · rw [if_pos past]
    exact unitOk_off off.1 off.2 fun _ _ _ => rfl
  · rw [if_neg past]
    refine unitOk_off off.1 off.2 fun _ _ running => absurd ?_ running
    cases flush : v.flush with
    | none => simp [PortUnit.flushing, flush]
    | some k =>
      cases k with
      | zero => simp [PortUnit.flushing, flush]
      | succ k => simp [flushPastIntake, flush] at past

theorem attachedUp_standPortDown {p : Port} (h : AttachedUp none s) : AttachedUp none (standPortDown p s) := by
  have down : ((changePort p .off s).port p).state = .off := by
    rw [(viewAt_changePort p s .off).state]
    unfold PortUnit.changed
    split
    · assumption
    · rfl
  have off : AttachedUp none (changePort p .off s) := h.changePort nofun
  refine off.of_down (p := p) (by rw [down]; rfl) (by simp [standPortDown]) fun q differs => ?_
  rw [(viewAt_standPortDown s p).states q differs, (viewAt_changePort p s .off).states q differs]

/-- The carriage ports one after another: those that have been stood down are judged by TRANSIT. -/
theorem standPortsDown_ok {W : Prop} (l : List Port) (nodup : l.Nodup) (t : State) (π : Port → PartState)
    (service : ∀ p ∈ l, π p = .service) (ok : PortsOk W π t) :
    PortsOk W (fun p => if p ∈ l then .transit else π p) (l.foldl (fun t p => standPortDown p t) t) ∧
    (AttachedUp none t → AttachedUp none (l.foldl (fun t p => standPortDown p t) t)) := by
  induction l generalizing t π with
  | nil => exact ⟨by simpa using ok, id⟩
  | cons p l ih =>
    obtain ⟨other, nodup⟩ := List.nodup_cons.1 nodup
    have first : PortsOk W (fun q => if q = p then .transit else π q) (standPortDown p t) := by
      refine ok.step (viewAt_standPortDown t p) (fun q differs => if_neg differs) fun _ unit => ?_
      rw [service p List.mem_cons_self] at unit
      rw [if_pos rfl]
      exact unitOk_stoodDown unit
    obtain ⟨rest, calm⟩ := ih nodup (standPortDown p t) (fun q => if q = p then .transit else π q)
      (fun q hq => (if_neg fun e => other (by rw [← e]; exact hq)).trans (service q (List.mem_cons_of_mem p hq))) first
    refine ⟨fun q carriage => ?_, fun h => calm (attachedUp_standPortDown t h)⟩
    have judged := rest q carriage
    by_cases mem : q ∈ l <;> by_cases same : q = p <;> simpa [mem, same] using judged

theorem carriagePorts_nodup : carriagePorts.Nodup := (List.nodup_finRange 58).filter _

theorem mem_carriagePorts {p : Port} : p ∈ carriagePorts ↔ isCarriage p = true := by simp [carriagePorts]

theorem standPortsDown_line (l : List Port) (t : State) : (l.foldl (fun t p => standPortDown p t) t).line = t.line := by
  induction l generalizing t with
  | nil => rfl
  | cons p l ih => rw [List.foldl_cons, ih]; simp [standPortDown]

theorem portsStep_standDownEffect : PortsStep s ((standDownEffect s).after s) := by
  unfold standDownEffect
  split
  · next service =>
    rw [after_wait]
    have flushes : ∀ t, PortsStep t (startClassFlush .aft (startClassFlush .fore t)) := fun t =>
      .of_stills ((stills_startClassFlush t .fore).trans (stills_startClassFlush _ .aft))
    refine .trans ?_ (flushes _)
    have line := standPortsDown_line carriagePorts (s.modLine (fun l => { l with part := .transit }))
    have ports := fun (W : Prop) (ok : PortsOk W (fun _ => s.line.part) s) =>
      standPortsDown_ok carriagePorts carriagePorts_nodup (s.modLine (fun l => { l with part := .transit }))
        (fun _ => s.line.part) (fun _ _ => service) ok
    change PortsStep s (carriagePorts.foldl (fun t p => standPortDown p t) _)
    refine ⟨fun W ok p carriage => ?_, fun _ serves => ?_, fun ok => (ports False ok).2⟩
    · have judged := (ports W ok).1 p carriage
      simp only [if_pos (mem_carriagePorts.2 carriage)] at judged
      rw [line]
      exact judged
    · rw [line] at serves
      cases serves
  · exact .refl s

theorem portsStep_setLineEffect (b : Side) : PortsStep s ((setLineEffect b s).after s) := by
  unfold setLineEffect
  split
  · rw [after_done]
    exact ⟨fun _ => id, fun h serves => ⟨(h serves).1, nofun⟩, fun _ => id⟩
  · exact .refl s

/-- What SET_PORT writes at a port besides its limits. -/
theorem viewAt_portWritten (w : PortWrite) :
    ViewAt w.port (fun u => { u with enable := w.enable.getD u.enable }) s (portWritten w s) :=
  (viewAt_modPort w.port s (g := fun u => { u with enable := w.enable.getD u.enable }) fun _ => rfl).trans
    (viewAt_inners w.port (inners_writeLimits _ w.port w.limits))

theorem writeLimits_keeps (p : Port) (l : List (QueueKind × Nat)) (t : State) :
    (l.foldl (writeNamedLimit p) t).line = t.line ∧ (l.foldl (writeNamedLimit p) t).table = t.table := by
  induction l generalizing t with
  | nil => exact ⟨rfl, rfl⟩
  | cons x l ih =>
    obtain ⟨line, table⟩ := ih (writeNamedLimit p t x)
    rw [List.foldl_cons, line, table]
    unfold writeNamedLimit
    split <;> exact ⟨rfl, rfl⟩

theorem portWritten_keeps (w : PortWrite) : (portWritten w s).line = s.line ∧ (portWritten w s).table = s.table :=
  writeLimits_keeps w.port w.limits _

theorem portsStep_setPortEffect (w : PortWrite) : PortsStep s ((setPortEffect w s).after s) := by
  obtain ⟨line, table⟩ := portWritten_keeps s w
  unfold setPortEffect
  split
  · exact .refl s
  · simp only
    split
    · next both =>
      have evaluated := portsStep_evaluatePort both.2 (viewAt_portWritten s w) line table (fun _ => ⟨rfl, rfl, rfl⟩) both.1
      split
      · exact evaluated
      · exact evaluated
    · next notBoth =>
      rw [after_done]
      refine PortsStep.at_port_calm (viewAt_portWritten s w) line table rfl fun W carriage ok => ?_
      have off := ok.1 fun service => notBoth ⟨carriage, service⟩
      exact ⟨ok.1, fun h => absurd off h, ok.2.2⟩

theorem portsStep_resetPortEffect (p : Port) : PortsStep s ((resetPortEffect p s).after s) := by
  unfold resetPortEffect
  split
  · exact .refl s
  · next out =>
    split
    · exact .refl s
    · split
      · next carriage =>
        rw [after_wait]
        have service : s.line.part = .service := by
          by_contra no
          exact out ⟨carriage, no⟩
        refine PortsStep.at_port ((viewAt_changePort p s .off).trans (viewAt_startFlush p _)) (by simp)
          (fun W _ ok => ?_) fun _ h => ?_
        · have off : ((s.port p).view.changed .off).state = .off ∧ ((s.port p).view.changed .off).rx = .idle := by
            unfold PortUnit.changed
            split
            · next same => exact ⟨same, ok.2.2.2.1 (by rw [same]; rfl)⟩
            · exact ⟨rfl, rfl⟩
          exact unitOk_off off.1 off.2 fun _ no => absurd service no
        · refine (h.changePort (p := p) (st := .off) nofun).congr (by simp) fun q _ => ?_
          by_cases same : q = p
          · subst same; rw [(viewAt_startFlush q _).state]; rfl
          · exact (viewAt_startFlush p _).states q same
      · next backbone =>
        rw [after_wait]
        exact (portsStep_backbone (by simpa using backbone) (viewAt_abandonReception p s) (by simp) (by simp) rfl).trans
          (portsStep_backbone (by simpa using backbone) (viewAt_startFlush p _) rfl rfl rfl)

/-! ## Commands and steps -/

theorem portsStep_of_next {t u : State} (h : Host.Outcome.next (φ := Fault) (ρ := Refusal) u = .next t) (path : PortsStep s u) :
    PortsStep s t := by cases h; exact path

theorem portsStep_exec {c : Instr} {t : State} (h : exec c s = .next t) : PortsStep s t := by
  have item : ∀ {α : Type} {is : RawItem → Bool} {parse : List Byte → Option α} {eff : α → State → ItemEffect},
      (.next (runItem is parse eff s) : Host.Outcome State Fault Refusal) = .next t →
      (∀ ps a, parse ps = some a → PortsStep s ((eff a s).after s)) → PortsStep s t :=
    fun h path => portsStep_of_next s h
      (runItem_keeps (P := PortsStep s) (fun still path => path.trans (.of_stills still)) (.refl s) path)
  have station : ∀ {r : StationRef} {k : StationIx → ItemEffect}, (∀ i, (s.entry i).state ≠ .free → Stills s ((k i).after s)) →
      PortsStep s ((onStation r s k).after s) := fun path =>
    onStation_keeps (P := PortsStep s) (.refl s) fun i used => .of_stills (path i used)
  cases c with
  | resetPinAssert => exact portsStep_of_next s h (portsStep_assertReset s)
  | resetPinRelease straps => exact portsStep_of_next s h (portsStep_releaseReset s straps)
  | carriageLinkUp p =>
    simp only [exec, execCarriageLinkUp] at h
    split at h
    · exact portsStep_of_next s h (portsStep_lineUp s p)
    · cases h
  | carriageLinkDown p =>
    simp only [exec, execCarriageLinkDown] at h
    split at h
    · next carriage =>
      refine portsStep_of_next s h ?_
      split
      · exact (portsStep_setLine s p false).trans (portsStep_carriageLinkLoss _ carriage)
      · exact portsStep_setLine s p false
    · cases h
  | backboneLinkUp b => exact portsStep_of_next s h (portsStep_lineUp s (sidePort b))
  | backboneLinkDown b =>
    refine portsStep_of_next s h ?_
    split
    · exact (portsStep_setLine s _ false).trans (portsStep_backboneLinkLoss _ b)
    · exact portsStep_setLine s _ false
  | frameStart p => exact portsStep_of_next s h (portsStep_frameStart s p)
  | cellRequest p => exact portsStep_of_next s h (Receives.outgrow p s).portsStep
  | frameTooLong p => exact portsStep_of_next s h (Receives.abandon p _ s).portsStep
  | frameEnd p bytes good =>
    refine portsStep_of_next s h ?_
    split
    · exact .refl s
    · exact ((Receives.arriveTo p _ s).trans (Receives.settleFrame p bytes good _)).portsStep
  | takeFrame => exact portsStep_of_next s h (portsStep_takeOldest s)
  | transmitChoice p => exact portsStep_of_next s h (.of_inners (inners_choose p s))
  | transmitComplete p => exact portsStep_of_next s h (.of_inners (inners_complete p s))
  | refillTick => exact portsStep_of_next s h (.ite fun _ => .of_stills (stills_refillArrives s))
  | slowTick => exact portsStep_of_next s h (.ite fun _ => .of_stills (stills_slowArrives s))
  | secondsAdvance => exact portsStep_of_next s h (.ite fun _ => .of_stills (stills_secondsStep s))
  | learnedExpiry i => exact portsStep_of_next s h (.ite fun _ => .of_stills (stills_learnedExpiryStep s i))
  | admittedExpiry i => exact portsStep_of_next s h (.ite fun _ => .of_stills (stills_admittedExpiryStep s i))
  | holdOffEnd i => exact portsStep_of_next s h (.ite fun _ => .of_stills (stills_holdOffStep s i))
  | spacingEnd => exact portsStep_of_next s h (.ite fun _ => .of_stills (stills_spacingStep s))
  | purgeWalkVisit => exact portsStep_of_next s h (.of_inners (inners_purgeVisit s))
  | purgeWalkEnd => exact portsStep_of_next s h (.of_stills (stills_purgeEnd s))
  | flushWalkVisit p => exact portsStep_of_next s h (portsStep_flushVisit s p)
  | flushWalkEnd p => exact portsStep_of_next s h (portsStep_flushEnd s p)
  | classFlushVisit b => exact portsStep_of_next s h (.of_inners (inners_classVisit s b))
  | classFlushEnd b => exact portsStep_of_next s h (portsStep_classEnd s b)
  | mgmtFrameBegin => exact portsStep_of_next s h (.of_stills (stills_beginFrame s))
  | unknownItemCode => exact item h fun _ _ _ => .refl s
  | identify => exact item h fun _ _ _ => .refl s
  | readStatus => exact item h fun _ _ _ => .refl s
  | start => exact item h fun _ _ _ => portsStep_startEffect s
  | standDown => exact item h fun _ _ _ => portsStep_standDownEffect s
  | restart =>
    have armed : Stills s (s.modMgmt (fun m => { m with restart := .armed })) := stills_mgmt s _ id
    exact item h fun _ _ _ => .of_stills armed
  | restartEvent => exact portsStep_of_next s h (portsStep_restartPart s)
  | setLine => exact item h fun _ b _ => portsStep_setLineEffect s b
  | setTiming => exact item h fun _ _ parsed => .of_stills (stills_timingWritten s (parseTiming_divisor parsed))
  | writeZoneMatch =>
    exact item h fun _ _ _ => .of_stills (.single (.aside ⟨rfl, rfl, rfl, rfl, rfl, rfl, rfl, id, id, rfl, id⟩))
  | readZoneMatch => exact item h fun _ _ _ => .refl s
  | writeProfile =>
    exact item h fun _ _ _ => .of_stills (.single (.aside ⟨rfl, rfl, rfl, rfl, rfl, rfl, rfl, id, id, rfl, id⟩))
  | readProfile => exact item h fun _ _ _ => .refl s
  | admitStation => exact item h fun _ w _ => .of_stills (stills_admitEffect s w)
  | barStation => exact item h fun _ r _ => .of_stills (stills_barEffect s r)
  | releaseStation => exact item h fun _ _ _ => station fun _ used => stills_barEntry s used
  | setAllowance => exact item h fun _ _ _ => station fun i _ => stills_meteredWith s i _
  | setAllowanceUnmetered => exact item h fun _ _ _ => station fun i _ => stills_meteredWith s i _
  | topUp => exact item h fun _ _ parsed => .of_stills (stills_topUpEffect s (parseTopUp_eq_some.1 parsed).2)
  | unpin => exact item h fun _ _ _ => station fun i _ => stills_entry s i _ (by and_intros <;> rfl)
  | readStation => exact item h fun _ _ _ => station fun i _ => stills_refill s i
  | findStation => exact item h fun _ _ _ => station fun _ _ => .refl
  | takeReports => exact item h fun _ n _ => .of_stills (stills_takeReportsEffect s n)
  | setPort => exact item h fun _ w _ => portsStep_setPortEffect s w
  | resetPort => exact item h fun _ p _ => portsStep_resetPortEffect s p
  | setQueue => exact item h fun _ w _ => .of_inners (inners_queueWritten s w)
  | readCounters => exact item h fun _ w _ => .of_inners (inners_readCountersEffect s w)
  | setNotices => exact item h fun _ _ _ => .of_stills (stills_notice s _ rfl)
  | retireNotices => exact item h fun _ _ _ => .of_stills (stills_notice s _ rfl)
  | responsePlace => exact portsStep_of_next s h (.of_stills (stills_placeResponse s))
  | noticeSend => exact portsStep_of_next s h (.of_stills (stills_sendNotice s))

theorem portsStep_step {t : State} (h : step s = .next t) : PortsStep s t := by
  unfold step at h
  split at h
  · exact portsStep_of_next s h (.of_stills (stills_microsecond s))
  · next c rest _ =>
    have shifted : Still s { s with pending := rest } := .aside ⟨rfl, rfl, rfl, rfl, rfl, rfl, rfl, id, id, rfl, id⟩
    exact (PortsStep.of_stills shifted.path).trans (portsStep_exec _ h)

end

end Sys2Proof.Machine

section

open Sys2Proof Sys2Proof.Machine

/-- Settles O58: each carriage port's unit stays well, judged by the part state. -/
theorem stepKeepsCarriagePorts : Obligations.StepKeepsCarriagePorts := by
  refine ⟨fun s t ports service step => ?_, fun s t ports intakes step => ?_⟩
  · have kept := portsStep_step s step
    exact ⟨carriagePortsAgree_iff.2 (kept.units _ (carriagePortsAgree_iff.1 ports)), kept.service service⟩
  · have kept := (portsStep_step s step).units _ (carriageIntakesFlushed_iff.1 ⟨ports, intakes⟩)
    exact (carriageIntakesFlushed_iff.2 kept).2

end

/-! # Attachments and seat counts -/

namespace Sys2Proof.Machine

open Sys2Proof Relation

/-! ## Counting where one index changes -/

theorem countP_of_eq_off {α : Type} {P Q : α → Bool} {i : α} (off : ∀ j, j ≠ i → Q j = P j) (l : List α) (nodup : l.Nodup)
    (mem : i ∈ l) : l.countP Q + (P i).toNat = l.countP P + (Q i).toNat := by
  induction l with
  | nil => cases mem
  | cons j l ih =>
    obtain ⟨notin, nodup⟩ := List.nodup_cons.1 nodup
    rw [List.countP_cons, List.countP_cons]
    by_cases same : i = j
    · subst same
      rw [List.countP_congr fun k hk => by rw [off k fun e => notin (e ▸ hk)]]
      cases P i <;> cases Q i <;> simp
    · have rest := ih nodup ((List.mem_cons.1 mem).resolve_left same)
      rw [off j (Ne.symm same)]
      omega

theorem countP_finRange_of_eq_off {n : Nat} {P Q : Fin n → Bool} (i : Fin n) (off : ∀ j, j ≠ i → Q j = P j) :
    (List.finRange n).countP Q + (P i).toNat = (List.finRange n).countP P + (Q i).toNat :=
  countP_of_eq_off off _ (List.nodup_finRange n) (List.mem_finRange i)

/-! ## Seat counts -/

/-- The number of entries attached to a port. -/
def attachedTo (s : State) (p : Port) : Nat := (List.finRange 512).countP (fun i => decide ((s.entry i).attachment = some p))

/-- What `AttachmentsAgree` says beside the state of the ports (05 R79). -/
structure Seats (s : State) : Prop where
  free : ∀ i, (s.entry i).state = .free → (s.entry i).attachment = none
  carriage : ∀ i p, (s.entry i).attachment = some p → isCarriage p = true
  count : ∀ p, isSeat p = true → (s.port p).seatCount = attachedTo s p

theorem attachmentsAgree_iff {s : State} : AttachmentsAgree s ↔ Seats s ∧ AttachedUp none s := by
  constructor
  · rintro ⟨each, count⟩
    refine ⟨⟨fun i free => ?_, fun i p h => (each i p h).1, count⟩, fun i p h _ => (each i p h).2.1⟩
    cases h : (s.entry i).attachment with
    | none => rfl
    | some p => exact absurd free (each i p h).2.2
  · rintro ⟨seats, up⟩
    refine ⟨fun i p h => ⟨seats.carriage i p h, up i p h nofun, fun free => ?_⟩, seats.count⟩
    rw [seats.free i free] at h
    cases h

/-- A change that keeps attachments, FREE states and seat counts. -/
theorem Seats.congr {s t : State} (hs : Seats s) (attachment : ∀ i, (t.entry i).attachment = (s.entry i).attachment)
    (free : ∀ i, (t.entry i).state = .free → (s.entry i).state = .free)
    (count : ∀ p, (t.port p).seatCount = (s.port p).seatCount) : Seats t := by
  refine ⟨fun i h => ?_, fun i p h => ?_, fun p seat => ?_⟩
  · rw [attachment]; exact hs.free i (free i h)
  · rw [attachment] at h; exact hs.carriage i p h
  · rw [count, hs.count p seat, attachedTo, attachedTo]
    simp only [attachment]

/-- A change of one entry, with the seat counts moved along. -/
theorem Seats.entry {s t : State} (hs : Seats s) (i : StationIx) (others : ∀ j, j ≠ i → t.entry j = s.entry j)
    (free : (t.entry i).state = .free → (t.entry i).attachment = none)
    (carriage : ∀ p, (t.entry i).attachment = some p → isCarriage p = true)
    (count : ∀ p, isSeat p = true → (t.port p).seatCount + (decide ((s.entry i).attachment = some p)).toNat =
      (s.port p).seatCount + (decide ((t.entry i).attachment = some p)).toNat) : Seats t := by
  refine ⟨fun j h => ?_, fun j p h => ?_, fun p seat => ?_⟩
  · by_cases same : j = i
    · subst same; exact free h
    · rw [others j same] at h ⊢; exact hs.free j h
  · by_cases same : j = i
    · subst same; exact carriage p h
    · rw [others j same] at h; exact hs.carriage j p h
  · have moved : attachedTo t p + (decide ((s.entry i).attachment = some p)).toNat =
        attachedTo s p + (decide ((t.entry i).attachment = some p)).toNat :=
      countP_finRange_of_eq_off (P := fun j => decide ((s.entry j).attachment = some p))
        (Q := fun j => decide ((t.entry j).attachment = some p)) i fun j differs => by simp only [others j differs]
    have old := hs.count p seat
    have := count p seat
    omega

/-- A seat count is not 0 while an entry is attached. -/
theorem Seats.count_pos {s : State} (hs : Seats s) {i : StationIx} {p : Port} (seat : isSeat p = true)
    (attached : (s.entry i).attachment = some p) : 0 < (s.port p).seatCount := by
  rw [hs.count p seat]
  exact List.countP_pos_iff.2 ⟨i, List.mem_finRange i, by simpa using attached⟩

/-- The seat counts after a detach, as the attached entry's own share. -/
theorem Seats.detached_count {s : State} (hs : Seats s) (i : StationIx) {p : Port} (seat : isSeat p = true) :
    ((detachStation i s).port p).seatCount + (decide ((s.entry i).attachment = some p)).toNat = (s.port p).seatCount := by
  rw [port_detachStation]
  by_cases attached : (s.entry i).attachment = some p
  · have := hs.count_pos seat attached
    simp [attached, seat]
    omega
  · simp [attached]

theorem Seats.detachPort {s : State} (hs : Seats s) (p : Port) : Seats (detachPort p s) := by
  have attachment : ∀ i, ((Machine.detachPort p s).entry i).attachment =
      if (s.entry i).attachment = some p then none else (s.entry i).attachment := fun i => by
    rw [entry_detachPort]
    split <;> rfl
  refine ⟨fun i free => ?_, fun i q h => ?_, fun q seat => ?_⟩
  · rw [attachment]
    split
    · rfl
    · refine hs.free i ?_
      rw [entry_detachPort] at free
      split at free <;> exact free
  · rw [attachment] at h
    split at h
    · cases h
    · exact hs.carriage i q h
  · simp only [attachedTo, attachment]
    rw [port_detachPort]
    by_cases same : p = q
    · subst same
      rw [if_pos ⟨rfl, seat⟩]
      refine (List.countP_eq_zero.2 fun i _ => ?_).symm
      split <;> simp_all
    · rw [if_neg fun h => same h.1, hs.count q seat, attachedTo]
      refine List.countP_congr fun i _ => ?_
      split
      · next h => simp [h, same]
      · rfl

theorem Still.seats {s t : State} (h : Still s t) (hs : Seats s) : Seats t := by
  cases h with
  | aside h =>
    have entry : ∀ i, t.entry i = s.entry i := fun i => by rw [State.entry, h.entries]; rfl
    exact hs.congr (fun i => by rw [entry]) (fun i => by rw [entry]; exact id) fun p => by rw [State.port, h.ports]; rfl
  | port p f h =>
    refine hs.congr (fun _ => rfl) (fun _ => id) fun q => ?_
    rw [port_modPort]
    split
    · next same => subst same; exact h.seatCount
    · rfl
  | entry i f h held =>
    refine hs.congr (fun j => ?_) (fun j => ?_) fun _ => rfl
    · rw [entry_modEntry]
      split
      · next same => subst same; exact h.attachment
      · rfl
    · rw [entry_modEntry]
      split
      · next same => subst same; exact h.free.1
      · exact id
  | create i a free =>
    refine hs.entry i (fun j differs => by rw [entry_createEntry, if_neg (Ne.symm differs)]) ?_ ?_ fun p _ => ?_
    · rw [entry_createEntry, if_pos rfl]; exact fun _ => rfl
    · rw [entry_createEntry, if_pos rfl]; exact nofun
    · rw [entry_createEntry, if_pos rfl, hs.free i free]; rfl
  | attach i p used carriage =>
    have entry : (attachTo i p s).entry i = { s.entry i with attachment := some p, recentlyMoved := true, movedAt := s.time.ms } := by
      rw [entry_attachTo, if_pos rfl]
    refine hs.entry i (fun j differs => by rw [entry_attachTo, if_neg (Ne.symm differs)]) ?_ ?_ fun q seat => ?_
    · rw [entry]; exact fun free => absurd free used
    · rw [entry]; intro q same; cases same; exact carriage
    · rw [entry, port_attachTo]
      have share := hs.detached_count i seat
      by_cases same : p = q
      · subst same
        rw [if_pos ⟨rfl, seat⟩]
        simp only [decide_true, Bool.toNat_true]
        omega
      · rw [if_neg fun h => same h.1]
        simpa [same] using share
  | detach i =>
    refine hs.entry i (fun j differs => by rw [entry_detachStation, if_neg (Ne.symm differs)]) ?_ ?_ fun q seat => ?_
    · rw [entry_detachStation, if_pos rfl]; exact fun _ => rfl
    · rw [entry_detachStation, if_pos rfl]; exact nofun
    · rw [hs.detached_count i seat, entry_detachStation, if_pos rfl]; simp
  | detachAll p => exact hs.detachPort p
  | free i =>
    refine hs.entry i (fun j differs => by rw [entry_freeEntry, if_neg (Ne.symm differs)]) ?_ ?_ fun q seat => ?_
    · rw [entry_freeEntry, if_pos rfl]; exact fun _ => rfl
    · rw [entry_freeEntry, if_pos rfl]; exact nofun
    · rw [port_freeEntry, hs.detached_count i seat, entry_freeEntry, if_pos rfl]; simp [StationEntry.freed]

theorem attachedTo_reset (p : Port) : attachedTo State.reset p = 0 :=
  List.countP_eq_zero.2 fun i _ => by simp [reset_entry, StationEntry.freed]

theorem reset_seats : Seats State.reset :=
  ⟨fun i _ => by rw [reset_entry]; rfl, fun i p h => by (rw [reset_entry] at h; cases h),
    fun p _ => by rw [attachedTo_reset, reset_port]; rfl⟩

theorem change_keeps_seats {s t : State} (h : Change s t) (hs : Seats s) : Seats t := by
  have same : (∀ i, t.entry i = s.entry i) → (∀ p, (t.port p).seatCount = (s.port p).seatCount) → Seats t := fun entry count =>
    hs.congr (fun i => by rw [entry i]) (fun i => by rw [entry i]; exact id) count
  cases h with
  | inner h =>
    cases h with
    | still h => exact h.seats hs
    | giveCell => exact same (fun _ => by simp) fun _ => by simp
    | release => exact same (fun _ => rfl) fun _ => rfl
    | write => exact same (fun _ => rfl) fun _ => rfl
    | record => exact same (fun _ => rfl) fun _ => rfl
    | queue => exact same (fun _ => rfl) fun _ => rfl
    | tx p f =>
      refine same (fun _ => rfl) fun q => ?_
      rw [port_modPort]
      split
      · next e => rw [← e]
      · rfl
    | held i f =>
      refine hs.congr (fun j => ?_) (fun j => ?_) fun _ => rfl
      · rw [entry_modEntry]
        split
        · next e => rw [← e]
        · rfl
      · rw [entry_modEntry]
        split
        · next e => rw [← e]; exact id
        · exact id
  | unit p f _ seatCount =>
    refine same (fun _ => rfl) fun q => ?_
    rw [port_modPort]
    split
    · next e => rw [← e]; exact seatCount
    · rfl
  | units f h =>
    refine same (fun _ => rfl) fun q => ?_
    obtain ⟨l, e⟩ := h (s.port q)
    rw [State.port, Tab.get_mapAll, show f (s.ports.get q) = _ from e]
  | line => exact same (fun _ => rfl) fun _ => rfl
  | powerOn =>
    exact reset_seats.congr (fun _ => rfl) (fun _ => id) fun _ => rfl
  | serve => exact same (fun _ => rfl) fun _ => rfl

end Sys2Proof.Machine

section

open Sys2Proof Sys2Proof.Machine

/-- Settles O59: addresses by the kinds of change; attachments by the kinds of change and, for the ports' states, by the ports. -/
theorem stepKeepsStationTable : Obligations.StepKeepsStationTable := by
  refine ⟨fun _ _ => step_keeps change_keeps_table, fun s t attachments ports step => ?_⟩
  obtain ⟨seats, up⟩ := attachmentsAgree_iff.1 attachments
  exact attachmentsAgree_iff.2 ⟨step_keeps change_keeps_seats seats step,
    (portsStep_step s step).attached (carriagePortsAgree_iff.1 ports) up⟩

end

/-! # Frame memory and its holders

What the changes of records, queues and ports keep of `FramesAgree`, part by part: the cells, the places of reception, the queues, the
held counts. -/

namespace Sys2Proof.Machine

open Sys2Proof Relation

/-! ## Lists that change at one index -/

theorem flatMap_perm_of_eq_off {α β : Type} {g g' : α → List β} {i : α} (off : ∀ j, j ≠ i → g' j = g j) (l : List α) (nodup : l.Nodup)
    (mem : i ∈ l) : (l.flatMap g' ++ g i).Perm (l.flatMap g ++ g' i) := by
  induction l with
  | nil => cases mem
  | cons j l ih =>
    obtain ⟨notin, nodup⟩ := List.nodup_cons.1 nodup
    rw [List.flatMap_cons, List.flatMap_cons, List.append_assoc, List.append_assoc]
    by_cases same : i = j
    · subst same
      have rest : l.flatMap g' = l.flatMap g := List.flatMap_congr fun k hk => off k fun e => notin (e ▸ hk)
      rw [rest, ← List.append_assoc (g i)]
      exact List.perm_append_comm.trans (List.perm_append_comm.append_right _)
    · rw [off j (Ne.symm same)]
      exact (ih nodup ((List.mem_cons.1 mem).resolve_left same)).append_left _

/-! ## Cells -/

/-- What `CellsAgree` says beside the stages of the records (06 R99). -/
structure Chains (s : State) : Prop where
  once : (s.mem.free ++ (List.finRange 1024).flatMap (cellsOf s.mem)).Perm (List.finRange 2048)
  length : ∀ r, (cellsOf s.mem r).length = (s.record r).cellCount

/-- What `CellsAgree` says of one record (06 R102). -/
def FrameRecord.counted (x : FrameRecord) : Prop := x.cellCount ≤ 12 ∧ (x.stage = .free ↔ x.cellCount = 0)

theorem cellsAgree_iff {s : State} : CellsAgree s ↔ Chains s ∧ ∀ r, (s.record r).counted :=
  ⟨fun ⟨once, each⟩ => ⟨⟨once, fun r => (each r).1⟩, fun r => (each r).2⟩,
    fun ⟨⟨once, length⟩, counted⟩ => ⟨once, fun r => ⟨length r, counted r⟩⟩⟩

/-- Two records that hold the same cells. -/
def FrameRecord.sameCells (x y : FrameRecord) : Prop := y.firstCell = x.firstCell ∧ y.cellCount = x.cellCount

theorem cellsOf_congr {s t : State} (next : t.mem.next = s.mem.next) {r : RecordIx} (same : (s.record r).sameCells (t.record r)) :
    cellsOf t.mem r = cellsOf s.mem r := by
  unfold cellsOf
  rw [next, show (t.mem.records.get r).firstCell = _ from same.1, show (t.mem.records.get r).cellCount = _ from same.2]
  rfl

theorem Chains.congr {s t : State} (h : Chains s) (free : t.mem.free = s.mem.free) (cells : ∀ r, cellsOf t.mem r = cellsOf s.mem r)
    (count : ∀ r, (t.record r).cellCount = (s.record r).cellCount) : Chains t :=
  ⟨by rw [free, show cellsOf t.mem = cellsOf s.mem from funext cells]; exact h.once, fun r => by rw [cells, count]; exact h.length r⟩

theorem Chains.nodup {s : State} (h : Chains s) : (s.mem.free ++ (List.finRange 1024).flatMap (cellsOf s.mem)).Nodup :=
  h.once.nodup_iff.2 (List.nodup_finRange 2048)

theorem Chains.cells_nodup {s : State} (h : Chains s) (r : RecordIx) : (cellsOf s.mem r).Nodup :=
  (List.nodup_flatMap.1 (List.nodup_append.1 h.nodup).2.1).1 r (List.mem_finRange r)

theorem Chains.cells_disjoint {s : State} (h : Chains s) {r r' : RecordIx} (differs : r' ≠ r) :
    ∀ l ∈ cellsOf s.mem r, l ∉ cellsOf s.mem r' := fun l hl hl' => by
  have symm : Std.Symm (Function.onFun List.Disjoint (cellsOf s.mem)) := ⟨fun _ _ h => h.symm⟩
  exact (List.nodup_flatMap.1 (List.nodup_append.1 h.nodup).2.1).2.forall (List.mem_finRange r) (List.mem_finRange r')
    (Ne.symm differs) hl hl'

/-- Cells that pass between the free cell list and one record's chain. -/
theorem Chains.moved {s t : State} (h : Chains s) (r : RecordIx) (others : ∀ r', r' ≠ r → cellsOf t.mem r' = cellsOf s.mem r')
    (moved : (t.mem.free ++ cellsOf t.mem r).Perm (s.mem.free ++ cellsOf s.mem r))
    (length : ∀ r', (cellsOf t.mem r').length = (t.record r').cellCount) : Chains t := by
  refine ⟨List.perm_iff_count.2 fun c => ?_, length⟩
  have before := List.perm_iff_count.1 h.once c
  have at_r := List.perm_iff_count.1 moved c
  have off := List.perm_iff_count.1 (flatMap_perm_of_eq_off others _ (List.nodup_finRange 1024) (List.mem_finRange r)) c
  simp only [List.count_append] at before at_r off ⊢
  omega

theorem Chains.release {s : State} (h : Chains s) (r : RecordIx) : Chains (releaseRecord r s) := by
  refine h.moved r (fun r' differs => by rw [cellsOf_releaseRecord, if_neg differs]) ?_ fun r' => ?_
  · rw [cellsOf_releaseRecord, if_pos rfl, List.append_nil]; exact .refl _
  · rw [cellsOf_releaseRecord, record_releaseRecord]
    by_cases same : r' = r
    · rw [if_pos same, if_pos same.symm]; rfl
    · rw [if_neg same, if_neg (Ne.symm same)]; exact h.length r'

theorem giveCell_nil {r : RecordIx} {s : State} (none : s.mem.free = []) : giveCell r s = s := by simp only [giveCell, none]

theorem giveCell_free {r : RecordIx} {s : State} {c : CellIx} {rest : List CellIx} (free : s.mem.free = c :: rest) :
    (giveCell r s).mem.free = rest := by
  simp only [giveCell, free]
  split <;> rfl

theorem giveCell_record {r : RecordIx} {s : State} {c : CellIx} {rest : List CellIx} (free : s.mem.free = c :: rest) (r' : RecordIx) :
    (giveCell r s).record r' = if r = r' then
      { s.record r with
        firstCell := if (cellsOf s.mem r).isEmpty then c else (s.record r).firstCell, cellCount := (s.record r).cellCount + 1 }
    else s.record r' := by
  have records : (giveCell r s).mem.records = s.mem.records.modify r (fun x =>
      { x with firstCell := if (cellsOf s.mem r).isEmpty then c else x.firstCell, cellCount := x.cellCount + 1 }) := by
    simp only [giveCell, free]
    split <;> rfl
  rw [State.record, records, Tab.get_modify]
  rfl

theorem Chains.giveCell {s : State} (h : Chains s) (r : RecordIx) : Chains (giveCell r s) := by
  cases free : s.mem.free with
  | nil => rw [giveCell_nil free]; exact h
  | cons c rest =>
    have unheld : ∀ r', c ∉ cellsOf s.mem r' := fun r' held =>
      (List.nodup_append.1 h.nodup).2.2 c (by rw [free]; exact List.mem_cons_self) c
        (List.mem_flatMap.2 ⟨r', List.mem_finRange r', held⟩) rfl
    have cells : ∀ r', cellsOf (Machine.giveCell r s).mem r' = if r' = r then cellsOf s.mem r ++ [c] else cellsOf s.mem r' := fun r' =>
      cellsOf_giveCell free (h.length r) (h.cells_nodup r) unheld r' h.cells_disjoint
    refine h.moved r (fun r' differs => by rw [cells, if_neg differs]) ?_ fun r' => ?_
    · rw [cells, if_pos rfl, giveCell_free free, free, List.perm_iff_count]
      intro x
      simp only [List.count_append, List.count_cons, List.count_nil]
      omega
    · rw [cells, giveCell_record free]
      by_cases same : r' = r
      · rw [if_pos same, if_pos same.symm, List.length_append, h.length r]; rfl
      · rw [if_neg same, if_neg (Ne.symm same)]; exact h.length r'

/-! ## Places, queues and held counts -/

/-- A port unit that names no more records than another. -/
structure PortLess (u v : PortUnit) : Prop where
  rx : ∀ {r n}, v.rx = .storing r n → ∃ m, u.rx = .storing r m
  intake : v.intake.Sublist u.intake
  tx : ∀ {r q n}, v.tx = .sending r q n → ∃ m, u.tx = .sending r q m

theorem PortLess.refl (u : PortUnit) : PortLess u u := ⟨fun h => ⟨_, h⟩, .refl _, fun h => ⟨_, h⟩⟩

theorem PortLess.of_eq {u v : PortUnit} (rx : v.rx = u.rx) (intake : v.intake = u.intake) (tx : v.tx = u.tx) : PortLess u v :=
  ⟨fun h => ⟨_, rx ▸ h⟩, by rw [intake], fun h => ⟨_, tx ▸ h⟩⟩

theorem portsLess_modPort {s : State} {p : Port} {f : PortUnit → PortUnit} (h : PortLess (s.port p) (f (s.port p))) (q : Port) :
    PortLess (s.port q) ((s.modPort p f).port q) := by
  rw [port_modPort]
  split
  · next same => subst same; exact h
  · exact .refl _

theorem PlacesAgree.congr {s t : State} (h : PlacesAgree s) (ports : ∀ p, PortLess (s.port p) (t.port p))
    (storing : ∀ p r n, (t.port p).rx = .storing r n → (s.record r).stage = .receiving → (t.record r).stage = .receiving)
    (waiting : ∀ p r, r ∈ (t.port p).intake → (s.record r).stage = .deciding → (t.record r).stage = .deciding) : PlacesAgree t := by
  obtain ⟨receiving, one, deciding, nodup, apart⟩ := h
  refine ⟨fun p r n hr => ?_, fun p p' r n n' hr hr' => ?_, fun p r hr => ?_, fun p => ?_, fun p p' r hr hr' => ?_⟩
  · obtain ⟨m, old⟩ := (ports p).rx hr
    exact storing p r n hr (receiving p r m old)
  · obtain ⟨m, old⟩ := (ports p).rx hr
    obtain ⟨m', old'⟩ := (ports p').rx hr'
    exact one p p' r m m' old old'
  · exact waiting p r hr (deciding p r ((ports p).intake.subset hr))
  · exact (nodup p).sublist (ports p).intake
  · exact apart p p' r ((ports p).intake.subset hr) ((ports p').intake.subset hr')

theorem not_listed {s : State} {r : RecordIx} (none : listings s r = 0) (q : QueueId) : r ∉ (s.queue q).records :=
  fun listed => List.countP_eq_zero.1 none (queueIx q) (List.mem_finRange _) (decide_eq_true listed)

theorem listings_congr {s t : State} {r : RecordIx} (h : ∀ k, r ∈ (t.queues.get k).records ↔ r ∈ (s.queues.get k).records) :
    listings t r = listings s r := List.countP_congr fun k _ => by simpa using h k

theorem listings_pos {s : State} {q : QueueId} {r : RecordIx} (listed : r ∈ (s.queue q).records) : 0 < listings s r :=
  List.countP_pos_iff.2 ⟨queueIx q, List.mem_finRange _, decide_eq_true listed⟩

/-- The number of queued records that name an entry (02 R35). -/
def naming (s : State) (i : StationIx) : Nat := (List.finRange 1024).countP (fun r => decide ((s.record r).dest = some i))

/-- What `QueuesAgree` says beside transmissions (06 R104). -/
structure Listed (s : State) : Prop where
  nodup : ∀ q, (s.queue q).records.Nodup
  tally : ∀ q, (s.queue q).tally = ((s.queue q).records.map (fun r => (s.record r).cellCount)).sum
  holders : ∀ r, (s.record r).holders = listings s r
  queued : ∀ r, (s.record r).stage = .queued ↔ 0 < (s.record r).holders

/-- A record in transmission is listed by the queue it was taken from (07 R119). -/
def Sending (s : State) : Prop := ∀ p r q n, (s.port p).tx = .sending r q n → r ∈ (s.queue q).records ∧ queuePort q = p

theorem queuesAgree_iff {s : State} : QueuesAgree s ↔ Listed s ∧ Sending s :=
  ⟨fun ⟨lists, held, sending⟩ => ⟨⟨fun q => (lists q).1, fun q => (lists q).2, fun r => (held r).1, fun r => (held r).2⟩, sending⟩,
    fun ⟨⟨nodup, tally, holders, queued⟩, sending⟩ => ⟨fun q => ⟨nodup q, tally q⟩, fun r => ⟨holders r, queued r⟩, sending⟩⟩

theorem Listed.congr {s t : State} (h : Listed s)
    (queues : ∀ k, (t.queues.get k).records = (s.queues.get k).records ∧ (t.queues.get k).tally = (s.queues.get k).tally)
    (cells : ∀ r, 0 < listings s r → (t.record r).cellCount = (s.record r).cellCount)
    (holders : ∀ r, (t.record r).holders = (s.record r).holders)
    (queued : ∀ r, (t.record r).stage = .queued ↔ (s.record r).stage = .queued) : Listed t := by
  have listed : ∀ r, listings t r = listings s r := fun r => listings_congr fun k => by rw [(queues k).1]
  refine ⟨fun q => ?_, fun q => ?_, fun r => ?_, fun r => ?_⟩
  · rw [State.queue, (queues (queueIx q)).1]; exact h.nodup q
  · rw [State.queue, (queues (queueIx q)).1, (queues (queueIx q)).2]
    exact (h.tally q).trans (congrArg List.sum (List.map_congr_left fun r mem => (cells r (listings_pos mem)).symm))
  · rw [holders, listed]; exact h.holders r
  · rw [holders, queued]; exact h.queued r

theorem Sending.congr {s t : State} (h : Sending s) (queues : ∀ q, (t.queue q).records = (s.queue q).records)
    (tx : ∀ p r q n, (t.port p).tx = .sending r q n → ∃ m, (s.port p).tx = .sending r q m) : Sending t := fun p r q n hr => by
  obtain ⟨m, old⟩ := tx p r q n hr
  rw [queues]
  exact h p r q m old

theorem HeldCountsAgree.congr {s t : State} (h : HeldCountsAgree s) (held : ∀ i, (t.entry i).heldCount = (s.entry i).heldCount)
    (free : ∀ i, (t.entry i).state = .free → (s.entry i).state = .free ∨ (s.entry i).heldCount = 0)
    (dest : ∀ r, (t.record r).dest = (s.record r).dest)
    (queued : ∀ r, (s.record r).stage = .queued → (t.record r).stage = .queued)
    (holders : ∀ r, (t.record r).holders = (s.record r).holders) : HeldCountsAgree t := by
  obtain ⟨counts, none, one⟩ := h
  refine ⟨fun i => ?_, fun i hi => ?_, fun r hr => ?_⟩
  · rw [held, counts]
    simp only [dest]
  · rw [held]
    exact (free i hi).elim (none i) id
  · rw [dest] at hr
    obtain ⟨stage, holder⟩ := one r hr
    exact ⟨queued r stage, (holders r).trans holder⟩

/-! ## The whole of it -/

/-- Two records alike in what frame memory's holders look at. -/
structure RecordSame (x y : FrameRecord) : Prop where
  stage : y.stage = x.stage
  cells : x.sameCells y
  dest : y.dest = x.dest
  holders : y.holders = x.holders

theorem RecordSame.refl (x : FrameRecord) : RecordSame x x := ⟨rfl, ⟨rfl, rfl⟩, rfl, rfl⟩

/-- `FramesAgree` but for the records in transmission. -/
structure Frames (s : State) : Prop where
  count : FreeCountAgrees s
  chains : Chains s
  counted : ∀ r, (s.record r).counted
  places : PlacesAgree s
  listed : Listed s
  held : HeldCountsAgree s

theorem framesAgree_iff {s : State} : FramesAgree s ↔ Frames s ∧ Sending s := by
  unfold FramesAgree
  rw [cellsAgree_iff, queuesAgree_iff]
  exact ⟨fun ⟨count, ⟨chains, counted⟩, places, ⟨listed, sending⟩, held⟩ => ⟨⟨count, chains, counted, places, listed, held⟩, sending⟩,
    fun ⟨⟨count, chains, counted, places, listed, held⟩, sending⟩ => ⟨count, ⟨chains, counted⟩, places, ⟨listed, sending⟩, held⟩⟩

/-- A change that keeps what each record, queue and entry holds, and with which each port names no more records. -/
structure FramesLike (s t : State) : Prop where
  memory : t.mem.next = s.mem.next ∧ t.mem.free = s.mem.free ∧ t.mem.freeCount = s.mem.freeCount
  records : ∀ r, RecordSame (s.record r) (t.record r)
  queues : ∀ k, (t.queues.get k).records = (s.queues.get k).records ∧ (t.queues.get k).tally = (s.queues.get k).tally
  ports : ∀ p, PortLess (s.port p) (t.port p)
  held : ∀ i, (t.entry i).heldCount = (s.entry i).heldCount
  free : ∀ i, (t.entry i).state = .free → (s.entry i).state = .free ∨ (s.entry i).heldCount = 0

theorem FramesLike.frames {s t : State} (like : FramesLike s t) (h : Frames s) : Frames t := by
  obtain ⟨next, free, freeCount⟩ := like.memory
  have stage := fun r => (like.records r).stage
  have cells := fun r => (like.records r).cells
  have holders := fun r => (like.records r).holders
  refine ⟨by rw [FreeCountAgrees, freeCount, free]; exact h.count, ?_, fun r => ?_, ?_, ?_, ?_⟩
  · exact h.chains.congr free (fun r => cellsOf_congr next (cells r)) fun r => (cells r).2
  · rw [FrameRecord.counted, (cells r).2, stage]; exact h.counted r
  · exact h.places.congr like.ports (fun _ r _ _ => (stage r).trans) fun _ r _ => (stage r).trans
  · exact h.listed.congr like.queues (fun r _ => (cells r).2) holders fun r => by rw [stage]
  · exact h.held.congr like.held like.free (fun r => (like.records r).dest) (fun r => (stage r).trans) holders

theorem FramesLike.sending {s t : State} (like : FramesLike s t) (h : Sending s) : Sending t :=
  h.congr (fun q => (like.queues (queueIx q)).1) fun p _ _ _ => (like.ports p).tx

theorem FramesLike.keeps {s t : State} (like : FramesLike s t) (h : FramesAgree s) : FramesAgree t :=
  have ⟨frames, sending⟩ := framesAgree_iff.1 h
  framesAgree_iff.2 ⟨like.frames frames, like.sending sending⟩

end Sys2Proof.Machine

/-! # A record leaves a queue

What `leaveQueue` (06 R108) leaves of each part of the state. -/

namespace Sys2Proof.Machine

open Sys2Proof

/-! ## The queue that is left empty -/

theorem queueEmptied_port (q : QueueId) (s : State) (p : Port) : (queueEmptied q s).port p =
    { s.port p with guardCount := if (∃ k, q = .normal k) ∧ queuePort q = p then 0 else (s.port p).guardCount } := by
  cases q with
  | normal k =>
    simp only [queueEmptied, port_modPort]
    by_cases same : queuePort (.normal k) = p
    · subst same; simp
    · simp [same]
  | through b => simp [queueEmptied, drrOf]
  | cls b c => simp only [queueEmptied]; split <;> simp
  | priority k => simp [queueEmptied, drrOf]
  | seat k => simp [queueEmptied, drrOf]

theorem queueEmptied_deficit {q : QueueId} {b : Side} {d : DrrQueue} (h : q = drrQueue b d) (s : State) :
    ((queueEmptied q s).side b).deficit.get (drrIx d) = 0 := by
  subst h
  cases d <;> simp [queueEmptied, drrQueue, drrOf]

theorem unlist_port (q : QueueId) (r : RecordIx) (s : State) (p : Port) : (unlist q r s).port p =
    { s.port p with guardCount :=
        if (s.queue q).records.erase r = [] ∧ (∃ k, q = .normal k) ∧ queuePort q = p then 0 else (s.port p).guardCount } := by
  unfold unlist
  simp only [queue_modQueue_self, List.isEmpty_iff]
  by_cases empty : (s.queue q).records.erase r = []
  · simp [empty, queueEmptied_port]
  · simp [empty]

theorem unlist_sides {q : QueueId} {r : RecordIx} {s : State} (left : (s.queue q).records.erase r ≠ []) :
    (unlist q r s).fore = s.fore ∧ (unlist q r s).aft = s.aft := by
  unfold unlist
  simp only [queue_modQueue_self, List.isEmpty_iff, left, if_false]
  exact ⟨rfl, rfl⟩

theorem unlist_deficit {q : QueueId} {r : RecordIx} {s : State} (empty : (s.queue q).records.erase r = []) {b : Side} {d : DrrQueue}
    (h : q = drrQueue b d) : ((unlist q r s).side b).deficit.get (drrIx d) = 0 := by
  unfold unlist
  simp only [queue_modQueue_self, List.isEmpty_iff, empty, if_true]
  exact queueEmptied_deficit h _

/-! ## The station that a departing record names -/

/-- RELEASE waits for an entry to be freed (02 R33). -/
def awaitsRelease (i : StationIx) (s : State) : Bool :=
  match s.mgmt.exec with
  | some f => decide (f.phase = .releaseWait i)
  | none => false

theorem awaitsRelease_iff {i : StationIx} {s : State} :
    awaitsRelease i s = true ↔ ∃ f, s.mgmt.exec = some f ∧ f.phase = .releaseWait i := by
  unfold awaitsRelease
  split
  · next f exec => simp [exec]
  · next none => simp [none]

theorem freeReleased_of_awaited {i : StationIx} {s : State} (awaited : awaitsRelease i s = true) (held : (s.entry i).heldCount = 0) :
    freeReleased i s = finishItem .done [] (freeEntry i s) := by
  obtain ⟨f, exec, phase⟩ := awaitsRelease_iff.1 awaited
  simp only [freeReleased, exec, phase, held, and_self, if_true]

theorem freeReleased_of_not {i : StationIx} {s : State} (not : ¬ (awaitsRelease i s = true ∧ (s.entry i).heldCount = 0)) :
    freeReleased i s = s := by
  unfold freeReleased
  split
  · rfl
  · next f exec => exact if_neg fun ⟨phase, held⟩ => not ⟨awaitsRelease_iff.2 ⟨f, exec, phase⟩, held⟩

/-- The held count of an entry falls by one (02 R35). -/
def unheld (i : StationIx) (s : State) : State := s.modEntry i (fun e => { e with heldCount := e.heldCount - 1 })

theorem departStation_some (i : StationIx) (s : State) : departStation (some i) s = freeReleased i (unheld i s) := rfl

theorem departStation_of_held {i : StationIx} {s : State} (not : ¬ (awaitsRelease i s = true ∧ (s.entry i).heldCount ≤ 1)) :
    departStation (some i) s = unheld i s := by
  rw [departStation_some, freeReleased_of_not]
  rintro ⟨awaited, held⟩
  refine not ⟨awaited, ?_⟩
  rw [unheld, entry_modEntry_self] at held
  simp only at held
  omega

theorem departStation_of_awaited {i : StationIx} {s : State} (awaited : awaitsRelease i s = true) (held : (s.entry i).heldCount ≤ 1) :
    departStation (some i) s = finishItem .done [] (freeEntry i (unheld i s)) := by
  refine (departStation_some i s).trans (freeReleased_of_awaited (s := unheld i s) awaited ?_)
  rw [unheld, entry_modEntry_self]
  exact Nat.sub_eq_zero_of_le held

/-- What a departure leaves of the entries. -/
theorem departStation_entry (i j : StationIx) (s : State) : (departStation (some i) s).entry j =
    if i = j then
      if awaitsRelease i s = true ∧ (s.entry i).heldCount ≤ 1 then StationEntry.freed (s.entry i).lastRefill
      else { s.entry i with heldCount := (s.entry i).heldCount - 1 }
    else s.entry j := by
  by_cases freed : awaitsRelease i s = true ∧ (s.entry i).heldCount ≤ 1
  · rw [departStation_of_awaited freed.1 freed.2, if_pos freed]
    have entry : ∀ t : State, (finishItem .done [] t).entry j = t.entry j := fun t => by rw [State.entry, finishItem_table]; rfl
    rw [entry, entry_freeEntry, unheld, entry_modEntry, entry_modEntry]
    split
    · rw [if_pos rfl]
    · rfl
  · rw [departStation_of_held freed, if_neg freed, unheld, entry_modEntry]

theorem finishItem_mgmt_congr {s t : State} (mgmt : t.mgmt = s.mgmt) (line : t.line = s.line) (st : Status) (data : List Byte) :
    (finishItem st data t).mgmt = (finishItem st data s).mgmt := by
  unfold finishItem
  rw [mgmt, line]
  split
  · exact mgmt
  · simp only
    split
    · exact mgmt
    · simp only [State.modMgmt, mgmt]

theorem departStation_mgmt (i : StationIx) (s : State) : (departStation (some i) s).mgmt =
    if awaitsRelease i s = true ∧ (s.entry i).heldCount ≤ 1 then (finishItem .done [] s).mgmt else s.mgmt := by
  by_cases freed : awaitsRelease i s = true ∧ (s.entry i).heldCount ≤ 1
  · rw [departStation_of_awaited freed.1 freed.2, if_pos freed]
    exact finishItem_mgmt_congr (by simp [unheld]) (by simp [unheld]) _ _
  · rw [departStation_of_held freed, if_neg freed]; rfl

theorem departStation_port (d : Option StationIx) (s : State) (p : Port) :
    (departStation d s).port p = { s.port p with seatCount := ((departStation d s).port p).seatCount } := by
  cases d with
  | none => rfl
  | some i =>
    by_cases freed : awaitsRelease i s = true ∧ (s.entry i).heldCount ≤ 1
    · rw [departStation_of_awaited freed.1 freed.2, finishItem_port, port_freeEntry, port_detachStation]
      split <;> rfl
    · rw [departStation_of_held freed]; rfl

theorem departStation_reports (d : Option StationIx) (s : State) : (departStation d s).table.reports = s.table.reports := by
  cases d with
  | none => rfl
  | some i =>
    by_cases freed : awaitsRelease i s = true ∧ (s.entry i).heldCount ≤ 1
    · obtain ⟨ports, entries, shape⟩ := detachStation_shape i (unheld i s)
      rw [departStation_of_awaited freed.1 freed.2, finishItem_table, freeEntry, shape]; rfl
    · rw [departStation_of_held freed]; rfl

/-! ## The record -/

/-- A record off the list of a queue, with its holder gone: what follows concerns its station and its cells. -/
def offQueue (q : QueueId) (r : RecordIx) (s : State) : State :=
  (unlist q r s).modRecord r (fun x => { x with holders := x.holders - 1 })

theorem leaveQueue_eq (q : QueueId) (r : RecordIx) (s : State) : leaveQueue q r s =
    if (s.record r).holders ≤ 1 then releaseRecord r (departStation (s.record r).dest (offQueue q r s))
    else departStation (s.record r).dest (offQueue q r s) := by
  have holders : ((departStation (s.record r).dest (offQueue q r s)).record r).holders = (s.record r).holders - 1 := by
    simp only [State.record, departStation_frame, offQueue, State.modRecord, unlist_frame, Tab.get_modify_self]
  unfold leaveQueue
  simp only
  rw [show (unlist q r s).modRecord r (fun x => { x with holders := x.holders - 1 }) = offQueue q r s from rfl, holders]
  simp only [Nat.sub_eq_zero_iff_le]

theorem offQueue_mem (q : QueueId) (r : RecordIx) (s : State) : (offQueue q r s).mem =
    (s.modRecord r (fun x => { x with holders := x.holders - 1 })).mem := by
  obtain ⟨-, -, -, -, -, -, -, mem, -⟩ := unlist_frame q r s
  show ({ (unlist q r s).mem with records := (unlist q r s).mem.records.modify r _ } : FrameMemory) = _
  rw [mem]
  rfl

theorem releaseRecord_offQueue_mem {q : QueueId} {r : RecordIx} {s t : State} (mem : t.mem = (offQueue q r s).mem) :
    (releaseRecord r t).mem = (releaseRecord r s).mem := by
  have records : t.mem = (s.modRecord r (fun x => { x with holders := x.holders - 1 })).mem := by rw [mem, offQueue_mem]
  have cells : cellsOf t.mem r = cellsOf s.mem r := by simp only [cellsOf, records, State.modRecord, Tab.get_modify_self]
  unfold releaseRecord
  simp only [cells]
  simp only [records, State.modRecord, Tab.modify_eq_set, Tab.set_set]

theorem leaveQueue_mem (q : QueueId) (r : RecordIx) (s : State) : (leaveQueue q r s).mem =
    if (s.record r).holders ≤ 1 then (releaseRecord r s).mem
    else (s.modRecord r (fun x => { x with holders := x.holders - 1 })).mem := by
  have departed : (departStation (s.record r).dest (offQueue q r s)).mem = (offQueue q r s).mem := by simp
  rw [leaveQueue_eq]
  split
  · exact releaseRecord_offQueue_mem departed
  · rw [departed, offQueue_mem]

/-- What a departure leaves beside memory is what the station's part of it leaves. -/
theorem leaveQueue_departStation (q : QueueId) (r : RecordIx) (s : State) :
    ∃ m, leaveQueue q r s = { departStation (s.record r).dest (offQueue q r s) with mem := m } := by
  rw [leaveQueue_eq]
  split
  · exact ⟨_, rfl⟩
  · exact ⟨_, rfl⟩

theorem leaveQueue_port (q : QueueId) (r : RecordIx) (s : State) (p : Port) : (leaveQueue q r s).port p =
    { (unlist q r s).port p with seatCount := ((leaveQueue q r s).port p).seatCount } := by
  obtain ⟨m, h⟩ := leaveQueue_departStation q r s
  rw [h]
  exact departStation_port _ _ p

theorem leaveQueue_sides (q : QueueId) (r : RecordIx) (s : State) :
    (leaveQueue q r s).fore = (unlist q r s).fore ∧ (leaveQueue q r s).aft = (unlist q r s).aft := by
  obtain ⟨m, h⟩ := leaveQueue_departStation q r s
  rw [h]
  exact ⟨by simp [offQueue], by simp [offQueue]⟩

theorem leaveQueue_reports (q : QueueId) (r : RecordIx) (s : State) : (leaveQueue q r s).table.reports = s.table.reports := by
  obtain ⟨m, h⟩ := leaveQueue_departStation q r s
  rw [h]
  exact (departStation_reports _ _).trans (by simp [offQueue])

theorem offQueue_entry (q : QueueId) (r : RecordIx) (s : State) (i : StationIx) : (offQueue q r s).entry i = s.entry i := by
  simp [State.entry, offQueue]

theorem offQueue_mgmt (q : QueueId) (r : RecordIx) (s : State) : (offQueue q r s).mgmt = s.mgmt := by simp [offQueue]

theorem awaitsRelease_congr {i : StationIx} {s t : State} (mgmt : t.mgmt = s.mgmt) : awaitsRelease i t = awaitsRelease i s := by
  unfold awaitsRelease
  rw [mgmt]

theorem leaveQueue_of_none {q : QueueId} {r : RecordIx} {s : State} (dest : (s.record r).dest = none) :
    (leaveQueue q r s).table = s.table ∧ (leaveQueue q r s).mgmt = s.mgmt := by
  obtain ⟨m, h⟩ := leaveQueue_departStation q r s
  rw [h, dest]
  exact ⟨by simp [offQueue, departStation], offQueue_mgmt q r s⟩

theorem leaveQueue_entry {q : QueueId} {r : RecordIx} {s : State} {i : StationIx} (dest : (s.record r).dest = some i) (j : StationIx) :
    (leaveQueue q r s).entry j = if i = j then
        if awaitsRelease i s = true ∧ (s.entry i).heldCount ≤ 1 then StationEntry.freed (s.entry i).lastRefill
        else { s.entry i with heldCount := (s.entry i).heldCount - 1 }
      else s.entry j := by
  obtain ⟨m, h⟩ := leaveQueue_departStation q r s
  rw [h, dest]
  refine (departStation_entry i j (offQueue q r s)).trans ?_
  simp only [offQueue_entry, awaitsRelease_congr (offQueue_mgmt q r s)]

theorem leaveQueue_mgmt {q : QueueId} {r : RecordIx} {s : State} {i : StationIx} (dest : (s.record r).dest = some i) :
    (leaveQueue q r s).mgmt =
      if awaitsRelease i s = true ∧ (s.entry i).heldCount ≤ 1 then (finishItem .done [] s).mgmt else s.mgmt := by
  obtain ⟨m, h⟩ := leaveQueue_departStation q r s
  rw [h, dest]
  refine (departStation_mgmt i (offQueue q r s)).trans ?_
  rw [offQueue_entry, awaitsRelease_congr (offQueue_mgmt q r s),
    finishItem_mgmt_congr (offQueue_mgmt q r s) (by simp [offQueue])]
  rw [offQueue_mgmt]

theorem leaveQueue_record (q : QueueId) (r r' : RecordIx) (s : State) : (leaveQueue q r s).record r' =
    if r = r' then
      if (s.record r).holders ≤ 1 then FrameRecord.fresh else { s.record r with holders := (s.record r).holders - 1 }
    else s.record r' := by
  rw [State.record, leaveQueue_mem]
  split
  · exact record_releaseRecord r r' s
  · exact record_modRecord s r r' _

end Sys2Proof.Machine

section

open Sys2Proof Sys2Proof.Machine

/-- Settles O23, from what a departure leaves of each part of the state. -/
theorem recordLeavesQueue : Obligations.RecordLeavesQueue := by
  intro s q r
  have port := fun p => (leaveQueue_port q r s p).trans (by rw [unlist_port])
  obtain ⟨-, line, -, -, time, -, -, notice, globals⟩ := leaveQueue_frame q r s
  obtain ⟨fore, aft⟩ := leaveQueue_sides q r s
  simp only
  refine ⟨?_, fun q' differs => ?_, fun left => ⟨fun k normal => ?_, fun b d drr => ?_⟩, fun left => ?_, fun last => ?_, fun more => ?_,
    fun r' differs => ?_, ?_, leaveQueue_of_none, fun i dest => ⟨fun j differs => ?_, fun stays => ?_, fun awaited held => ?_⟩,
    leaveQueue_reports q r s, notice, globals, line, time, fun p => ?_⟩
  · rw [leaveQueue_queue, unlist_queue, if_pos rfl]
  · rw [leaveQueue_queue, unlist_queue, if_neg (Ne.symm differs)]
  · rw [port, if_pos ⟨left, ⟨k, normal⟩, rfl⟩]
  · have deficit := unlist_deficit left drr
    cases b with
    | fore => rw [← deficit]; exact congrArg (fun x : BackboneTx => x.deficit.get (drrIx d)) fore
    | aft => rw [← deficit]; exact congrArg (fun x : BackboneTx => x.deficit.get (drrIx d)) aft
  · obtain ⟨fore', aft'⟩ := unlist_sides left
    refine ⟨fore.trans fore', aft.trans aft', fun p => ?_⟩
    rw [port, if_neg fun h => left h.1]
  · rw [leaveQueue_record, if_pos rfl, if_pos last, leaveQueue_mem, if_pos last]
    exact ⟨rfl, rfl⟩
  · rw [leaveQueue_record, if_pos rfl, if_neg (by omega), leaveQueue_mem, if_neg (by omega)]
    exact ⟨rfl, rfl⟩
  · rw [leaveQueue_record, if_neg (Ne.symm differs)]
  · rw [leaveQueue_mem]
    split <;> rfl
  · rw [leaveQueue_entry dest, if_neg (Ne.symm differs)]
  · have kept : ¬ (awaitsRelease i s = true ∧ (s.entry i).heldCount ≤ 1) := by
      rintro ⟨awaited, held⟩
      obtain ⟨f, exec, phase⟩ := awaitsRelease_iff.1 awaited
      rcases stays with none | held'
      · exact none f exec phase
      · omega
    rw [leaveQueue_entry dest, if_pos rfl, if_neg kept, leaveQueue_mgmt dest, if_neg kept]
    exact ⟨rfl, rfl⟩
  · have freed : awaitsRelease i s = true ∧ (s.entry i).heldCount ≤ 1 := ⟨awaitsRelease_iff.2 awaited, held⟩
    rw [leaveQueue_entry dest, if_pos rfl, if_pos freed, leaveQueue_mgmt dest, if_pos freed]
    exact ⟨rfl, rfl⟩
  · rw [port]; exact ⟨rfl, rfl, rfl⟩

end

/-! # Frame memory and its holders under each operation -/

namespace Sys2Proof.Machine

open Sys2Proof Relation

/-! ## Changes that touch no frame -/

theorem Still.framesLike {s t : State} (h : Still s t) (unused : ∀ i, (s.entry i).state = .free → (s.entry i).heldCount = 0) :
    FramesLike s t := by
  have mem := h.mem
  have record : ∀ r, t.record r = s.record r := fun r => by rw [State.record, mem]; rfl
  have ports : ∀ p, PortLess (s.port p) (t.port p) := fun p => by
    obtain ⟨view, tx, -⟩ := h.portKept p
    have rx := congrArg PortUnit.rx view
    have intake := congrArg PortUnit.intake view
    exact .of_eq rx intake tx
  refine ⟨by rw [mem]; exact ⟨rfl, rfl, rfl⟩, fun r => by rw [record]; exact .refl _, fun k => by rw [h.queues]; exact ⟨rfl, rfl⟩, ports,
    ?_, ?_⟩
  · intro i
    cases h with
    | aside h => rw [State.entry, h.entries]; rfl
    | port => rfl
    | entry j f _ held =>
      rw [entry_modEntry]
      split
      · next same => subst same; exact held
      · rfl
    | create j a free =>
      rw [entry_createEntry]
      split
      · next same => subst same; exact (unused j free).symm
      · rfl
    | attach => rw [entry_attachTo]; split <;> simp_all
    | detach => rw [entry_detachStation]; split <;> simp_all
    | detachAll => rw [entry_detachPort]; split <;> rfl
    | free j held =>
      rw [entry_freeEntry]
      split
      · next same => subst same; exact held.symm
      · rfl
  · intro i
    cases h with
    | aside h => rw [State.entry, h.entries]; exact .inl
    | port => exact .inl
    | entry j f h =>
      rw [entry_modEntry]
      split
      · next same => subst same; exact fun free => .inl (h.free.1 free)
      · exact .inl
    | create j a =>
      rw [entry_createEntry]
      split
      · exact nofun
      · exact .inl
    | attach =>
      rw [entry_attachTo]
      split
      · next same => subst same; exact .inl
      · exact .inl
    | detach =>
      rw [entry_detachStation]
      split
      · next same => subst same; exact .inl
      · exact .inl
    | detachAll =>
      rw [entry_detachPort]
      split <;> exact .inl
    | free j held =>
      rw [entry_freeEntry]
      split
      · next same => subst same; exact fun _ => .inr held
      · exact .inl

theorem Frames.unused {s : State} (h : Frames s) (i : StationIx) : (s.entry i).state = .free → (s.entry i).heldCount = 0 := h.held.2.1 i

theorem FramesAgree.frames {s : State} (h : FramesAgree s) : Frames s := (framesAgree_iff.1 h).1
theorem FramesAgree.sending {s : State} (h : FramesAgree s) : Sending s := (framesAgree_iff.1 h).2

theorem frames_stills {s t : State} (path : Stills s t) (h : FramesAgree s) : FramesAgree t := by
  induction path with
  | refl => exact h
  | tail _ last ih => exact (last.framesLike ih.frames.unused).keeps ih

theorem framesLike_modPort {s : State} {p : Port} {f : PortUnit → PortUnit} (h : PortLess (s.port p) (f (s.port p))) :
    FramesLike s (s.modPort p f) :=
  ⟨⟨rfl, rfl, rfl⟩, fun _ => .refl _, fun _ => ⟨rfl, rfl⟩, portsLess_modPort h, fun _ => rfl, fun _ => .inl⟩

/-- A change of port units alone. -/
theorem framesLike_ports {s t : State} (mem : t.mem = s.mem) (queues : t.queues = s.queues) (table : t.table = s.table)
    (ports : ∀ p, PortLess (s.port p) (t.port p)) : FramesLike s t :=
  ⟨by rw [mem]; exact ⟨rfl, rfl, rfl⟩, fun r => by rw [show t.record r = s.record r by rw [State.record, mem]; rfl]; exact .refl _,
    fun k => by rw [queues]; exact ⟨rfl, rfl⟩, ports, fun i => by rw [State.entry, table]; rfl, fun i => by rw [State.entry, table]; exact .inl⟩

/-- A change of what a record holds beside its stage, cells, destination and holders. -/
theorem framesLike_modRecord {s : State} {r : RecordIx} {f : FrameRecord → FrameRecord} (h : RecordSame (s.record r) (f (s.record r))) :
    FramesLike s (s.modRecord r f) := by
  refine ⟨⟨rfl, rfl, rfl⟩, fun r' => ?_, fun _ => ⟨rfl, rfl⟩, fun p => .refl _, fun _ => rfl, fun _ => .inl⟩
  rw [record_modRecord]
  split
  · next same => subst same; exact h
  · exact .refl _

/-- A change of a queue beside its records and its tally. -/
theorem framesLike_modQueue {s : State} {q : QueueId} {f : Queue → Queue}
    (h : (f (s.queue q)).records = (s.queue q).records ∧ (f (s.queue q)).tally = (s.queue q).tally) : FramesLike s (s.modQueue q f) := by
  refine ⟨⟨rfl, rfl, rfl⟩, fun _ => .refl _, fun k => ?_, fun p => .refl _, fun _ => rfl, fun _ => .inl⟩
  rw [State.modQueue, Tab.get_modify]
  split
  · next same => subst same; exact h
  · exact ⟨rfl, rfl⟩

/-! ## Records that nothing names -/

/-- A record that no reception, intake place or queue names, and that names no station. -/
structure Loose (r : RecordIx) (s : State) : Prop where
  rx : ∀ p n, (s.port p).rx ≠ .storing r n
  intake : ∀ p, r ∉ (s.port p).intake
  unlisted : listings s r = 0
  dest : (s.record r).dest = none

theorem Listed.stage_of_unlisted {s : State} (h : Listed s) {r : RecordIx} (unlisted : listings s r = 0) :
    (s.record r).holders = 0 ∧ (s.record r).stage ≠ .queued := by
  have zero : (s.record r).holders = 0 := (h.holders r).trans unlisted
  exact ⟨zero, fun queued => by have := (h.queued r).1 queued; omega⟩

theorem Frames.unlisted {s : State} (h : Frames s) {r : RecordIx} (stage : (s.record r).stage ≠ .queued) :
    listings s r = 0 ∧ (s.record r).dest = none := by
  refine ⟨?_, ?_⟩
  · rw [← h.listed.holders r]
    exact Nat.eq_zero_of_not_pos fun pos => stage ((h.listed.queued r).2 pos)
  · by_contra named
    exact stage (h.held.2.2 r named).1

theorem FramesAgree.releaseRecord {s : State} (h : FramesAgree s) {r : RecordIx} (loose : Loose r s) :
    FramesAgree (releaseRecord r s) := by
  obtain ⟨frames, sending⟩ := framesAgree_iff.1 h
  obtain ⟨zero, unqueued⟩ := frames.listed.stage_of_unlisted loose.unlisted
  have other : ∀ {r'}, r' ≠ r → (Machine.releaseRecord r s).record r' = s.record r' := fun differs => by
    rw [record_releaseRecord, if_neg (Ne.symm differs)]
  have self : (Machine.releaseRecord r s).record r = FrameRecord.fresh := by rw [record_releaseRecord, if_pos rfl]
  have each : ∀ {P : RecordIx → Prop}, P r → (∀ r', r' ≠ r → P r') → ∀ r', P r' := fun at_r off r' => by
    by_cases same : r' = r
    · rw [same]; exact at_r
    · exact off r' same
  refine framesAgree_iff.2 ⟨⟨?_, frames.chains.release r, ?_, ?_, ?_, ?_⟩, sending.congr (fun _ => rfl) fun _ _ _ n h => ⟨n, h⟩⟩
  · rw [FreeCountAgrees]
    show s.mem.freeCount + _ = (s.mem.free ++ _).length
    rw [List.length_append, frames.count]
  · exact each (by rw [self]; exact ⟨Nat.zero_le _, fun _ => rfl, fun _ => rfl⟩) fun r' differs => by
      rw [other differs]; exact frames.counted r'
  · refine frames.places.congr (fun _ => .refl _) (fun p r' n storing old => ?_) fun p r' waiting old => ?_
    · rw [other fun same => loose.rx p n (by rw [← same]; exact storing)]; exact old
    · rw [other fun same => loose.intake p (by rw [← same]; exact waiting)]; exact old
  · refine frames.listed.congr (fun _ => ⟨rfl, rfl⟩) (fun r' pos => ?_) ?_ ?_
    · rw [other fun same => by rw [same, loose.unlisted] at pos; omega]
    · exact each (by rw [self, zero]; rfl) fun r' differs => by rw [other differs]
    · exact each (by rw [self]; exact ⟨nofun, fun queued => absurd queued unqueued⟩) fun r' differs => by rw [other differs]
  · refine frames.held.congr (fun _ => rfl) (fun _ => .inl) ?_ (fun r' queued => ?_) ?_
    · exact each (by rw [self, loose.dest]; rfl) fun r' differs => by rw [other differs]
    · rw [other fun same => by rw [same] at queued; exact unqueued queued]; exact queued
    · exact each (by rw [self, zero]; rfl) fun r' differs => by rw [other differs]

/-- A record in the decision engine's hand: DECIDING, in no intake place (01 R9). -/
structure InHand (r : RecordIx) (s : State) : Prop where
  stage : (s.record r).stage = .deciding
  intake : ∀ p, r ∉ (s.port p).intake

theorem InHand.loose {r : RecordIx} {s : State} (hand : InHand r s) (h : FramesAgree s) : Loose r s := by
  obtain ⟨unlisted, dest⟩ := h.frames.unlisted (r := r) (by rw [hand.stage]; nofun)
  refine ⟨fun p n storing => ?_, hand.intake, unlisted, dest⟩
  have receiving := h.frames.places.1 p r n storing
  rw [hand.stage] at receiving
  cases receiving

/-- A record just received: RECEIVING, in no port unit's hand (01 R4). -/
structure Received (r : RecordIx) (s : State) : Prop where
  stage : (s.record r).stage = .receiving
  rx : ∀ p n, (s.port p).rx ≠ .storing r n

theorem Received.loose {r : RecordIx} {s : State} (received : Received r s) (h : FramesAgree s) : Loose r s := by
  obtain ⟨unlisted, dest⟩ := h.frames.unlisted (r := r) (by rw [received.stage]; nofun)
  refine ⟨received.rx, fun p waiting => ?_, unlisted, dest⟩
  have deciding := h.frames.places.2.2.1 p r waiting
  rw [received.stage] at deciding
  cases deciding

/-! ## Reception -/

theorem portLess_rx {u : PortUnit} {x : RxState} (h : ∀ r n, x ≠ .storing r n) : PortLess u { u with rx := x } :=
  ⟨fun {r n} storing => absurd storing (h r n), .refl _, fun h => ⟨_, h⟩⟩

theorem FramesAgree.setRx {s : State} (h : FramesAgree s) (p : Port) {x : RxState} (calm : ∀ r n, x ≠ .storing r n) :
    FramesAgree (setRx p x s) := (framesLike_modPort (portLess_rx calm)).keeps h

theorem FramesAgree.received {s : State} (h : FramesAgree s) {p : Port} {r : RecordIx} {n : Nat} (storing : (s.port p).rx = .storing r n)
    {x : RxState} (calm : ∀ r n, x ≠ .storing r n) : Received r (Machine.setRx p x s) := by
  obtain ⟨receiving, one, -⟩ := h.frames.places
  refine ⟨receiving p r n storing, fun q m storing' => ?_⟩
  rw [Machine.setRx, port_modPort] at storing'
  split at storing'
  · exact calm r m storing'
  · next differs => exact differs (one p q r n m storing storing')

theorem FramesAgree.abandon {s : State} (h : FramesAgree s) (p : Port) {x : RxState} (calm : ∀ r n, x ≠ .storing r n) :
    FramesAgree (abandon p x s) := by
  unfold Machine.abandon
  split
  · next r n storing =>
    have idle := h.setRx p calm
    exact idle.releaseRecord ((h.received storing calm).loose idle)
  · exact h

theorem FramesAgree.abandonReception {s : State} (h : FramesAgree s) (p : Port) : FramesAgree (abandonReception p s) :=
  (h.abandon p (x := .idle) fun _ _ => nofun).setRx p fun _ _ => nofun

theorem giveCell_same_of_ne {r r' : RecordIx} (differs : r' ≠ r) (s : State) : (giveCell r s).record r' = s.record r' := by
  cases free : s.mem.free with
  | nil => rw [giveCell_nil free]
  | cons c rest => rw [giveCell_record free, if_neg (Ne.symm differs)]

/-- What giving a cell keeps of its record. -/
theorem giveCell_record_keeps (r r' : RecordIx) (s : State) : ((giveCell r s).record r').stage = (s.record r').stage ∧
    ((giveCell r s).record r').dest = (s.record r').dest ∧ ((giveCell r s).record r').holders = (s.record r').holders := by
  cases free : s.mem.free with
  | nil => rw [giveCell_nil free]; exact ⟨rfl, rfl, rfl⟩
  | cons c rest =>
    rw [giveCell_record free]
    split
    · next same => subst same; exact ⟨rfl, rfl, rfl⟩
    · exact ⟨rfl, rfl, rfl⟩

/-- A cell is given to a record of no queue, which then counts as it should. -/
theorem FramesAgree.giveCell {s : State} (h : FramesAgree s) {r : RecordIx} (receiving : (s.record r).stage = .receiving)
    (few : (s.record r).cellCount < 12) : FramesAgree (giveCell r s) := by
  obtain ⟨frames, sending⟩ := framesAgree_iff.1 h
  obtain ⟨unlisted, -⟩ := frames.unlisted (r := r) (by rw [receiving]; nofun)
  have stage := fun r' => (giveCell_record_keeps r r' s).1
  have dest := fun r' => (giveCell_record_keeps r r' s).2.1
  have holders := fun r' => (giveCell_record_keeps r r' s).2.2
  refine framesAgree_iff.2 ⟨⟨giveCell_freeCount frames.count, frames.chains.giveCell r, fun r' => ?_, ?_, ?_, ?_⟩, ?_⟩
  · by_cases same : r' = r
    · subst same
      cases free : s.mem.free with
      | nil => rw [giveCell_nil free]; exact frames.counted r'
      | cons c rest =>
        rw [giveCell_record free, if_pos rfl]
        refine ⟨few, fun h => ?_, fun none => absurd none (Nat.succ_ne_zero _)⟩
        rw [show (s.record r').stage = .free from h] at receiving
        cases receiving
    · rw [giveCell_same_of_ne same]; exact frames.counted r'
  · exact frames.places.congr (fun p => by rw [giveCell_port]; exact .refl _) (fun _ r' _ _ => (stage r').trans)
      fun _ r' _ => (stage r').trans
  · refine frames.listed.congr (fun k => by simp) (fun r' pos => ?_) holders fun r' => by rw [stage]
    rw [giveCell_same_of_ne fun same => by rw [same, unlisted] at pos; omega]
  · exact frames.held.congr (fun _ => by simp) (fun i => by rw [giveCell_entry]; exact .inl) dest (fun r' => (stage r').trans) holders
  · exact sending.congr (fun _ => by simp) fun p r' q n => by rw [giveCell_port]; exact fun h => ⟨n, h⟩

theorem FramesAgree.requestCell {s : State} (h : FramesAgree s) {p : Port} {r : RecordIx} {n : Nat}
    (storing : (s.port p).rx = .storing r n) (few : (s.record r).cellCount < 12) (k : Nat) : FramesAgree (requestCell p r k s) := by
  unfold Machine.requestCell
  split
  · refine (framesLike_modPort ?_).keeps (h.giveCell (h.frames.places.1 p r n storing) few)
    rw [giveCell_port]
    refine ⟨fun {r' m} same => ?_, .refl _, fun h => ⟨_, h⟩⟩
    cases same
    exact ⟨n, storing⟩
  · exact h.abandon p fun _ _ => nofun

theorem FramesAgree.outgrow {s : State} (h : FramesAgree s) (p : Port) : FramesAgree (outgrow p s) := by
  unfold Machine.outgrow
  split
  · next r n storing =>
    split
    · next few => exact h.requestCell storing few _
    · exact h
  · exact h

theorem FramesAgree.growTo (p : Port) (n k : Nat) {s : State} (h : FramesAgree s) : FramesAgree (growTo p n k s) := by
  induction k generalizing s with
  | zero => exact h
  | succ k ih =>
    unfold Machine.growTo
    split
    · split
      · exact ih (h.outgrow p)
      · exact h
    · exact h

theorem FramesAgree.arriveTo {s : State} (h : FramesAgree s) (p : Port) (n : Nat) : FramesAgree (arriveTo p n s) := by
  unfold Machine.arriveTo
  simp only
  split
  · exact (h.growTo p n _).abandon p fun _ _ => nofun
  · exact h.growTo p n _

end Sys2Proof.Machine

/-! # Frame memory and its holders: intakes, queues and transmissions -/

namespace Sys2Proof.Machine

open Sys2Proof Relation

/-! ## A frame begins, ends and is taken -/

theorem FramesAgree.storing {s : State} (h : FramesAgree s) {r : RecordIx} (received : Received r s) (p : Port) (n : Nat) :
    FramesAgree (Machine.setRx p (.storing r n) s) := by
  obtain ⟨⟨count, chains, counted, ⟨receiving, one, waiting, nodup, apart⟩, listed, held⟩, sending⟩ := framesAgree_iff.1 h
  have rx : ∀ q r' m, ((Machine.setRx p (.storing r n) s).port q).rx = .storing r' m →
      r' = r ∧ q = p ∨ r' ≠ r ∧ (s.port q).rx = .storing r' m := fun q r' m storing => by
    rw [Machine.setRx, port_modPort] at storing
    split at storing
    · next same => cases storing; exact .inl ⟨rfl, same.symm⟩
    · exact .inr ⟨fun same => received.rx q m (by rw [← same]; exact storing), storing⟩
  have intake : ∀ q, ((Machine.setRx p (.storing r n) s).port q).intake = (s.port q).intake := fun q => by
    rw [Machine.setRx, port_modPort]
    split
    · next same => rw [← same]
    · rfl
  refine framesAgree_iff.2 ⟨⟨count, chains.congr rfl (fun _ => rfl) fun _ => rfl, counted, ⟨fun q r' m storing => ?_, fun q q' r' m m' storing storing' => ?_, ?_, ?_, ?_⟩,
    listed.congr (fun _ => ⟨rfl, rfl⟩) (fun _ _ => rfl) (fun _ => rfl) fun _ => .rfl, held⟩, sending.congr (fun _ => rfl) fun q r' x m => ?_⟩
  · rcases rx q r' m storing with ⟨rfl, -⟩ | ⟨-, old⟩
    · exact received.stage
    · exact receiving q r' m old
  · rcases rx q r' m storing with ⟨same, at_p⟩ | ⟨differs, old⟩ <;> rcases rx q' r' m' storing' with ⟨same', at_p'⟩ | ⟨differs', old'⟩
    · exact at_p.trans at_p'.symm
    · exact absurd same differs'
    · exact absurd same' differs
    · exact one q q' r' m m' old old'
  · simp only [intake]; exact waiting
  · simp only [intake]; exact nodup
  · simp only [intake]; exact apart
  · rw [Machine.setRx, port_modPort]
    split
    · next same => subst same; exact fun h => ⟨m, h⟩
    · exact fun h => ⟨m, h⟩

/-- The record that a frame's reception starts with (06 R102). -/
def recordBegun : FrameRecord := { FrameRecord.fresh with stage := .receiving }

/-- A record is taken for a frame in reception, with its first cell. -/
def firstCellGiven (r : RecordIx) (s : State) : State := giveCell r (s.modRecord r (fun _ => recordBegun))

/-- A FREE record taken for a frame in reception, with its first cell. -/
theorem FramesAgree.begun {s : State} (h : FramesAgree s) {r : RecordIx} (unused : (s.record r).stage = .free) (some : s.mem.free ≠ []) :
    FramesAgree (firstCellGiven r s) ∧
    Received r (firstCellGiven r s) := by
  obtain ⟨frames, sending⟩ := framesAgree_iff.1 h
  obtain ⟨unlisted, dest⟩ := frames.unlisted (r := r) (by rw [unused]; nofun)
  obtain ⟨holders, unqueued⟩ := frames.listed.stage_of_unlisted unlisted
  have empty : cellsOf s.mem r = [] := List.eq_nil_of_length_eq_zero ((frames.chains.length r).trans ((frames.counted r).2.1 unused))
  have begun : Chains (s.modRecord r (fun _ => recordBegun)) := by
    have off : ∀ r', r' ≠ r → (s.modRecord r (fun _ => recordBegun)).record r' = s.record r' := fun r' differs =>
      record_modRecord_ne _ _ (Ne.symm differs)
    refine frames.chains.congr rfl (fun r' => ?_) fun r' => ?_
    · by_cases same : r' = r
      · subst same
        rw [empty, cellsOf]
        show chainFrom s.mem.next ((s.modRecord r' _).record r').cellCount _ = []
        rw [record_modRecord_self]
        rfl
      · exact cellsOf_congr (s := s) (t := s.modRecord r (fun _ => recordBegun)) rfl (by rw [off r' same]; exact ⟨rfl, rfl⟩)
    · by_cases same : r' = r
      · subst same; rw [record_modRecord_self]; exact ((frames.counted r').2.1 unused).symm
      · rw [off r' same]
  have free : (s.modRecord r (fun _ => recordBegun)).mem.free = s.mem.free := rfl
  obtain ⟨c, rest, cons⟩ := List.exists_cons_of_ne_nil (free.symm ▸ some)
  have self : ((firstCellGiven r s).record r).stage = .receiving ∧
      ((firstCellGiven r s).record r).cellCount = 1 ∧
      ((firstCellGiven r s).record r).holders = 0 ∧
      ((firstCellGiven r s).record r).dest = none := by
    rw [firstCellGiven, giveCell_record cons, if_pos rfl, record_modRecord_self]
    exact ⟨rfl, rfl, rfl, rfl⟩
  have other : ∀ r', r' ≠ r → (firstCellGiven r s).record r' = s.record r' := fun r' differs => by
    rw [firstCellGiven, giveCell_same_of_ne differs, record_modRecord_ne _ _ (Ne.symm differs)]
  have count : FreeCountAgrees (firstCellGiven r s) := giveCell_freeCount frames.count
  have chains : Chains (firstCellGiven r s) := begun.giveCell r
  have ports : ∀ p, (firstCellGiven r s).port p = s.port p := fun p => by simp [firstCellGiven]
  have queues : (firstCellGiven r s).queues = s.queues := by simp [firstCellGiven]
  have entry : ∀ i, (firstCellGiven r s).entry i = s.entry i := fun i => by simp [firstCellGiven]
  generalize firstCellGiven r s = t at self other count chains ports queues entry
  obtain ⟨stage, cells, held, named⟩ := self
  have each : ∀ {P : RecordIx → Prop}, P r → (∀ r', r' ≠ r → P r') → ∀ r', P r' := fun at_r off r' => by
    by_cases same : r' = r
    · rw [same]; exact at_r
    · exact off r' same
  refine ⟨framesAgree_iff.2 ⟨⟨count, chains, ?_, ?_, ?_, ?_⟩, ?_⟩, stage, fun p n storing => ?_⟩
  · refine each ⟨by rw [cells]; omega, by rw [stage, cells]; exact ⟨nofun, nofun⟩⟩ fun r' differs => by
      rw [other r' differs]; exact frames.counted r'
  · refine frames.places.congr (fun p => by rw [ports]; exact .refl _) (fun p r' n _ old => ?_) fun p r' _ old => ?_
    · rw [other r' fun same => by rw [same, unused] at old; cases old]; exact old
    · rw [other r' fun same => by rw [same, unused] at old; cases old]; exact old
  · refine frames.listed.congr (fun k => by rw [queues]; exact ⟨rfl, rfl⟩) (fun r' pos => ?_) ?_ ?_
    · rw [other r' fun same => by rw [same, unlisted] at pos; omega]
    · exact each (held.trans holders.symm) fun r' differs => by rw [other r' differs]
    · exact each (by rw [stage]; exact ⟨nofun, fun queued => absurd queued unqueued⟩) fun r' differs => by rw [other r' differs]
  · refine frames.held.congr (fun i => by rw [entry]) (fun i => by rw [entry]; exact .inl) ?_ (fun r' queued => ?_) ?_
    · exact each (named.trans dest.symm) fun r' differs => by rw [other r' differs]
    · rw [other r' fun same => by rw [same] at queued; exact unqueued queued]; exact queued
    · exact each (held.trans holders.symm) fun r' differs => by rw [other r' differs]
  · exact sending.congr (fun q => by rw [State.queue, queues]; rfl) fun p r' q n => by rw [ports]; exact fun h => ⟨n, h⟩
  · rw [ports] at storing
    have receiving := frames.places.1 p r n storing
    rw [unused] at receiving
    cases receiving

theorem free_of_cellAllowed {p : Port} {s : State} (count : FreeCountAgrees s) (allowed : cellAllowed p s.mem = true) :
    s.mem.free ≠ [] := by
  intro none
  rw [FreeCountAgrees, none] at count
  unfold cellAllowed at allowed
  split at allowed <;> simp only [decide_eq_true_eq, count, List.length_nil] at allowed <;> omega

theorem FramesAgree.beginReception {s : State} (h : FramesAgree s) (p : Port) : FramesAgree (beginReception p s) := by
  unfold Machine.beginReception
  split
  · exact h.setRx p fun _ _ => nofun
  · split
    · exact h.setRx p fun _ _ => nofun
    · next r found =>
      split
      · next allowed =>
        obtain ⟨begun, received⟩ := h.begun (freeRecord_some found).1 (free_of_cellAllowed h.1 allowed)
        exact begun.storing received p 1
      · exact h.setRx p fun _ _ => nofun

/-- A received record becomes DECIDING (01 R6). -/
theorem FramesAgree.decided {s : State} (h : FramesAgree s) {r : RecordIx} (received : Received r s) {f : FrameRecord → FrameRecord}
    (stage : (f (s.record r)).stage = .deciding) (cells : (s.record r).sameCells (f (s.record r)))
    (dest : (f (s.record r)).dest = (s.record r).dest) (holders : (f (s.record r)).holders = (s.record r).holders) :
    FramesAgree (s.modRecord r f) ∧ InHand r (s.modRecord r f) := by
  have loose := received.loose h
  obtain ⟨frames, sending⟩ := framesAgree_iff.1 h
  obtain ⟨-, unqueued⟩ := frames.listed.stage_of_unlisted loose.unlisted
  have each : ∀ {P : RecordIx → FrameRecord → Prop}, P r (f (s.record r)) → (∀ r', r' ≠ r → P r' (s.record r')) →
      ∀ r', P r' ((s.modRecord r f).record r') := fun at_r off r' => by
    rw [record_modRecord]
    split
    · next same => subst same; exact at_r
    · next differs => exact off r' (Ne.symm differs)
  refine ⟨framesAgree_iff.2 ⟨⟨frames.count, ?_, ?_, ?_, ?_, ?_⟩, sending.congr (fun _ => rfl) fun _ _ _ n h => ⟨n, h⟩⟩,
    by rw [record_modRecord_self]; exact stage, loose.intake⟩
  · refine frames.chains.congr rfl (fun r' => ?_) (each (P := fun r' x => x.cellCount = (s.record r').cellCount) cells.2 fun _ _ => rfl)
    exact cellsOf_congr (s := s) (t := s.modRecord r f) rfl (each (P := fun r' x => (s.record r').sameCells x) cells (fun _ _ => ⟨rfl, rfl⟩) r')
  · refine each (P := fun _ x => x.counted) ?_ fun r' _ => frames.counted r'
    have counted := frames.counted r
    rw [FrameRecord.counted, received.stage] at counted
    rw [FrameRecord.counted, cells.2, stage]
    exact ⟨counted.1, nofun, fun none => by cases counted.2.2 none⟩
  · refine frames.places.congr (fun _ => .refl _) (fun p r' n storing old => ?_) fun p r' waiting old => ?_
    · rw [record_modRecord_ne _ _ fun same => loose.rx p n (by rw [same]; exact storing)]; exact old
    · rw [record_modRecord_ne _ _ fun same => loose.intake p (by rw [same]; exact waiting)]; exact old
  · refine frames.listed.congr (fun _ => ⟨rfl, rfl⟩) (fun r' _ => ?_) ?_ ?_
    · exact each (P := fun r' x => x.cellCount = (s.record r').cellCount) cells.2 (fun _ _ => rfl) r'
    · exact each (P := fun r' x => x.holders = (s.record r').holders) holders fun _ _ => rfl
    · exact each (P := fun r' x => x.stage = .queued ↔ (s.record r').stage = .queued)
        (by rw [stage]; exact ⟨nofun, fun queued => absurd queued unqueued⟩) fun _ _ => .rfl
  · refine frames.held.congr (fun _ => rfl) (fun _ => .inl) ?_ (fun r' queued => ?_) ?_
    · exact each (P := fun r' x => x.dest = (s.record r').dest) dest fun _ _ => rfl
    · rw [record_modRecord_ne _ _ fun same => unqueued (by rw [same]; exact queued)]; exact queued
    · exact each (P := fun r' x => x.holders = (s.record r').holders) holders fun _ _ => rfl

/-- A record in hand joins the waiting frames of a port (01 R6). -/
theorem FramesAgree.joined {s : State} (h : FramesAgree s) {r : RecordIx} (hand : InHand r s) (p : Port) :
    FramesAgree (s.modPort p (fun u => { u with intake := u.intake ++ [r] })) := by
  obtain ⟨⟨count, chains, counted, ⟨receiving, one, waiting, nodup, apart⟩, listed, held⟩, sending⟩ := framesAgree_iff.1 h
  have rx : ∀ q, ((s.modPort p (fun u => { u with intake := u.intake ++ [r] })).port q).rx = (s.port q).rx := fun q => by
    rw [port_modPort]
    split
    · next same => rw [← same]
    · rfl
  have intake : ∀ q, ((s.modPort p (fun u => { u with intake := u.intake ++ [r] })).port q).intake =
      if p = q then (s.port q).intake ++ [r] else (s.port q).intake := fun q => by
    rw [port_modPort]
    split
    · next same => rw [same]
    · rfl
  have mem : ∀ q r', r' ∈ ((s.modPort p (fun u => { u with intake := u.intake ++ [r] })).port q).intake →
      r' ∈ (s.port q).intake ∨ r' = r ∧ q = p := fun q r' h => by
    rw [intake] at h
    split at h
    · next same =>
      rcases List.mem_append.1 h with old | new
      · exact .inl old
      · exact .inr ⟨List.mem_singleton.1 new, same.symm⟩
    · exact .inl h
  refine framesAgree_iff.2 ⟨⟨count, chains.congr rfl (fun _ => rfl) fun _ => rfl, counted, ⟨?_, ?_, fun q r' h => ?_, fun q => ?_,
    fun q q' r' h h' => ?_⟩, listed.congr (fun _ => ⟨rfl, rfl⟩) (fun _ _ => rfl) (fun _ => rfl) fun _ => .rfl, held⟩,
    sending.congr (fun _ => rfl) fun q r' x m => ?_⟩
  · simp only [rx]; exact receiving
  · simp only [rx]; exact one
  · rcases mem q r' h with old | ⟨same, -⟩
    · exact waiting q r' old
    · rw [same]; exact hand.stage
  · rw [intake]
    split
    · exact List.nodup_append.2 ⟨nodup q, List.nodup_singleton r, fun a ha b hb same => hand.intake q (by
        rw [List.mem_singleton.1 hb] at same; rw [← same]; exact ha)⟩
    · exact nodup q
  · rcases mem q r' h with old | ⟨same, at_p⟩ <;> rcases mem q' r' h' with old' | ⟨same', at_p'⟩
    · exact apart q q' r' old old'
    · exact absurd (same' ▸ old) (hand.intake q)
    · exact absurd (same ▸ old') (hand.intake q')
    · exact at_p.trans at_p'.symm
  · rw [port_modPort]
    split
    · next same => subst same; exact fun h => ⟨m, h⟩
    · exact fun h => ⟨m, h⟩

theorem FramesAgree.countPort {s : State} (h : FramesAgree s) (p : Port) (c : PortCounter) : FramesAgree (countPort p c s) :=
  frames_stills (stills_countPort s p c) h

theorem FramesAgree.joinIntake {s : State} (h : FramesAgree s) {r : RecordIx} (received : Received r s) (p : Port) (bytes : List Byte) :
    FramesAgree (joinIntake p r bytes s) := by
  have written : FramesAgree (writeFrame r bytes s) :=
    FramesLike.keeps ⟨⟨rfl, rfl, rfl⟩, fun _ => .refl _, fun _ => ⟨rfl, rfl⟩, fun _ => .refl _, fun _ => rfl, fun _ => .inl⟩ h
  have still : Received r (writeFrame r bytes s) := ⟨received.stage, received.rx⟩
  obtain ⟨decided, hand⟩ := written.decided still (f := fun x =>
    { x with stage := .deciding, length := bytes.length, ingress := p, arrival := s.time.ms, rehomed := false }) rfl ⟨rfl, rfl⟩ rfl rfl
  exact (decided.joined hand p).countPort p _

theorem FramesAgree.settleFrame {s : State} (h : FramesAgree s) (p : Port) (bytes : List Byte) (good : Bool) :
    FramesAgree (settleFrame p bytes good s) := by
  unfold Machine.settleFrame
  split
  · exact h
  · exact (h.countPort p _).setRx p fun _ _ => nofun
  · next r n storing =>
    have idle := h.setRx p (x := .idle) fun _ _ => nofun
    have received := h.received storing (x := .idle) fun _ _ => nofun
    have dropped : ∀ c, FramesAgree (Machine.countPort p c (Machine.releaseRecord r (Machine.setRx p .idle s))) := fun c =>
      (idle.releaseRecord (received.loose idle)).countPort p c
    simp only
    split
    · exact dropped _
    · split
      · exact dropped _
      · split
        · exact dropped _
        · split
          · exact idle.joinIntake received p bytes
          · exact dropped _

/-! ## Intake places emptied -/

theorem InHand.releaseRecord {r r' : RecordIx} {s : State} (hand : InHand r s) (differs : r ≠ r') : InHand r (releaseRecord r' s) :=
  ⟨by rw [record_releaseRecord, if_neg (Ne.symm differs)]; exact hand.stage, hand.intake⟩

theorem FramesAgree.releaseAll {l : List RecordIx} {s : State} (h : FramesAgree s) (nodup : l.Nodup) (hands : ∀ r ∈ l, InHand r s) :
    FramesAgree (l.foldl (fun t r => Machine.releaseRecord r t) s) := by
  induction l generalizing s with
  | nil => exact h
  | cons r l ih =>
    obtain ⟨other, nodup⟩ := List.nodup_cons.1 nodup
    exact ih (h.releaseRecord ((hands r List.mem_cons_self).loose h)) nodup fun r' mem =>
      (hands r' (List.mem_cons_of_mem r mem)).releaseRecord fun same => other (by rw [← same]; exact mem)

theorem foldl_releaseRecord_modPort (l : List RecordIx) (p : Port) (f : PortUnit → PortUnit) (s : State) :
    (l.foldl (fun t r => releaseRecord r t) s).modPort p f = l.foldl (fun t r => releaseRecord r t) (s.modPort p f) := by
  induction l generalizing s with
  | nil => rfl
  | cons r l ih => exact ih (releaseRecord r s)

/-- A waiting frame taken from its place is in hand. -/
theorem FramesAgree.inHand_of_taken {s : State} (h : FramesAgree s) {p : Port} {r : RecordIx} {rest : List RecordIx}
    (mem : r ∈ (s.port p).intake) (taken : r ∉ rest) : InHand r (s.modPort p (fun u => { u with intake := rest })) := by
  obtain ⟨-, -, waiting, -, apart⟩ := h.frames.places
  refine ⟨waiting p r mem, fun q => ?_⟩
  rw [port_modPort]
  split
  · exact taken
  · next differs => exact fun mem' => differs (apart p q r mem mem')

theorem FramesAgree.intakeLess {s : State} (h : FramesAgree s) {p : Port} {rest : List RecordIx} (sub : rest.Sublist (s.port p).intake) :
    FramesAgree (s.modPort p (fun u => { u with intake := rest })) :=
  (framesLike_modPort ⟨fun h => ⟨_, h⟩, sub, fun h => ⟨_, h⟩⟩).keeps h

theorem FramesAgree.flushIntake {s : State} (h : FramesAgree s) (p : Port) : FramesAgree (flushIntake p s) := by
  unfold Machine.flushIntake
  rw [foldl_releaseRecord_modPort]
  exact (h.intakeLess (List.nil_sublist _)).releaseAll (h.frames.places.2.2.2.1 p) fun r mem => h.inHand_of_taken mem List.not_mem_nil

theorem FramesAgree.flushLateIntake {s : State} (h : FramesAgree s) (p : Port) : FramesAgree (flushLateIntake p s) := by
  unfold Machine.flushLateIntake
  split
  · exact h.flushIntake p
  · exact h

end Sys2Proof.Machine

/-! # Frame memory and its holders: queues -/

namespace Sys2Proof.Machine

open Sys2Proof Relation

/-! ## The lists of queues -/

theorem queues_unlist (q : QueueId) (r : RecordIx) (s : State) : (unlist q r s).queues = s.queues.modify (queueIx q) (fun x =>
    { x with records := x.records.erase r, tally := x.tally - (s.record r).cellCount }) := by
  unfold unlist
  simp only
  split
  · rw [(queueEmptied_frame q _).2.2.2.2.2.2.2.2.1]
    rfl
  · rfl

theorem queues_leaveQueue (q : QueueId) (r : RecordIx) (s : State) : (leaveQueue q r s).queues = (unlist q r s).queues := by
  obtain ⟨m, h⟩ := leaveQueue_departStation q r s
  rw [h]
  simp [offQueue]

/-- The listings of a record where one queue's list changes. -/
theorem listings_modify {s t : State} {q : QueueId} {f : Queue → Queue} (queues : t.queues = s.queues.modify (queueIx q) f)
    (r : RecordIx) : listings t r + (decide (r ∈ (s.queue q).records)).toNat =
      listings s r + (decide (r ∈ (f (s.queue q)).records)).toNat := by
  have moved := countP_finRange_of_eq_off (P := fun k => decide (r ∈ (s.queues.get k).records))
    (Q := fun k => decide (r ∈ (t.queues.get k).records)) (queueIx q) fun k differs => by
      rw [queues, Tab.get_modify_ne _ _ (Ne.symm differs)]
  rw [queues, Tab.get_modify_self] at moved
  rw [← queues] at moved
  exact moved

theorem listings_modify_of_iff {s t : State} {q : QueueId} {f : Queue → Queue} (queues : t.queues = s.queues.modify (queueIx q) f)
    {r : RecordIx} (same : r ∈ (f (s.queue q)).records ↔ r ∈ (s.queue q).records) : listings t r = listings s r := by
  have moved := listings_modify queues r
  rw [decide_eq_decide.2 same] at moved
  omega

theorem queue_of_queues {s t : State} {q : QueueId} {f : Queue → Queue} (queues : t.queues = s.queues.modify (queueIx q) f)
    (q' : QueueId) : t.queue q' = if q = q' then f (s.queue q) else s.queue q' := by
  have := queue_modQueue s q q' f
  rw [State.modQueue, State.queue] at this
  rw [State.queue, queues]
  exact this

/-- Lists and tallies after one queue's change, when the changed queue is well and no listed record's cells change. -/
theorem lists_modify {s t : State} (h : ∀ q', (s.queue q').records.Nodup ∧
      (s.queue q').tally = ((s.queue q').records.map (fun r => (s.record r).cellCount)).sum)
    {q : QueueId} {f : Queue → Queue} (queues : t.queues = s.queues.modify (queueIx q) f)
    (cells : ∀ r, 0 < listings t r → (t.record r).cellCount = (s.record r).cellCount)
    (nodup : (f (s.queue q)).records.Nodup)
    (tally : (f (s.queue q)).tally = ((f (s.queue q)).records.map (fun r => (s.record r).cellCount)).sum) (q' : QueueId) :
    (t.queue q').records.Nodup ∧ (t.queue q').tally = ((t.queue q').records.map (fun r => (t.record r).cellCount)).sum := by
  have at_s : (t.queue q').records.Nodup ∧ (t.queue q').tally = ((t.queue q').records.map (fun r => (s.record r).cellCount)).sum := by
    rw [queue_of_queues queues]
    split
    · exact ⟨nodup, tally⟩
    · exact h q'
  refine ⟨at_s.1, at_s.2.trans (congrArg List.sum (List.map_congr_left fun r mem => (cells r (listings_pos mem)).symm))⟩

theorem Listed.lists {s : State} (h : Listed s) (q : QueueId) : (s.queue q).records.Nodup ∧
    (s.queue q).tally = ((s.queue q).records.map (fun r => (s.record r).cellCount)).sum := ⟨h.nodup q, h.tally q⟩

theorem sum_map_erase_cells {s : State} {l : List RecordIx} {r : RecordIx} (mem : r ∈ l) :
    (l.map (fun r => (s.record r).cellCount)).sum - (s.record r).cellCount = ((l.erase r).map (fun r => (s.record r).cellCount)).sum := by
  rw [← List.sum_map_erase (fun r => (s.record r).cellCount) mem]
  omega

/-! ## A record joins a queue -/

/-- A record that may join a queue: decided or queued already, in no intake place, for no station yet (06 R105, R107). -/
structure Offered (r : RecordIx) (s : State) : Prop where
  stage : (s.record r).stage = .deciding ∨ (s.record r).stage = .queued
  intake : ∀ p, r ∉ (s.port p).intake
  dest : (s.record r).dest = none

theorem InHand.offered {r : RecordIx} {s : State} (hand : InHand r s) (h : FramesAgree s) : Offered r s :=
  ⟨.inl hand.stage, hand.intake, (hand.loose h).dest⟩

theorem enqueue_record (q : QueueId) (r r' : RecordIx) (s : State) : (enqueue q r s).record r' =
    if r = r' then { s.record r with stage := .queued, holders := (s.record r).holders + 1 } else s.record r' :=
  record_modRecord _ r r' _

theorem queues_enqueue (q : QueueId) (r : RecordIx) (s : State) : (enqueue q r s).queues = s.queues.modify (queueIx q) (fun x =>
    { x with records := x.records ++ [r], tally := x.tally + (s.record r).cellCount }) := rfl

theorem FramesAgree.enqueue {s : State} (h : FramesAgree s) {q : QueueId} {r : RecordIx} (offered : Offered r s)
    (absent : r ∉ (s.queue q).records) : FramesAgree (enqueue q r s) ∧ Offered r (enqueue q r s) := by
  obtain ⟨frames, sending⟩ := framesAgree_iff.1 h
  have self : (Machine.enqueue q r s).record r = { s.record r with stage := .queued, holders := (s.record r).holders + 1 } := by
    rw [enqueue_record, if_pos rfl]
  have other : ∀ {r'}, r' ≠ r → (Machine.enqueue q r s).record r' = s.record r' := fun differs => by
    rw [enqueue_record, if_neg (Ne.symm differs)]
  have cells : ∀ r', (s.record r').sameCells ((Machine.enqueue q r s).record r') ∧
      ((Machine.enqueue q r s).record r').dest = (s.record r').dest := fun r' => by
    rw [enqueue_record]
    split
    · next same => rw [← same]; exact ⟨⟨rfl, rfl⟩, rfl⟩
    · exact ⟨⟨rfl, rfl⟩, rfl⟩
  have used : (s.record r).stage ≠ .free ∧ (s.record r).stage ≠ .receiving := by
    rcases offered.stage with stage | stage <;> rw [stage] <;> exact ⟨nofun, nofun⟩
  have queues := queues_enqueue q r s
  refine ⟨framesAgree_iff.2 ⟨⟨frames.count, ?_, fun r' => ?_, ?_, ⟨fun q' => ?_, fun q' => ?_, fun r' => ?_, fun r' => ?_⟩,
    ?_, fun i => frames.held.2.1 i, fun r' named => ?_⟩, fun p r' q' n tx => ?_⟩, by rw [self]; exact .inr rfl, offered.intake,
    by rw [self]; exact offered.dest⟩
  · exact frames.chains.congr rfl (fun r' => cellsOf_congr (s := s) (t := Machine.enqueue q r s) rfl (cells r').1) fun r' => (cells r').1.2
  · by_cases same : r' = r
    · subst same
      have counted := frames.counted r'
      rw [self]
      exact ⟨counted.1, nofun, fun none => absurd (counted.2.2 none) used.1⟩
    · rw [other same]; exact frames.counted r'
  · refine frames.places.congr (fun _ => .refl _) (fun p r' n _ old => ?_) fun p r' waiting old => ?_
    · rw [other fun same => used.2 (by rw [← same]; exact old)]; exact old
    · rw [other fun same => offered.intake p (by rw [← same]; exact waiting)]; exact old
  · refine (lists_modify frames.listed.lists queues (fun r' _ => (cells r').1.2) ?_ ?_ q').1
    · exact List.nodup_append.2 ⟨frames.listed.nodup q, List.nodup_singleton r, fun a ha b hb same => absent (by
        rw [List.mem_singleton.1 hb] at same; rw [← same]; exact ha)⟩
    · simp [frames.listed.tally q]
  · refine (lists_modify frames.listed.lists queues (fun r' _ => (cells r').1.2) ?_ ?_ q').2
    · exact List.nodup_append.2 ⟨frames.listed.nodup q, List.nodup_singleton r, fun a ha b hb same => absent (by
        rw [List.mem_singleton.1 hb] at same; rw [← same]; exact ha)⟩
    · simp [frames.listed.tally q]
  · by_cases same : r' = r
    · subst same
      have moved := listings_modify queues r'
      simp only [absent, decide_false, Bool.toNat_false, List.mem_append, List.mem_singleton, or_true, decide_true, Bool.toNat_true] at moved
      rw [self]
      show (s.record r').holders + 1 = _
      rw [frames.listed.holders r']
      omega
    · rw [other same, frames.listed.holders r', listings_modify_of_iff queues (by simp [same])]
  · by_cases same : r' = r
    · subst same; rw [self]; exact ⟨fun _ => Nat.succ_pos _, fun _ => rfl⟩
    · rw [other same]; exact frames.listed.queued r'
  · intro i
    rw [show (Machine.enqueue q r s).entry i = s.entry i from rfl, frames.held.1 i]
    simp only [(cells _).2]
  · have differs : r' ≠ r := fun same => named (by rw [same, (cells r).2, offered.dest])
    rw [other differs] at named ⊢
    exact frames.held.2.2 r' named
  · obtain ⟨mem, port⟩ := sending p r' q' n tx
    refine ⟨?_, port⟩
    rw [queue_of_queues queues]
    split
    · next same => subst same; exact List.mem_append_left _ mem
    · exact mem

/-- A queued record of no station takes its class. -/
theorem FramesAgree.setClass {s : State} (h : FramesAgree s) {r : RecordIx} (dest : (s.record r).dest = none) (c : RecordClass) :
    FramesAgree (setClass r c none s) :=
  (framesLike_modRecord ⟨rfl, ⟨rfl, rfl⟩, dest.symm, rfl⟩).keeps h

/-- The records that name an entry, where one record's destination changes. -/
theorem naming_of_eq_off {s t : State} {r : RecordIx} (i : StationIx) (off : ∀ r', r' ≠ r → t.record r' = s.record r') :
    naming t i + (decide ((s.record r).dest = some i)).toNat = naming s i + (decide ((t.record r).dest = some i)).toNat :=
  countP_finRange_of_eq_off (P := fun r' => decide ((s.record r').dest = some i))
    (Q := fun r' => decide ((t.record r').dest = some i)) r fun r' differs => by rw [off r' differs]

/-- A record of one queue comes to name a station, whose held count rises (02 R35). -/
theorem FramesAgree.named {s : State} (h : FramesAgree s) {r : RecordIx} (dest : (s.record r).dest = none)
    (stage : (s.record r).stage = .queued) (one : (s.record r).holders = 1) (c : RecordClass) {d : StationIx}
    (used : (s.entry d).state ≠ .free) :
    FramesAgree ((Machine.setClass r c (some d) s).modEntry d (fun e => { e with heldCount := e.heldCount + 1 })) := by
  obtain ⟨frames, sending⟩ := framesAgree_iff.1 h
  generalize made : (Machine.setClass r c (some d) s).modEntry d (fun e => { e with heldCount := e.heldCount + 1 }) = t
  have record : ∀ r', t.record r' = if r = r' then { s.record r with cls := some c, dest := some d } else s.record r' := fun r' => by
    subst made; exact record_modRecord s r r' _
  have entry : ∀ i, t.entry i = if d = i then { s.entry d with heldCount := (s.entry d).heldCount + 1 } else s.entry i := fun i => by
    subst made; exact entry_modEntry _ d i _
  have same : ∀ r', (t.record r').stage = (s.record r').stage ∧ (s.record r').sameCells (t.record r') ∧
      (t.record r').holders = (s.record r').holders := fun r' => by
    rw [record]
    split
    · next e => rw [← e]; exact ⟨rfl, ⟨rfl, rfl⟩, rfl⟩
    · exact ⟨rfl, ⟨rfl, rfl⟩, rfl⟩
  have rest : t.mem.free = s.mem.free ∧ t.mem.freeCount = s.mem.freeCount ∧ t.mem.next = s.mem.next ∧ t.queues = s.queues ∧
      t.ports = s.ports := by subst made; exact ⟨rfl, rfl, rfl, rfl, rfl⟩
  obtain ⟨free, freeCount, next, queues, ports⟩ := rest
  have port : ∀ p, t.port p = s.port p := fun p => by rw [State.port, ports]; rfl
  refine framesAgree_iff.2 ⟨⟨by rw [FreeCountAgrees, free, freeCount]; exact frames.count, ?_, fun r' => ?_, ?_, ?_, fun i => ?_,
    fun i hi => ?_, fun r' hr => ?_⟩, ?_⟩
  · exact frames.chains.congr free (fun r' => cellsOf_congr next (same r').2.1) fun r' => (same r').2.1.2
  · rw [FrameRecord.counted, (same r').1, (same r').2.1.2]; exact frames.counted r'
  · exact frames.places.congr (fun p => by rw [port]; exact .refl _) (fun _ r' _ _ => (same r').1.trans) fun _ r' _ => (same r').1.trans
  · exact frames.listed.congr (fun k => by rw [queues]; exact ⟨rfl, rfl⟩) (fun r' _ => (same r').2.1.2) (fun r' => (same r').2.2)
      fun r' => by rw [(same r').1]
  · have moved := naming_of_eq_off (s := s) (t := t) i fun r' differs => by rw [record, if_neg (Ne.symm differs)]
    have held : (s.entry i).heldCount = naming s i := frames.held.1 i
    rw [dest, record r, if_pos rfl] at moved
    rw [entry]
    show _ = naming t i
    by_cases at_d : d = i
    · subst at_d
      simp only [reduceCtorEq, decide_false, Bool.toNat_false, decide_true, Bool.toNat_true] at moved
      rw [if_pos rfl]
      show (s.entry d).heldCount + 1 = _
      omega
    · simp only [reduceCtorEq, decide_false, Bool.toNat_false, Option.some.injEq, at_d] at moved
      rw [if_neg at_d]
      omega
  · rw [entry] at hi ⊢
    by_cases at_d : d = i
    · rw [if_pos at_d] at hi; exact absurd hi used
    · rw [if_neg at_d] at hi ⊢; exact frames.held.2.1 i hi
  · rw [(same r').1, (same r').2.2]
    by_cases at_r : r = r'
    · subst at_r; exact ⟨stage, one⟩
    · rw [record, if_neg at_r] at hr; exact frames.held.2.2 r' hr
  · exact sending.congr (fun q => by rw [State.queue, queues]; rfl) fun p r' q n => by rw [port]; exact fun h => ⟨n, h⟩

end Sys2Proof.Machine

/-! # Frame memory and its holders: departures, walks and transmissions -/

namespace Sys2Proof.Machine

open Sys2Proof Relation

/-! ## A record leaves a queue -/

theorem leaveQueue_port_keeps (q : QueueId) (r : RecordIx) (s : State) (p : Port) :
    ((leaveQueue q r s).port p).rx = (s.port p).rx ∧ ((leaveQueue q r s).port p).intake = (s.port p).intake ∧
    ((leaveQueue q r s).port p).tx = (s.port p).tx := by
  rw [leaveQueue_port, unlist_port]
  exact ⟨rfl, rfl, rfl⟩

theorem Chains.of_mem {s t : State} (h : Chains s) (mem : t.mem = s.mem) : Chains t :=
  h.congr (by rw [mem]) (fun r => by rw [mem]) fun r => by rw [State.record, mem]; rfl

theorem Frames.leaveQueue {s : State} (h : Frames s) {q : QueueId} {r : RecordIx} (mem : r ∈ (s.queue q).records) :
    Frames (leaveQueue q r s) := by
  have pos : 0 < (s.record r).holders := by rw [h.listed.holders r]; exact listings_pos mem
  have stage : (s.record r).stage = .queued := (h.listed.queued r).2 pos
  have alone : ∀ {i}, (s.record r).dest = some i → (s.record r).holders = 1 := fun dest => (h.held.2.2 r (by rw [dest]; nofun)).2
  have port := leaveQueue_port_keeps q r s
  have memory := leaveQueue_mem q r s
  have record := leaveQueue_record q r
  have queues := (queues_leaveQueue q r s).trans (queues_unlist q r s)
  have entry := @leaveQueue_entry q r s
  have table := @leaveQueue_of_none q r s
  generalize Machine.leaveQueue q r s = t at port memory queues entry table
  have record : ∀ r', t.record r' = if r = r' then
      if (s.record r).holders ≤ 1 then FrameRecord.fresh else { s.record r with holders := (s.record r).holders - 1 }
      else s.record r' := fun r' => by
    rw [State.record, memory]
    split
    · exact record_releaseRecord r r' s
    · exact record_modRecord s r r' _
  have self := record r
  rw [if_pos rfl] at self
  have other : ∀ {r'}, r' ≠ r → t.record r' = s.record r' := fun differs => by rw [record, if_neg (Ne.symm differs)]
  have listings_r : listings t r + 1 = (s.record r).holders := by
    have moved := listings_modify queues r
    simp only [mem, decide_true, Bool.toNat_true, (h.listed.nodup q).not_mem_erase, decide_false, Bool.toNat_false] at moved
    rw [h.listed.holders r]
    exact moved
  have listings_other : ∀ {r'}, r' ≠ r → listings t r' = listings s r' := fun differs =>
    listings_modify_of_iff queues (List.mem_erase_of_ne differs)
  have cells : ∀ r', 0 < listings t r' → (t.record r').cellCount = (s.record r').cellCount := fun r' listed => by
    by_cases same : r' = r
    · subst same
      rw [self, if_neg (by omega)]
    · rw [other same]
  have lists := lists_modify h.listed.lists queues cells ((h.listed.nodup q).erase r) (by
    rw [h.listed.tally q]; exact sum_map_erase_cells mem)
  refine ⟨?_, ?_, fun r' => ?_, ?_, ⟨fun q' => (lists q').1, fun q' => (lists q').2, fun r' => ?_, fun r' => ?_⟩, ?_⟩
  · rw [FreeCountAgrees, memory]
    split
    · show s.mem.freeCount + _ = (s.mem.free ++ _).length
      rw [List.length_append, h.count]
    · exact h.count
  · split at memory
    · exact (h.chains.release r).of_mem memory
    · refine Chains.of_mem (h.chains.congr (t := s.modRecord r _) rfl (fun r' => cellsOf_congr (s := s) (t := s.modRecord r _) rfl ?_)
        fun r' => ?_) memory
      · rw [record_modRecord]
        split
        · next same => rw [← same]; exact ⟨rfl, rfl⟩
        · exact ⟨rfl, rfl⟩
      · rw [record_modRecord]
        split
        · next same => rw [← same]
        · rfl
  · by_cases same : r' = r
    · subst same
      rw [self]
      split
      · exact ⟨Nat.zero_le _, fun _ => rfl, fun _ => rfl⟩
      · exact h.counted r'
    · rw [other same]; exact h.counted r'
  · refine h.places.congr (fun p => .of_eq (port p).1 (port p).2.1 (port p).2.2) (fun p r' n _ old => ?_) fun p r' _ old => ?_
    · rw [other fun same => by rw [same, stage] at old; cases old]; exact old
    · rw [other fun same => by rw [same, stage] at old; cases old]; exact old
  · by_cases same : r' = r
    · subst same
      rw [self]
      split
      · show 0 = _; omega
      · show (s.record r').holders - 1 = _; omega
    · rw [other same, listings_other same]; exact h.listed.holders r'
  · by_cases same : r' = r
    · subst same
      rw [self]
      split
      · exact ⟨nofun, nofun⟩
      · exact ⟨fun _ => by show 0 < (s.record r').holders - 1; omega, fun _ => stage⟩
    · rw [other same]; exact h.listed.queued r'
  · cases dest : (s.record r).dest with
    | none =>
      have dests : ∀ r', (t.record r').dest = (s.record r').dest := fun r' => by
        by_cases same : r' = r
        · subst same
          rw [self, dest]
          split
          · rfl
          · exact dest
        · rw [other same]
      have entries : ∀ i, t.entry i = s.entry i := fun i => by rw [State.entry, (table dest).1]; rfl
      refine ⟨fun i => ?_, fun i => by rw [entries]; exact h.held.2.1 i, fun r' named => ?_⟩
      · rw [entries, h.held.1 i]
        simp only [dests]
      · have differs : r' ≠ r := fun same => named (by rw [same, dests, dest])
        rw [other differs] at named ⊢
        exact h.held.2.2 r' named
    | some d =>
      have one := alone dest
      rw [if_pos (by omega)] at self
      have entry := entry dest
      have held : ∀ i, (t.entry i).heldCount = (s.entry i).heldCount - (decide (d = i)).toNat := fun i => by
        rw [entry]
        by_cases at_d : d = i
        · subst at_d
          simp only [decide_true, Bool.toNat_true, if_true]
          split
          · next freed => show 0 = _; omega
          · rfl
        · simp [at_d]
      refine ⟨fun i => ?_, fun i free => ?_, fun r' named => ?_⟩
      · have moved := naming_of_eq_off (s := s) (t := t) (r := r) i fun r' => other
        have before : (s.entry i).heldCount = naming s i := h.held.1 i
        rw [dest, self] at moved
        show _ = naming t i
        rw [held]
        simp only [FrameRecord.fresh, reduceCtorEq, decide_false, Bool.toNat_false, Option.some.injEq] at moved
        omega
      · rw [held]
        rw [entry] at free
        split at free
        · next at_d =>
          subst at_d
          simp only [decide_true, Bool.toNat_true]
          split at free
          · omega
          · have := h.held.2.1 d free
            omega
        · next off =>
          have := h.held.2.1 i free
          omega
      · have differs : r' ≠ r := fun same => named (by rw [same, self]; rfl)
        rw [other differs] at named ⊢
        exact h.held.2.2 r' named

/-- No port but the one given sends a record from a queue. -/
theorem Sending.leaveQueue {s : State} (h : Sending s) {q : QueueId} {r : RecordIx} (p : Port) (r' : RecordIx) (q' : QueueId) (n : Nat)
    (tx : ((leaveQueue q r s).port p).tx = .sending r' q' n) (differs : r' ≠ r ∨ q' ≠ q) :
    r' ∈ ((leaveQueue q r s).queue q').records ∧ queuePort q' = p := by
  rw [(leaveQueue_port_keeps q r s p).2.2] at tx
  obtain ⟨mem, port⟩ := h p r' q' n tx
  refine ⟨?_, port⟩
  rw [leaveQueue_queue, unlist_queue]
  split
  · next same => subst same; exact (List.mem_erase_of_ne (differs.resolve_right fun h => h rfl)).2 mem
  · exact mem

theorem FramesAgree.leaveQueue {s : State} (h : FramesAgree s) {q : QueueId} {r : RecordIx} (mem : r ∈ (s.queue q).records)
    (quiet : ∀ p n, (s.port p).tx ≠ .sending r q n) : FramesAgree (leaveQueue q r s) := by
  refine framesAgree_iff.2 ⟨h.frames.leaveQueue mem, fun p r' q' n tx => h.sending.leaveQueue p r' q' n tx ?_⟩
  rw [(leaveQueue_port_keeps q r s p).2.2] at tx
  by_contra both
  rw [not_or, not_not, not_not] at both
  exact quiet p n (by rw [← both.1, ← both.2]; exact tx)

/-- A record of a queue whose port sends nothing is in no transmission from it. -/
theorem Sending.quiet {s : State} (h : Sending s) {q : QueueId} {r : RecordIx} (at_port : ∀ n, (s.port (queuePort q)).tx ≠ .sending r q n)
    (p : Port) (n : Nat) : (s.port p).tx ≠ .sending r q n := fun tx => at_port n ((h p r q n tx).2 ▸ tx)

/-! ## Transmissions -/

theorem FramesAgree.setTx {s : State} (h : FramesAgree s) (p : Port) {x : TxState} (calm : ∀ r q n, x ≠ .sending r q n) :
    FramesAgree (s.modPort p (fun u => { u with tx := x })) :=
  (framesLike_modPort ⟨fun h => ⟨_, h⟩, .refl _, fun {r q n} h => absurd h (calm r q n)⟩).keeps h

theorem FramesAgree.emptySlot {s : State} (h : FramesAgree s) (b : Side) : FramesAgree (emptySlot b s) :=
  frames_stills (stills_emptySlot s b) h

theorem FramesAgree.endTransmission {s : State} (h : FramesAgree s) (p : Port) : FramesAgree (endTransmission p s) := by
  unfold Machine.endTransmission
  simp only
  split
  · exact h
  · next r q n tx =>
    obtain ⟨mem, port⟩ := h.sending p r q n tx
    have gone : PortLess ((Machine.leaveQueue q r s).port p) { (Machine.leaveQueue q r s).port p with tx := .idle } :=
      ⟨fun h => ⟨_, h⟩, .refl _, nofun⟩
    refine framesAgree_iff.2 ⟨(framesLike_modPort gone).frames (h.frames.leaveQueue mem), fun p' r' q' n' tx' => ?_⟩
    rw [port_modPort] at tx'
    split at tx'
    · cases tx'
    · next differs =>
      refine h.sending.leaveQueue p' r' q' n' tx' (.inr fun same => differs ?_)
      rw [(leaveQueue_port_keeps q r s p').2.2] at tx'
      rw [← port, ← same, (h.sending p' r' q' n' tx').2]
  · split
    · exact (h.emptySlot _).setTx p fun _ _ _ => nofun
    · exact h.setTx p fun _ _ _ => nofun

theorem FramesAgree.abortTransmission {s : State} (h : FramesAgree s) (p : Port) : FramesAgree (abortTransmission p s) := by
  unfold Machine.abortTransmission
  split
  · exact h
  · exact (h.countPort p _).endTransmission p

theorem FramesAgree.complete {s : State} (h : FramesAgree s) (p : Port) : FramesAgree (complete p s) := by
  unfold Machine.complete
  split
  · exact (h.countPort p _).endTransmission p
  · exact h

theorem FramesAgree.startRecord {s : State} (h : FramesAgree s) {p : Port} {q : QueueId} {r : RecordIx} (mem : r ∈ (s.queue q).records)
    (port : queuePort q = p) : FramesAgree (startRecord p q r s) := by
  have noTx : PortLess (s.port p) { s.port p with tx := .idle, guardCount := guardAfter q s (s.port p).guardCount } :=
    ⟨fun h => ⟨_, h⟩, .refl _, nofun⟩
  obtain ⟨count, chains, counted, places, listed, held⟩ := (framesLike_modPort (f := fun u =>
    { u with tx := .idle, guardCount := guardAfter q s u.guardCount }) noTx).frames h.frames
  have rx : ∀ p', ((Machine.startRecord p q r s).port p').rx = (s.port p').rx ∧
      ((Machine.startRecord p q r s).port p').intake = (s.port p').intake := fun p' => by
    rw [Machine.startRecord, port_modPort]
    split
    · next same => rw [← same]; exact ⟨rfl, rfl⟩
    · exact ⟨rfl, rfl⟩
  refine framesAgree_iff.2 ⟨⟨count, h.frames.chains.of_mem rfl, counted, ?_,
    h.frames.listed.congr (fun _ => ⟨rfl, rfl⟩) (fun _ _ => rfl) (fun _ => rfl) fun _ => .rfl, held⟩, fun p' r' q' n tx => ?_⟩
  · obtain ⟨receiving, one, waiting, nodup, apart⟩ := h.frames.places
    unfold PlacesAgree
    simp only [rx]
    exact ⟨receiving, one, waiting, nodup, apart⟩
  · rw [Machine.startRecord, port_modPort] at tx
    split at tx
    · next same => cases tx; exact ⟨mem, port.trans same⟩
    · exact h.sending p' r' q' n tx

/-! ## Walks -/

theorem inTransmission_eq_false {q : QueueId} {r : RecordIx} {s : State} (h : inTransmission q r s = false) (n : Nat) :
    (s.port (queuePort q)).tx ≠ .sending r q n := fun tx => by
  simp [inTransmission, tx] at h

/-- Records of a queue that are in no transmission leave it one after another. -/
theorem FramesAgree.leaveAll {q : QueueId} {l : List RecordIx} {s : State} (h : FramesAgree s) (nodup : l.Nodup)
    (listed : ∀ r ∈ l, r ∈ (s.queue q).records) (quiet : ∀ r ∈ l, ∀ p n, (s.port p).tx ≠ .sending r q n) :
    FramesAgree (l.foldl (fun t r => Machine.leaveQueue q r t) s) := by
  induction l generalizing s with
  | nil => exact h
  | cons r l ih =>
    obtain ⟨other, nodup⟩ := List.nodup_cons.1 nodup
    refine ih (h.leaveQueue (listed r List.mem_cons_self) (quiet r List.mem_cons_self)) nodup (fun r' mem => ?_) fun r' mem p n => ?_
    · rw [leaveQueue_queue, unlist_queue, if_pos rfl]
      exact (List.mem_erase_of_ne fun same => other (by rw [← same]; exact mem)).2 (listed r' (List.mem_cons_of_mem r mem))
    · rw [(leaveQueue_port_keeps q r s p).2.2]
      exact quiet r' (List.mem_cons_of_mem r mem) p n

theorem FramesAgree.sweepQueue {s : State} (h : FramesAgree s) (picks : FrameRecord → Bool) (q : QueueId) :
    FramesAgree (sweepQueue picks q s) := by
  refine h.leaveAll ((h.frames.listed.nodup q).filter _) (fun r mem => (List.mem_filter.1 mem).1) fun r mem p n => ?_
  have quiet := (List.mem_filter.1 mem).2
  rw [Bool.and_eq_true, Bool.not_eq_true'] at quiet
  exact h.sending.quiet (inTransmission_eq_false quiet.2) p n

end Sys2Proof.Machine

/-! # Frame memory and its holders: choices and decisions -/

namespace Sys2Proof.Machine

open Sys2Proof Relation

/-! ## The re-home check and the choice of a port -/

theorem unlist_port_keeps (q : QueueId) (r : RecordIx) (s : State) (p : Port) :
    ((unlist q r s).port p).rx = (s.port p).rx ∧ ((unlist q r s).port p).intake = (s.port p).intake ∧
    ((unlist q r s).port p).tx = (s.port p).tx := by
  rw [unlist_port]
  exact ⟨rfl, rfl, rfl⟩

/-- A record of one queue, in no transmission, moves to another queue (05 R96). -/
theorem FramesAgree.rehomeMove {s : State} (h : FramesAgree s) {q q' : QueueId} {r : RecordIx} (mem : r ∈ (s.queue q).records)
    (one : (s.record r).holders = 1) (differs : q ≠ q') (quiet : ∀ p n, (s.port p).tx ≠ .sending r q n) :
    FramesAgree (rehomeMove q q' r s) := by
  obtain ⟨frames, sending⟩ := framesAgree_iff.1 h
  obtain ⟨-, -, -, table, -, -, -, memory, -⟩ := unlist_frame q r s
  have off := queues_unlist q r s
  have ports := unlist_port_keeps q r s
  have same : ∀ r', (unlist q r s).record r' = s.record r' := fun r' => by rw [State.record, memory]; rfl
  have unlisted : listings (unlist q r s) r = 0 := by
    have moved := listings_modify off r
    simp only [mem, decide_true, Bool.toNat_true, (frames.listed.nodup q).not_mem_erase, decide_false, Bool.toNat_false] at moved
    rw [← frames.listed.holders r, one] at moved
    omega
  have others : ∀ {r'}, r' ≠ r → listings (unlist q r s) r' = listings s r' := fun apart =>
    listings_modify_of_iff off (List.mem_erase_of_ne apart)
  have lists := lists_modify frames.listed.lists off (fun r' _ => by rw [same]) ((frames.listed.nodup q).erase r) (by
    rw [frames.listed.tally q]; exact sum_map_erase_cells mem)
  have queue : ∀ x, x ≠ q → (unlist q r s).queue x = s.queue x := fun x hx => by rw [unlist_queue, if_neg (Ne.symm hx)]
  have queue_q : ((unlist q r s).queue q).records = (s.queue q).records.erase r := by rw [unlist_queue, if_pos rfl]
  unfold Machine.rehomeMove
  simp only
  generalize unlist q r s = u at memory table ports same unlisted others lists queue queue_q
  refine frames_stills (stills_countGlobal _ _) ((framesLike_modRecord ⟨rfl, ⟨rfl, rfl⟩, rfl, rfl⟩).keeps ?_)
  generalize made : u.modQueue q' (fun x => { x with
    records := x.records ++ [r], tally := x.tally + (s.record r).cellCount }) = t
  have on : t.queues = u.queues.modify (queueIx q') (fun x => { x with
    records := x.records ++ [r], tally := x.tally + (s.record r).cellCount }) := by subst made; rfl
  have rest : t.mem = u.mem ∧ t.ports = u.ports ∧ t.table = u.table := by subst made; exact ⟨rfl, rfl, rfl⟩
  obtain ⟨mem_t, ports_t, table_t⟩ := rest
  have mem_s := mem_t.trans memory
  have record : ∀ r', t.record r' = s.record r' := fun r' => by rw [State.record, mem_s]; rfl
  have port : ∀ p, (t.port p).rx = (s.port p).rx ∧ (t.port p).intake = (s.port p).intake ∧ (t.port p).tx = (s.port p).tx := fun p => by
    rw [State.port, ports_t]; exact ports p
  have entry : ∀ i, t.entry i = s.entry i := fun i => by rw [State.entry, table_t, table]; rfl
  have absent := not_listed unlisted q'
  have lists' := lists_modify lists on (fun r' _ => by rw [record, same])
    (List.nodup_append.2 ⟨(lists q').1, List.nodup_singleton r, fun a ha b hb e => absent (by
      rw [List.mem_singleton.1 hb] at e; rw [← e]; exact ha)⟩)
    (by simp only [List.map_append, List.sum_append, List.map_cons, List.map_nil, List.sum_cons, List.sum_nil, same]
        rw [(lists q').2]
        simp only [same, Nat.add_zero])
  have listings_t : ∀ r', listings t r' = listings s r' := fun r' => by
    by_cases at_r : r' = r
    · subst at_r
      have moved := listings_modify on r'
      simp only [absent, decide_false, Bool.toNat_false, List.mem_append, List.mem_singleton, or_true, decide_true,
        Bool.toNat_true] at moved
      have held := frames.listed.holders r'
      omega
    · rw [listings_modify_of_iff on (by simp [at_r]), others at_r]
  refine framesAgree_iff.2 ⟨⟨by rw [FreeCountAgrees, mem_s]; exact frames.count, frames.chains.of_mem mem_s, fun r' => by
      rw [record]; exact frames.counted r', ?_, ⟨fun x => (lists' x).1, fun x => (lists' x).2, fun r' => ?_, fun r' => ?_⟩, ?_⟩,
    fun p r' x n tx => ?_⟩
  · exact frames.places.congr (fun p => .of_eq (port p).1 (port p).2.1 (port p).2.2) (fun p r' n _ => by rw [record]; exact id)
      fun p r' _ => by rw [record]; exact id
  · rw [record, listings_t]; exact frames.listed.holders r'
  · rw [record]; exact frames.listed.queued r'
  · exact frames.held.congr (fun i => by rw [entry]) (fun i => by rw [entry]; exact .inl) (fun r' => by rw [record])
      (fun r' => by rw [record]; exact id) fun r' => by rw [record]
  · rw [(port p).2.2] at tx
    obtain ⟨listed, at_p⟩ := sending p r' x n tx
    refine ⟨?_, at_p⟩
    have on_u : r' ∈ (u.queue x).records := by
      by_cases at_q : x = q
      · subst at_q
        rw [queue_q]
        exact (List.mem_erase_of_ne fun e => quiet p n (by rw [← e]; exact tx)).2 listed
      · rw [queue x at_q]; exact listed
    rw [queue_of_queues on]
    split
    · next e => subst e; exact List.mem_append_left _ on_u
    · exact on_u

theorem FramesAgree.rehomeCheck {s t : State} (h : FramesAgree s) {q : QueueId} {r : RecordIx} (mem : r ∈ (s.queue q).records)
    (quiet : ∀ p n, (s.port p).tx ≠ .sending r q n) (gone : rehomeCheck q r s = .gone t) : FramesAgree t := by
  unfold Machine.rehomeCheck at gone
  split at gone
  · cases gone
  · next i dest =>
    split at gone
    · cases gone
      exact (frames_stills (stills_countStation s i .refused) h).leaveQueue mem quiet
    · split at gone
      · cases gone
        exact (frames_stills (stills_countGlobal s .unreachable) h).leaveQueue mem quiet
      · split at gone
        · cases gone
        · next elsewhere =>
          simp only at gone
          split at gone <;> cases gone
          · refine h.rehomeMove mem (h.frames.held.2.2 r (by rw [dest]; nofun)).2 (fun same => elsewhere ?_) quiet
            rw [same, queuePort_stationQueue]
          · exact (frames_stills (stills_countGlobal s .staleDrops) h).leaveQueue mem quiet

theorem FramesAgree.carriageChoice (p : Port) (n : Nat) {s : State} (h : FramesAgree s) (idle : (s.port p).tx = .idle) :
    FramesAgree (carriageChoice p n s) := by
  induction n generalizing s with
  | zero => exact h
  | succ n ih =>
    unfold Machine.carriageChoice
    split
    · exact h
    · next q pick =>
      obtain ⟨port, -⟩ := queuePort_of_pickQueue pick
      split
      · exact h
      · next r l head =>
        have mem : r ∈ (s.queue q).records := by rw [head]; exact List.mem_cons_self
        split
        · exact h.startRecord mem port
        · next t gone =>
          have quiet := h.sending.quiet (q := q) (r := r) fun n tx => by rw [port, idle] at tx; cases tx
          exact ih (h.rehomeCheck mem quiet gone) ((congrArg Prod.fst (rehomeCheck_gone_choiceView gone p)).trans idle)

theorem queuePort_drrQueue (b : Side) (d : DrrQueue) : queuePort (drrQueue b d) = sidePort b := by cases d <;> rfl

/-- The state of a port whose visit at the pointer is open (07 R128). -/
def BackboneTx.opened (x : BackboneTx) : BackboneTx :=
  if x.visitOpen then x
  else { x with
    visitOpen := true, deficit := x.deficit.set (drrIx x.pointer) (x.deficit.get (drrIx x.pointer) + x.quantum.get (drrIx x.pointer)) }

/-- The state of a port whose visit at the pointer is over. -/
def BackboneTx.movedOn (x : BackboneTx) : BackboneTx := { x with visitOpen := false, pointer := drrNext x.pointer }

/-- The state of a port once a frame's length is taken from a deficit. -/
def BackboneTx.charged (i : Fin 4) (n : Nat) (x : BackboneTx) : BackboneTx :=
  { x with deficit := x.deficit.set i (x.deficit.get i - n) }

theorem drrChoice_nil {b : Side} {s : State} {x : BackboneTx} (empty : (s.queue (drrQueue b x.pointer)).records = []) (n : Nat) :
    drrChoice b s (n + 1) x = drrChoice b s n x.movedOn := by
  simp only [drrChoice, empty, BackboneTx.movedOn]

theorem drrChoice_cons {b : Side} {s : State} {x : BackboneTx} {r : RecordIx} {l : List RecordIx}
    (head : (s.queue (drrQueue b x.pointer)).records = r :: l) (n : Nat) : drrChoice b s (n + 1) x =
      if (s.record r).length ≤ x.opened.deficit.get (drrIx x.pointer) then
        some (x.pointer, r, x.opened.charged (drrIx x.pointer) (s.record r).length)
      else drrChoice b s n x.opened.movedOn := by
  simp only [drrChoice, head]
  rfl

/-- Deficit round robin sends the head of the queue it names. -/
theorem drrChoice_head {b : Side} {s : State} {n : Nat} {x y : BackboneTx} {d : DrrQueue} {r : RecordIx}
    (h : drrChoice b s n x = some (d, r, y)) : (s.queue (drrQueue b d)).records.head? = some r := by
  induction n generalizing x with
  | zero => cases h
  | succ n ih =>
    cases head : (s.queue (drrQueue b x.pointer)).records with
    | nil => exact ih ((drrChoice_nil head n).symm.trans h)
    | cons r' l =>
      rw [drrChoice_cons head] at h
      split at h
      · cases h; rw [head]; rfl
      · exact ih h

theorem FramesAgree.backboneChoice {s : State} (h : FramesAgree s) (b : Side) : FramesAgree (backboneChoice b s) := by
  unfold Machine.backboneChoice
  simp only
  split
  · exact h.setTx _ fun _ _ _ => nofun
  · split
    · next r l head => exact h.startRecord (by rw [head]; exact List.mem_cons_self) rfl
    · split
      · split
        · next d r x sent =>
          have moved : FramesAgree (s.modSide b (fun _ => x)) :=
            (framesLike_ports (by simp) (by simp) (by simp) fun p => by simp [PortLess.refl]).keeps h
          refine moved.startRecord ?_ (queuePort_drrQueue b d)
          rw [modSide_queue]
          exact List.mem_of_mem_head? (drrChoice_head sent)
        · exact h
      · exact h

theorem FramesAgree.choose {s : State} (h : FramesAgree s) (p : Port) : FramesAgree (choose p s) := by
  unfold Machine.choose
  split
  · next ready =>
    split
    · exact h.backboneChoice _
    · refine FramesAgree.carriageChoice p _ h ?_
      simp only [readyToChoose, Bool.and_eq_true, decide_eq_true_eq] at ready
      exact ready.1.1
  · exact h

end Sys2Proof.Machine

/-! # Frame memory and its holders: decisions -/

namespace Sys2Proof.Machine

open Sys2Proof Relation

/-! ## Tests -/

theorem testPermit_ok {l : Leg} {g : Grant} {i : StationIx} {s t : State} (h : testPermit l g i s = .ok t) : t = s := by
  unfold testPermit at h
  split at h <;> cases h
  rfl

theorem testAllowance_ok {g : Grant} {i : StationIx} {s t : State} (h : testAllowance g i s = .ok t) : t = s := by
  unfold testAllowance at h
  split at h <;> cases h
  rfl

theorem testPolicing_ok {l : Leg} {g : Grant} {i : StationIx} {s t : State} (h : testPolicing l g i s = .ok t) :
    t = s ∨ t = refill i s := by
  unfold testPolicing at h
  split at h
  · simp only at h
    split at h <;> cases h
    exact .inr rfl
  · cases h; exact .inl rfl

theorem refill_state (i j : StationIx) (s : State) : ((refill i s).entry j).state = (s.entry j).state := by
  rw [refill, entry_modEntry]
  split
  · next same => subst same; rfl
  · rfl

theorem testPolicing_state {l : Leg} {g : Grant} {i : StationIx} {s t : State} (h : testPolicing l g i s = .ok t) (j : StationIx) :
    (t.entry j).state = (s.entry j).state := by
  rcases testPolicing_ok h with rfl | rfl
  · rfl
  · exact refill_state i j s

/-! ## A decision on a record in hand -/

/-- The frames agree and a record is in the decision engine's hand. -/
structure Deciding (r : RecordIx) (s : State) : Prop where
  frames : FramesAgree s
  hand : InHand r s

/-- A decision leaves the frames in agreement, with the record in hand where it is dropped. -/
def Verdict.agrees (r : RecordIx) : Verdict → Prop
  | .ok t => FramesAgree t
  | .error t => Deciding r t

theorem Deciding.stills {r : RecordIx} {s t : State} (h : Deciding r s) (path : Stills s t) : Deciding r t := by
  refine ⟨frames_stills path h.frames, ?_⟩
  have hand := h.hand
  clear h
  induction path with
  | refl => exact hand
  | tail _ last ih =>
    refine ⟨by rw [State.record, last.mem]; exact ih.stage, fun p => ?_⟩
    have intake := congrArg PortUnit.intake (last.portKept p).1
    have same : ∀ u : PortUnit, u.view.intake = u.intake := fun _ => rfl
    rw [same, same] at intake
    rw [intake]
    exact ih.intake p

theorem agrees_bind {r : RecordIx} {α : Type} {v : Except State α} {k : α → Verdict} (dropped : ∀ t, v = .error t → Deciding r t)
    (goesOn : ∀ a, v = .ok a → (k a).agrees r) : Verdict.agrees r (v >>= k) := by
  cases v with
  | error t => exact dropped t rfl
  | ok a => exact goesOn a rfl

/-- A test, and what follows it. -/
theorem agrees_test {r : RecordIx} {s : State} {v : Verdict} {k : State → Verdict} (h : Deciding r s) (test : Stills s v.state)
    (goesOn : ∀ t, v = .ok t → Deciding r t → (k t).agrees r) : Verdict.agrees r (v >>= k) := by
  cases v with
  | error t => exact h.stills test
  | ok t => exact goesOn t rfl (h.stills test)

/-- An admission, and what follows it. -/
theorem agrees_admission {r : RecordIx} {v : Verdict} {k : State → Verdict} (admission : v.agrees r)
    (goesOn : ∀ t, FramesAgree t → (k t).agrees r) : Verdict.agrees r (v >>= k) := by
  cases v with
  | error t => exact admission
  | ok t => exact goesOn t admission

theorem Deciding.countDrop {r : RecordIx} {s : State} (h : Deciding r s) (q : QueueId) : Deciding r (countDrop q s) :=
  ⟨(framesLike_modQueue ⟨rfl, rfl⟩).keeps h.frames, h.hand.stage, h.hand.intake⟩

theorem Deciding.absent {r : RecordIx} {s : State} (h : Deciding r s) (q : QueueId) : r ∉ (s.queue q).records :=
  not_listed (h.hand.loose h.frames).unlisted q

/-- A record in hand joins a queue, and no other. -/
theorem Deciding.enqueue {r : RecordIx} {s : State} (h : Deciding r s) (q : QueueId) :
    FramesAgree (enqueue q r s) ∧ ((enqueue q r s).record r).dest = none ∧ ((enqueue q r s).record r).stage = .queued ∧
    ((enqueue q r s).record r).holders = 1 := by
  have loose := h.hand.loose h.frames
  obtain ⟨agrees, offered⟩ := h.frames.enqueue (h.hand.offered h.frames) (h.absent q)
  obtain ⟨zero, -⟩ := h.frames.frames.listed.stage_of_unlisted loose.unlisted
  refine ⟨agrees, offered.dest, ?_⟩
  rw [enqueue_record, if_pos rfl, zero]
  exact ⟨rfl, rfl⟩

theorem agrees_admitTo {r : RecordIx} {s : State} (h : Deciding r s) {d : StationIx} (used : (s.entry d).state ≠ .free) (p : Port)
    (g : Grant) : (admitTo d p g r s).agrees r := by
  unfold admitTo
  simp only
  split
  · obtain ⟨agrees, dest, stage, one⟩ := h.enqueue (stationQueue p g.cls)
    exact agrees.named dest stage one _ used
  · exact h.countDrop _

theorem agrees_throughOffer {r : RecordIx} {s : State} (h : Deciding r s) (b : Side) : (throughOffer b r s).agrees r := by
  unfold throughOffer
  split
  · exact h.stills (stills_countGlobal s _)
  · split
    · obtain ⟨agrees, dest, -⟩ := h.enqueue (.through b)
      exact agrees.setClass dest _
    · exact h.countDrop _

theorem agrees_upstream {r : RecordIx} {s : State} (h : Deciding r s) (i : StationIx) (zone : Fin 16) : (upstream i zone r s).agrees r := by
  unfold upstream
  refine agrees_test h (stills_testPermit s .up _ i) fun s _ h => ?_
  refine agrees_test h (stills_testPolicing s .up _ i) fun s _ h => ?_
  refine agrees_test h (stills_testAllowance s _ i) fun s _ h => ?_
  split
  · exact h
  · simp only
    split
    · next b _ _ =>
      obtain ⟨agrees, dest, -⟩ := h.enqueue (QueueId.cls b _)
      exact frames_stills ((stills_commit _ .up _ i _).trans (stills_countStation _ i _)) (agrees.setClass dest _)
    · exact (h.countDrop _).stills (stills_raise _ _)

theorem agrees_neighbour {r : RecordIx} {s : State} (h : Deciding r s) (i : StationIx) {d : StationIx} (used : (s.entry d).state ≠ .free) :
    (neighbour i d r s).agrees r := by
  unfold neighbour
  refine agrees_test h (stills_testPermit s .up _ i) fun s1 ok h => ?_
  obtain rfl := testPermit_ok ok
  refine agrees_test h (stills_testBarred s1 d) fun s2 ok h => ?_
  obtain ⟨rfl, -⟩ := testBarred_ok s1 ok
  refine agrees_test h (stills_testPermit s2 .down _ d) fun s3 ok h => ?_
  obtain rfl := testPermit_ok ok
  refine agrees_bind (fun t dropped => h.stills (stills_testAttached s3 dropped)) fun p _ => ?_
  refine agrees_test h (stills_testPolicing s3 .up _ i) fun s4 up h => ?_
  refine agrees_test h (stills_testPolicing s4 .down _ d) fun s5 down h => ?_
  refine agrees_test h (stills_testAllowance s5 _ i) fun s6 ok h => ?_
  obtain rfl := testAllowance_ok ok
  refine agrees_test h (stills_testAllowance s6 _ d) fun s7 ok h => ?_
  obtain rfl := testAllowance_ok ok
  have used' : (s7.entry d).state ≠ .free := by rw [testPolicing_state down, testPolicing_state up]; exact used
  refine agrees_admission (agrees_admitTo h used' p _) fun t agrees => frames_stills ?_ agrees
  exact ((((stills_deductCredit t .up _ i _).trans (stills_deductCredit _ .down _ d _)).trans
    (stills_chargeAllowance _ _ i _)).trans (stills_chargeAllowance _ _ d _)).trans
      ((stills_countStation _ i _).trans (stills_countStation _ d _))

theorem agrees_downstream {r : RecordIx} {s : State} (h : Deciding r s) {d : StationIx} (used : (s.entry d).state ≠ .free) (hd : Header) :
    (downstream d hd r s).agrees r := by
  unfold downstream
  refine agrees_test h (stills_testBarred s d) fun s1 ok h => ?_
  obtain ⟨rfl, -⟩ := testBarred_ok s ok
  refine agrees_bind (fun t dropped => h.stills (stills_testAttached s1 dropped)) fun p _ => ?_
  refine agrees_test h (stills_testPermit s1 .down _ d) fun s2 ok h => ?_
  obtain rfl := testPermit_ok ok
  refine agrees_test h (stills_testPolicing s2 .down _ d) fun s3 down h => ?_
  refine agrees_test h (stills_testAllowance s3 _ d) fun s4 ok h => ?_
  obtain rfl := testAllowance_ok ok
  have used' : (s4.entry d).state ≠ .free := by rw [testPolicing_state down]; exact used
  refine agrees_admission (agrees_admitTo h used' p _) fun t agrees => frames_stills ?_ agrees
  exact (stills_commit t .down _ d _).trans (stills_countStation _ d _)

theorem agrees_decideCarriage {r : RecordIx} {s : State} (h : Deciding r s) {p : Port} (carriage : isCarriage p = true)
    (up : isUpOrHeld (s.port p).state = true) : (decideCarriage p r s).agrees r := by
  unfold decideCarriage
  simp only
  split
  · exact h.stills (stills_countGlobal s _)
  · refine agrees_bind (fun t dropped => h.stills (stills_sourceEntry s dropped)) fun found ok => ?_
    obtain ⟨i, t⟩ := found
    obtain ⟨path, used, ports, -, -⟩ := sourceEntry_ok s ok
    refine agrees_test (h.stills path) (stills_testBarred t i) fun t' unbarred h => ?_
    obtain ⟨rfl, -⟩ := testBarred_ok t unbarred
    refine agrees_test h (stills_attachStep t' used carriage (by rw [State.port, ports]; exact up)) fun u _ h => ?_
    have seen := h.stills (stills_markSeen u i)
    split
    · next hit => exact agrees_neighbour seen i (lookup_some hit).2.1
    · exact agrees_upstream seen i _

theorem frames_settleVerdict {r : RecordIx} {v : Verdict} (h : v.agrees r) : FramesAgree (settleVerdict r v) := by
  cases v with
  | ok t => exact h
  | error t => exact h.frames.releaseRecord (h.hand.loose h.frames)

theorem Deciding.released {r : RecordIx} {s : State} (h : Deciding r s) : FramesAgree (releaseRecord r s) :=
  h.frames.releaseRecord (h.hand.loose h.frames)

theorem Deciding.management {r : RecordIx} {s : State} (h : Deciding r s) (b : Side) : FramesAgree (decideManagement b r s) := by
  have handed := h.stills (stills_handOver s b r)
  unfold decideManagement
  simp only
  split
  · split
    · exact frames_settleVerdict (agrees_throughOffer handed _)
    · exact handed.released
  · exact frames_settleVerdict (agrees_throughOffer h _)

/-- Copies of a group frame are offered to queues that do not list it (01 R18). -/
theorem frames_offerCopies {r : RecordIx} (l : List QueueId) (nodup : l.Nodup) {s : State} (h : FramesAgree s) (offered : Offered r s)
    (absent : ∀ q ∈ l, r ∉ (s.queue q).records) :
    FramesAgree (l.foldl (offerCopy r) s) ∧ Offered r (l.foldl (offerCopy r) s) := by
  induction l generalizing s with
  | nil => exact ⟨h, offered⟩
  | cons q l ih =>
    obtain ⟨other, nodup⟩ := List.nodup_cons.1 nodup
    have rest : ∀ q' ∈ l, q ≠ q' ∧ r ∉ (s.queue q').records := fun q' mem =>
      ⟨fun same => other (by rw [same]; exact mem), absent q' (List.mem_cons_of_mem q mem)⟩
    rw [List.foldl_cons]
    rcases offerCopy_cases r q s with ⟨-, e⟩ | ⟨-, -, e⟩ | ⟨-, -, e⟩ <;> rw [e]
    · obtain ⟨agrees, offered⟩ := h.enqueue offered (absent q List.mem_cons_self)
      refine ih nodup agrees offered fun q' mem => ?_
      rw [queue_of_queues (queues_enqueue q r s), if_neg (rest q' mem).1]
      exact (rest q' mem).2
    · exact ih nodup (frames_stills (stills_countGlobal s _) h) ⟨offered.stage, offered.intake, offered.dest⟩ fun q' mem => (rest q' mem).2
    · refine ih nodup ((framesLike_modQueue ⟨rfl, rfl⟩).keeps h) ⟨offered.stage, offered.intake, offered.dest⟩ fun q' mem => ?_
      rw [countDrop, queue_modQueue, if_neg (rest q' mem).1]
      exact (rest q' mem).2

theorem Deciding.replicate {r : RecordIx} {s : State} (h : Deciding r s) (b : Side) : FramesAgree (replicate b r s) := by
  obtain ⟨agrees, offered⟩ := frames_offerCopies _ (nodup_floodQueues b s) h.frames (h.hand.offered h.frames) fun q _ => h.absent q
  unfold Machine.replicate
  simp only
  split
  · next zero =>
    have deciding : (((floodQueues b s).foldl (offerCopy r) s).record r).stage = .deciding := offered.stage.resolve_right fun queued => by
      have pos := (agrees.frames.listed.queued r).1 queued
      omega
    exact Deciding.released ⟨agrees, deciding, offered.intake⟩
  · exact agrees.setClass offered.dest _

theorem Deciding.backbone {r : RecordIx} {s : State} (h : Deciding r s) (b : Side) : FramesAgree (decideBackbone b r s) := by
  unfold decideBackbone
  simp only
  split
  · exact h.management b
  · split
    · exact (h.stills (stills_countGlobal s _)).released
    · split
      · exact h.replicate b
      · split
        · next hit => exact frames_settleVerdict (agrees_downstream h (lookup_some hit).2.1 _)
        · exact frames_settleVerdict (agrees_throughOffer h _)

theorem Deciding.transit {r : RecordIx} {s : State} (h : Deciding r s) (b : Side) : FramesAgree (decideTransit b r s) := by
  unfold decideTransit
  split
  · exact h.management b
  · exact frames_settleVerdict (agrees_throughOffer h _)

theorem Deciding.frame {r : RecordIx} {s : State} (h : Deciding r s) (p : Port) : FramesAgree (decideFrame p r s) := by
  unfold decideFrame
  split
  · exact h.backbone _
  · exact h.transit _
  · exact h.released
  · next notBackbone =>
    split
    · next up => exact frames_settleVerdict (agrees_decideCarriage h (isCarriage_of_portClass notBackbone) up)
    · exact h.released
  · exact h.released

theorem FramesAgree.takeOldest {s : State} (h : FramesAgree s) : FramesAgree (takeOldest s) := by
  unfold Machine.takeOldest
  split
  · exact h
  · next p a _ =>
    split
    · exact h
    · next r rest intake =>
      have served : FramesAgree { s with arb := a } := (framesLike_ports rfl rfl rfl fun _ => .refl _).keeps h
      have at_p : (({ s with arb := a } : State).port p).intake = r :: rest := intake
      have nodup := served.frames.places.2.2.2.1 p
      rw [at_p] at nodup
      have hand := served.inHand_of_taken (p := p) (rest := rest) (by rw [at_p]; exact List.mem_cons_self) (List.nodup_cons.1 nodup).1
      exact Deciding.frame ⟨served.intakeLess (by rw [at_p]; exact List.sublist_cons_self r rest), hand⟩ p

end Sys2Proof.Machine

/-! # Frame memory and its holders: every step -/

namespace Sys2Proof.Machine

open Sys2Proof Relation

/-! ## Reset -/

theorem reset_cellsOf (r : RecordIx) : cellsOf State.reset.mem r = [] := by
  unfold cellsOf
  rw [show State.reset.mem.records.get r = FrameRecord.fresh from reset_record r]
  rfl

theorem reset_framesAgree : FramesAgree State.reset := by
  have unlisted : ∀ r, listings State.reset r = 0 := fun r => List.countP_eq_zero.2 fun k _ => by
    rw [show State.reset.queues.get k = freshQueues.get k from rfl, (freshQueues_get k).1]
    simp
  have unnamed : ∀ i, naming State.reset i = 0 := fun i => List.countP_eq_zero.2 fun r _ => by simp [reset_record, FrameRecord.fresh]
  refine framesAgree_iff.2 ⟨⟨reset_freeCountAgrees, ⟨?_, fun r => ?_⟩, fun r => ?_, ?_, ⟨fun q => ?_, fun q => ?_, fun r => ?_, fun r => ?_⟩,
    fun i => ?_, fun i _ => ?_, fun r named => ?_⟩, fun p r q n tx => ?_⟩
  · rw [show cellsOf State.reset.mem = fun _ => [] from funext reset_cellsOf, List.flatMap_eq_nil_iff.2 fun _ _ => rfl, List.append_nil]
    simp only [State.reset, FrameMemory.fresh]
    exact .refl _
  · rw [reset_cellsOf, reset_record]; rfl
  · rw [reset_record]; exact ⟨Nat.zero_le _, fun _ => rfl, fun _ => rfl⟩
  · unfold PlacesAgree
    simp only [reset_port]
    exact ⟨nofun, nofun, nofun, fun _ => List.nodup_nil, nofun⟩
  · rw [(reset_queue q).1]; exact List.nodup_nil
  · rw [(reset_queue q).1, (reset_queue q).2.1]; rfl
  · rw [unlisted, reset_record]; rfl
  · rw [reset_record]; exact ⟨nofun, nofun⟩
  · rw [reset_entry]; exact (unnamed i).symm
  · rw [reset_entry]; rfl
  · rw [reset_record] at named; exact absurd rfl named
  · rw [reset_port] at tx; cases tx

namespace FramesAgree

variable {s : State}

theorem modLine (h : FramesAgree s) (f : LineController → LineController) : FramesAgree (s.modLine f) :=
  (framesLike_ports rfl rfl rfl fun _ => .refl _).keeps h

/-- A change of a port unit beside its reception, its intake and its transmission. -/
theorem modPort (h : FramesAgree s) (p : Port) {f : PortUnit → PortUnit} (rx : (f (s.port p)).rx = (s.port p).rx)
    (intake : (f (s.port p)).intake = (s.port p).intake) (tx : (f (s.port p)).tx = (s.port p).tx) : FramesAgree (s.modPort p f) :=
  (framesLike_modPort (.of_eq rx intake tx)).keeps h

theorem ite {P : Prop} [Decidable P] {t : State} (h : FramesAgree s) (ht : FramesAgree t) : FramesAgree (if P then t else s) := by
  split
  · exact ht
  · exact h

theorem foldl {β : Type} {f : State → β → State} (step : ∀ s b, FramesAgree s → FramesAgree (f s b)) (l : List β) (h : FramesAgree s) :
    FramesAgree (l.foldl f s) := by
  induction l generalizing s with
  | nil => exact h
  | cons b l ih => exact ih (step s b h)

/-! ## Ports and links -/

theorem startFlush (h : FramesAgree s) (p : Port) : FramesAgree (startFlush p s) := h.modPort p rfl rfl rfl

theorem setLink (h : FramesAgree s) (p : Port) (up : Bool) : FramesAgree (setLink p up s) := h.modPort p rfl rfl rfl

theorem detachPort (h : FramesAgree s) (p : Port) : FramesAgree (detachPort p s) := frames_stills (Still.detachAll s p).path h

theorem changePort (h : FramesAgree s) (p : Port) (st : PortState) : FramesAgree (changePort p st s) := by
  have set : FramesAgree (s.modPort p (fun u => { u with state := st })) := h.modPort p rfl rfl rfl
  unfold Machine.changePort
  simp only
  split
  · exact h
  · cases st with
    | off =>
      have stopped := set.abandonReception p
      simp only
      split
      · exact (stopped.detachPort p).startFlush p
      · exact stopped.startFlush p
    | held => exact set.abandon p fun _ _ => nofun
    | up => exact set
    | down => exact set

theorem linkUp (h : FramesAgree s) (p : Port) : FramesAgree (linkUp p s) := by
  have linked : FramesAgree (Machine.setLink p true (noteLinkChange p s)) := (frames_stills (stills_noteLinkChange s p) h).setLink p true
  unfold Machine.linkUp
  simp only
  split
  · exact linked.changePort p _
  · exact linked

theorem lineUp (h : FramesAgree s) (p : Port) : FramesAgree (lineUp p s) := by
  unfold Machine.lineUp
  split
  · exact FramesAgree.linkUp (h.modLine _) p
  · exact h.modLine _

theorem carriageLinkLoss (h : FramesAgree s) (p : Port) : FramesAgree (carriageLinkLoss p s) := by
  have lost : FramesAgree (Machine.setLink p false (noteLinkChange p s)) := (frames_stills (stills_noteLinkChange s p) h).setLink p false
  unfold Machine.carriageLinkLoss
  simp only
  split
  · have down : FramesAgree ((Machine.setLink p false (noteLinkChange p s)).modPort p (fun u => { u with state := .down })) :=
      lost.modPort p rfl rfl rfl
    exact (((down.abandonReception p).abortTransmission p).detachPort p).startFlush p
  · exact lost.abortTransmission p

theorem backboneLinkLoss (h : FramesAgree s) (b : Side) : FramesAgree (backboneLinkLoss b s) := by
  have lost : FramesAgree (Machine.setLink (sidePort b) false (noteLinkChange (sidePort b) s)) :=
    (frames_stills (stills_noteLinkChange s _) h).setLink _ false
  exact frames_stills (stills_raise _ _) ((((lost.abandonReception _).abortTransmission _).emptySlot b).startFlush _)

/-! ## Resets -/

theorem powerOn (s : State) : FramesAgree (powerOn s) :=
  (framesLike_ports rfl rfl rfl fun _ => .refl _).keeps reset_framesAgree

theorem linkUpLines (h : FramesAgree s) : FramesAgree (linkUpLines s) :=
  h.foldl (fun _ p ht => ht.ite (ht.linkUp p)) _

theorem checkStraps (h : FramesAgree s) : FramesAgree (checkStraps s) := frames_stills (stills_checkStraps s) h

theorem assertReset (h : FramesAgree s) : FramesAgree (assertReset s) := by
  unfold Machine.assertReset
  split
  · exact h
  · exact ((powerOn s).modLine _).modLine _

theorem clearLinks (h : FramesAgree s) : FramesAgree (clearLinks s) := by
  have port : ∀ p, (Machine.clearLinks s).port p = { s.port p with link := false } := fun p => Tab.get_mapAll _ _ p
  exact (framesLike_ports (s := s) (t := Machine.clearLinks s) rfl rfl rfl fun p => by
    rw [port]; exact .of_eq rfl rfl rfl).keeps h

theorem releaseReset (h : FramesAgree s) (straps : BitVec 6) : FramesAgree (releaseReset straps s) := by
  unfold Machine.releaseReset
  simp only
  split
  · exact (((FramesAgree.checkStraps (h.modLine _)).modLine _).clearLinks).linkUpLines
  · exact h

theorem restartPart (h : FramesAgree s) : FramesAgree (restartPart s) := by
  unfold Machine.restartPart
  simp only
  split
  · exact (FramesAgree.checkStraps ((powerOn s).modLine _)).linkUpLines
  · exact h

/-! ## Walks -/

theorem purgeVisit (h : FramesAgree s) : FramesAgree (purgeVisit s) := by
  unfold Machine.purgeVisit
  split
  · exact h
  · split
    · exact h
    · exact frames_stills (stills_purge _ _) (h.sweepQueue _ _)

theorem flushVisit (h : FramesAgree s) (p : Port) : FramesAgree (flushVisit p s) := by
  unfold Machine.flushVisit
  simp only
  split
  · exact h
  · exact (h.flushIntake p).modPort p rfl rfl rfl
  · split
    · exact h
    · exact (h.sweepQueue _ _).modPort p rfl rfl rfl

theorem walkFinish (h : FramesAgree s) (p : Option Port) : FramesAgree (walkFinish p s) := by
  have finished : ∀ st data t, FramesAgree t → FramesAgree (finishItem st data t) := fun st data t => frames_stills (stills_finishItem t st data)
  unfold Machine.walkFinish
  split
  · exact h
  · split
    · exact h.ite (finished _ _ _ h)
    · exact h.ite (finished _ _ _ (h.ite (h.changePort _ _)))
    · exact h.ite (finished _ _ _ h)
    · exact h

theorem flushEnd (h : FramesAgree s) (p : Port) : FramesAgree (flushEnd p s) := by
  unfold Machine.flushEnd
  split
  · exact h
  · exact h.ite (FramesAgree.walkFinish (h.modPort p rfl rfl rfl) _)

theorem classVisit (h : FramesAgree s) (b : Side) : FramesAgree (classVisit b s) := by
  unfold Machine.classVisit
  split
  · exact h
  · split
    · exact frames_stills (stills_side _ b _ fun _ => id) (h.sweepQueue _ _)
    · exact h

theorem classEnd (h : FramesAgree s) (b : Side) : FramesAgree (classEnd b s) := by
  unfold Machine.classEnd
  split
  · exact h
  · exact h.ite (FramesAgree.walkFinish (frames_stills (stills_side s b _ fun _ => id) h) _)

/-! ## Items -/

theorem writeLimit (h : FramesAgree s) (q : QueueId) (v : Nat) : FramesAgree (writeLimit q v s) :=
  (framesLike_modQueue ⟨rfl, rfl⟩).keeps h

theorem writeNamedLimit (h : FramesAgree s) (p : Port) (x : QueueKind × Nat) : FramesAgree (writeNamedLimit p s x) := by
  unfold Machine.writeNamedLimit
  split
  · exact h
  · exact h.writeLimit _ _

theorem portWritten (h : FramesAgree s) (w : PortWrite) : FramesAgree (portWritten w s) := by
  unfold Machine.portWritten
  exact FramesAgree.foldl (fun t x ht => ht.writeNamedLimit w.port x) _ (h.modPort w.port rfl rfl rfl)

theorem setPortEffect (h : FramesAgree s) (w : PortWrite) : FramesAgree ((setPortEffect w s).after s) := by
  have evaluated : FramesAgree (evaluatePort w.port (Machine.portWritten w s)) := (h.portWritten w).changePort _ _
  unfold Machine.setPortEffect
  split
  · exact h
  · simp only
    split
    · split
      · exact evaluated
      · exact evaluated
    · exact h.portWritten w

theorem resetPortEffect (h : FramesAgree s) (p : Port) : FramesAgree ((resetPortEffect p s).after s) := by
  unfold Machine.resetPortEffect
  split
  · exact h
  · split
    · exact h
    · split
      · exact (h.changePort p .off).startFlush p
      · exact (h.abandonReception p).startFlush p

theorem writeIf {f : Nat → State → State} (h : FramesAgree s) (step : ∀ v, FramesAgree (f v s)) (o : Option Nat) :
    FramesAgree (writeIf o f s) := by
  cases o with
  | none => exact h
  | some v => exact step v

theorem queueWritten (h : FramesAgree s) (w : QueueWrite) : FramesAgree (queueWritten w s) := by
  have reserve : ∀ t, FramesAgree t → FramesAgree (Machine.writeIf w.reserve writeReserve t) := fun t ht =>
    ht.writeIf (fun v => frames_stills (stills_writeReserve t v) ht) _
  unfold Machine.queueWritten
  simp only
  split
  · exact reserve s h
  · next q _ =>
    refine reserve _ ?_
    have limit := h.writeIf (f := Machine.writeLimit q) (fun v => h.writeLimit q v) w.limit
    exact limit.writeIf (fun v => frames_stills (stills_writeQuantum _ _ v) limit) _

theorem readCountersEffect (h : FramesAgree s) (w : CounterGroup × Bool) : FramesAgree ((readCountersEffect w s).after s) := by
  unfold Machine.readCountersEffect
  split
  · exact h.ite (h.modPort _ rfl rfl rfl)
  · split
    · exact h
    · exact h.ite ((framesLike_modQueue ⟨rfl, rfl⟩).keeps h)
  · split
    · exact h
    · exact h.ite (frames_stills (stills_entry s _ _ (by and_intros <;> rfl)) h)
  · exact h.ite (frames_stills (stills_globals s _) h)

theorem startEffect (h : FramesAgree s) : FramesAgree ((startEffect s).after s) := by
  unfold Machine.startEffect
  split
  · rw [after_done]
    exact FramesAgree.foldl (fun t p ht => ht.changePort p _) _ (h.modLine _)
  · exact h

theorem standDownEffect (h : FramesAgree s) : FramesAgree ((standDownEffect s).after s) := by
  unfold Machine.standDownEffect
  split
  · rw [after_wait]
    refine frames_stills ((stills_startClassFlush _ .fore).trans (stills_startClassFlush _ .aft)) ?_
    exact FramesAgree.foldl (fun t p ht => ((ht.changePort p .off).flushLateIntake p).startFlush p) _ (h.modLine _)
  · exact h

theorem setLineEffect (h : FramesAgree s) (b : Side) : FramesAgree ((setLineEffect b s).after s) := by
  unfold Machine.setLineEffect
  split
  · rw [after_done]; exact h.modLine _
  · exact h

end FramesAgree

/-! ## Commands and steps -/

theorem framesAgree_exec {s t : State} {c : Instr} (h : exec c s = .next t) (hs : FramesAgree s) : FramesAgree t := by
  have next : ∀ {u : State}, (.next u : Host.Outcome State Fault Refusal) = .next t → FramesAgree u → FramesAgree t :=
    fun h agrees => by cases h; exact agrees
  have still : ∀ {u : State}, (.next u : Host.Outcome State Fault Refusal) = .next t → Stills s u → FramesAgree t :=
    fun h path => next h (frames_stills path hs)
  have item : ∀ {α : Type} {is : RawItem → Bool} {parse : List Byte → Option α} {eff : α → State → ItemEffect},
      (.next (runItem is parse eff s) : Host.Outcome State Fault Refusal) = .next t →
      (∀ ps a, parse ps = some a → FramesAgree ((eff a s).after s)) → FramesAgree t :=
    fun h agrees => next h (runItem_keeps (P := FramesAgree) frames_stills hs agrees)
  have calm : ∀ {α : Type} {is : RawItem → Bool} {parse : List Byte → Option α} {eff : α → State → ItemEffect},
      (.next (runItem is parse eff s) : Host.Outcome State Fault Refusal) = .next t →
      (∀ ps a, parse ps = some a → Stills s ((eff a s).after s)) → FramesAgree t :=
    fun h path => item h fun ps a parsed => frames_stills (path ps a parsed) hs
  have station : ∀ {r : StationRef} {k : StationIx → ItemEffect}, (∀ i, (s.entry i).state ≠ .free → Stills s ((k i).after s)) →
      Stills s ((onStation r s k).after s) := fun path => onStation_keeps (P := Stills s) .refl path
  cases c with
  | resetPinAssert => exact next h hs.assertReset
  | resetPinRelease straps => exact next h (hs.releaseReset straps)
  | carriageLinkUp p =>
    simp only [exec, execCarriageLinkUp] at h
    split at h
    · exact next h (hs.lineUp p)
    · cases h
  | carriageLinkDown p =>
    simp only [exec, execCarriageLinkDown] at h
    split at h
    · exact next h (FramesAgree.ite (hs.modLine _) ((hs.modLine _).carriageLinkLoss p))
    · cases h
  | backboneLinkUp b => exact next h (hs.lineUp (sidePort b))
  | backboneLinkDown b => exact next h (FramesAgree.ite (hs.modLine _) ((hs.modLine _).backboneLinkLoss b))
  | frameStart p => exact next h (hs.ite (hs.beginReception p))
  | cellRequest p => exact next h (hs.outgrow p)
  | frameTooLong p => exact next h (hs.abandon p fun _ _ => nofun)
  | frameEnd p bytes good =>
    refine next h ?_
    split
    · exact hs
    · exact (hs.arriveTo p _).settleFrame p bytes good
  | takeFrame => exact next h hs.takeOldest
  | transmitChoice p => exact next h (hs.choose p)
  | transmitComplete p => exact next h (hs.complete p)
  | refillTick => exact still h (path_ite (stills_refillArrives s))
  | slowTick => exact still h (path_ite (stills_slowArrives s))
  | secondsAdvance => exact still h (path_ite (stills_secondsStep s))
  | learnedExpiry i => exact still h (path_ite (stills_learnedExpiryStep s i))
  | admittedExpiry i => exact still h (path_ite (stills_admittedExpiryStep s i))
  | holdOffEnd i => exact still h (path_ite (stills_holdOffStep s i))
  | spacingEnd => exact still h (path_ite (stills_spacingStep s))
  | purgeWalkVisit => exact next h hs.purgeVisit
  | purgeWalkEnd => exact still h (stills_purgeEnd s)
  | flushWalkVisit p => exact next h (hs.flushVisit p)
  | flushWalkEnd p => exact next h (hs.flushEnd p)
  | classFlushVisit b => exact next h (hs.classVisit b)
  | classFlushEnd b => exact next h (hs.classEnd b)
  | mgmtFrameBegin => exact still h (stills_beginFrame s)
  | unknownItemCode => exact calm h fun _ _ _ => .refl
  | identify => exact calm h fun _ _ _ => .refl
  | readStatus => exact calm h fun _ _ _ => .refl
  | start => exact item h fun _ _ _ => hs.startEffect
  | standDown => exact item h fun _ _ _ => hs.standDownEffect
  | restart => exact calm h fun _ _ _ => stills_mgmt s (fun m => { m with restart := .armed }) id
  | restartEvent => exact next h hs.restartPart
  | setLine => exact item h fun _ b _ => hs.setLineEffect b
  | setTiming => exact calm h fun _ _ parsed => stills_timingWritten s (parseTiming_divisor parsed)
  | writeZoneMatch => exact calm h fun _ _ _ => .single (.aside ⟨rfl, rfl, rfl, rfl, rfl, rfl, rfl, id, id, rfl, id⟩)
  | readZoneMatch => exact calm h fun _ _ _ => .refl
  | writeProfile => exact calm h fun _ _ _ => .single (.aside ⟨rfl, rfl, rfl, rfl, rfl, rfl, rfl, id, id, rfl, id⟩)
  | readProfile => exact calm h fun _ _ _ => .refl
  | admitStation => exact calm h fun _ w _ => stills_admitEffect s w
  | barStation => exact calm h fun _ r _ => stills_barEffect s r
  | releaseStation => exact calm h fun _ _ _ => station fun _ used => stills_barEntry s used
  | setAllowance => exact calm h fun _ _ _ => station fun i _ => stills_meteredWith s i _
  | setAllowanceUnmetered => exact calm h fun _ _ _ => station fun i _ => stills_meteredWith s i _
  | topUp => exact calm h fun _ _ parsed => stills_topUpEffect s (parseTopUp_eq_some.1 parsed).2
  | unpin => exact calm h fun _ _ _ => station fun i _ => stills_entry s i _ (by and_intros <;> rfl)
  | readStation => exact calm h fun _ _ _ => station fun i _ => stills_refill s i
  | findStation => exact calm h fun _ _ _ => station fun _ _ => .refl
  | takeReports => exact calm h fun _ n _ => stills_takeReportsEffect s n
  | setPort => exact item h fun _ w _ => hs.setPortEffect w
  | resetPort => exact item h fun _ p _ => hs.resetPortEffect p
  | setQueue => exact item h fun _ w _ => hs.queueWritten w
  | readCounters => exact item h fun _ w _ => hs.readCountersEffect w
  | setNotices => exact calm h fun _ _ _ => stills_notice s _ rfl
  | retireNotices => exact calm h fun _ _ _ => stills_notice s _ rfl
  | responsePlace => exact still h (stills_placeResponse s)
  | noticeSend => exact still h (stills_sendNotice s)

theorem framesAgree_step {s t : State} (h : step s = .next t) (hs : FramesAgree s) : FramesAgree t := by
  unfold step at h
  split at h
  · cases h; exact frames_stills (stills_microsecond s) hs
  · next c rest _ =>
    have shifted : Still s { s with pending := rest } := .aside ⟨rfl, rfl, rfl, rfl, rfl, rfl, rfl, id, id, rfl, id⟩
    exact framesAgree_exec h (frames_stills shifted.path hs)

end Sys2Proof.Machine

section

open Sys2Proof Sys2Proof.Machine

/-- Settles O55: frame memory by the kinds of change, its holders operation by operation. -/
theorem stepKeepsFrameMemory : Obligations.StepKeepsFrameMemory := by
  refine ⟨fun s t memory count step => ?_, fun _ _ agrees step => framesAgree_step step agrees⟩
  exact step_keeps change_keeps_memory ⟨memory, count⟩ step

/-- Settles O54. -/
theorem invariantsHoldAtReset : Obligations.InvariantsHoldAtReset := by
  have ports : ∀ W, PortsOk W (fun _ => State.reset.line.part) State.reset := fun W => portsOk_powerOn State.reset W _
  have entry : ∀ i, (State.reset.entry i).state = .free := fun i => by rw [reset_entry]; rfl
  refine ⟨reset_memory_wf, reset_freeCountAgrees, reset_placesBounded, reset_settingsInRange, fun i => ?_,
    carriagePortsAgree_iff.2 (ports False), (carriageIntakesFlushed_iff.2 (ports True)).2, nofun,
    ⟨fun i used => absurd (entry i) used, fun i _ used => absurd (entry i) used⟩,
    attachmentsAgree_iff.2 ⟨reset_seats, attachedUp_powerOn State.reset⟩, reset_framesAgree⟩
  rw [reset_entry]
  exact freed_allowanceAgrees 0

end

/-! # The step, the ticks and the aging sweep -/

namespace Sys2Proof.Machine

open Sys2Proof

/-! ## Changes of one entry or one port -/

theorem Tab.modify_congr {α : Type} {n : Nat} {t : Tab α n} {i : Fin n} {f g : α → α} (h : f (t.get i) = g (t.get i)) :
    t.modify i f = t.modify i g := by rw [Tab.modify_eq_set, Tab.modify_eq_set, h]

theorem Tab.modify_of_fixed {α : Type} {n : Nat} {t : Tab α n} {i : Fin n} {f : α → α} (h : f (t.get i) = t.get i) :
    t.modify i f = t := (Tab.modify_congr (g := fun x => x) h).trans (Tab.modify_id t i)

theorem modEntry_congr {s : State} {i : StationIx} {f g : StationEntry → StationEntry} (h : f (s.entry i) = g (s.entry i)) :
    s.modEntry i f = s.modEntry i g := by
  unfold State.modEntry
  rw [Tab.modify_congr h]

theorem modEntry_of_fixed {s : State} {i : StationIx} {f : StationEntry → StationEntry} (h : f (s.entry i) = s.entry i) :
    s.modEntry i f = s := by
  unfold State.modEntry
  rw [Tab.modify_of_fixed h]

theorem modEntry_modEntry (s : State) (i : StationIx) (f g : StationEntry → StationEntry) :
    (s.modEntry i f).modEntry i g = s.modEntry i (fun e => g (f e)) := by simp [State.modEntry]

theorem modPort_congr {s : State} {p : Port} {f g : PortUnit → PortUnit} (h : f (s.port p) = g (s.port p)) :
    s.modPort p f = s.modPort p g := by
  unfold State.modPort
  rw [Tab.modify_congr h]

theorem modPort_of_fixed {s : State} {p : Port} {f : PortUnit → PortUnit} (h : f (s.port p) = s.port p) : s.modPort p f = s := by
  unfold State.modPort
  rw [Tab.modify_of_fixed h]

theorem modPort_modPort (s : State) (p : Port) (f g : PortUnit → PortUnit) :
    (s.modPort p f).modPort p g = s.modPort p (fun u => g (f u)) := by simp [State.modPort]

/-! ## The refill tick -/

theorem running_iff {s : State} : running s = true ↔ s.line.part ≠ .reset := by simp [running]

/-- What the refresh sweep makes of the entry at its pointer, at a refill tick (04 R66). -/
def refreshedEntry (s : State) (e : StationEntry) : StationEntry :=
  if e.state = .free then { e with lastRefill := s.time.tick + 1 }
  else refilled (s.profile (s.entry s.time.refreshPointer).profile).rates (s.time.tick + 1) e

theorem refillArrives_eq (s : State) : refillArrives s =
    { s with
      time := { s.time with
        periodCount := 0, divisor := s.time.divisorWritten.getD s.time.divisor, divisorWritten := none
        tick := s.time.tick + 1, refreshPointer := s.time.refreshPointer + 1 }
      table := { s.table with entries := s.table.entries.modify s.time.refreshPointer (refreshedEntry s) } } := by
  unfold refillArrives refreshVisit
  simp only
  split
  · next free =>
    have same : s.table.entries.modify s.time.refreshPointer (refreshedEntry s) =
        s.table.entries.modify s.time.refreshPointer (fun e => { e with lastRefill := s.time.tick + 1 }) :=
      Tab.modify_congr (if_pos free)
    rw [same]
    rfl
  · next used =>
    have same : s.table.entries.modify s.time.refreshPointer (refreshedEntry s) = s.table.entries.modify s.time.refreshPointer
        (refilled (s.profile (s.entry s.time.refreshPointer).profile).rates (s.time.tick + 1)) := Tab.modify_congr (if_neg used)
    rw [same]
    rfl

/-! ## The slow tick -/

/-- The stamp, the remainder and the seconds of a slow tick (04 R61). -/
def slowTimed (s : State) : State := { s with time := { s.time with
    ms := s.time.ms + 1, micro := 0
    msRemainder := if 1000 ≤ s.time.msRemainder + 1 then 0 else s.time.msRemainder + 1
    seconds := if 1000 ≤ s.time.msRemainder + 1 then s.time.seconds + 1 else s.time.seconds } }

theorem secondsStep_advanceMs (s : State) : secondsStep (advanceMs s) = slowTimed s := by
  unfold secondsStep advanceMs slowTimed
  simp only
  split <;> rfl

theorem decide_lt_eq_not_decide_le (a b : Nat) : decide (a < b) = !decide (b ≤ a) :=
  (decide_eq_decide.2 Nat.not_le.symm).trans decide_not

theorem spacingStep_eq (s : State) : spacingStep s = { s with notice := { s.notice with
    spacingRunning := s.notice.spacingRunning && decide ((s.time.ms - s.notice.placedAt).toNat < s.notice.spacing) } } := by
  unfold spacingStep Stamp.since
  rw [decide_lt_eq_not_decide_le]
  cases decide (s.notice.spacing ≤ (s.time.ms - s.notice.placedAt).toNat) with
  | false => rw [Bool.and_false, if_neg Bool.false_ne_true, Bool.not_false, Bool.and_true]
  | true =>
    rw [Bool.and_true, Bool.not_true, Bool.and_false]
    split
    · rfl
    · next idle => rw [← Bool.eq_false_iff.2 idle]

/-- The posting of an entry's LEARNED mark (02 R41). -/
def learnedPosted (i : StationIx) (s : State) : State :=
  match (s.entry i).learnedPending with
  | none => s
  | some p => postLearned i p s

/-- The posting of an entry's SPENT mark (02 R41). -/
def spentPosted (i : StationIx) (s : State) : State := if (s.entry i).spentPending then postSpent i s else s

/-- The posting of an entry's PINNED mark (02 R41). -/
def pinnedPosted (i : StationIx) (s : State) : State :=
  match (s.entry i).pinnedPending with
  | none => s
  | some p => postPinned i p s

theorem pendingReportsStep_eq (i : StationIx) (s : State) :
    pendingReportsStep i s = pinnedPosted i (spentPosted i (learnedPosted i s)) := rfl

/-- What an operation at one entry keeps: every other entry, and the time and length of the notice spacing. -/
structure AtEntry (i : StationIx) (s t : State) : Prop where
  others : ∀ j, j ≠ i → t.entry j = s.entry j
  placed : t.notice.placedAt = s.notice.placedAt ∧ t.notice.spacing = s.notice.spacing

namespace AtEntry

variable {i : StationIx} {s t u : State}

theorem refl : AtEntry i s s := ⟨fun _ _ => rfl, rfl, rfl⟩

theorem trans (first : AtEntry i s t) (second : AtEntry i t u) : AtEntry i s u :=
  ⟨fun j differs => (second.others j differs).trans (first.others j differs), second.placed.1.trans first.placed.1,
    second.placed.2.trans first.placed.2⟩

theorem modEntry (f : StationEntry → StationEntry) : AtEntry i s (s.modEntry i f) :=
  ⟨fun _ differs => entry_modEntry_ne s f (Ne.symm differs), rfl, rfl⟩

theorem freeEntry (s : State) : AtEntry i s (freeEntry i s) :=
  ⟨fun j differs => by rw [entry_freeEntry, if_neg (Ne.symm differs)], by simp, by simp⟩

theorem of_notice {flags : Tab SourceFlags 9} {reports : List Report} :
    AtEntry i s { s with table := { s.table with reports := reports }, notice := { s.notice with flags := flags } } :=
  ⟨fun _ _ => rfl, rfl, rfl⟩

theorem dueStep (s : State) : AtEntry i s (dueStep i s) := by
  unfold Machine.dueStep
  split
  · exact modEntry _
  · exact refl

theorem learnedExpiryStep (s : State) : AtEntry i s (learnedExpiryStep i s) := by
  unfold Machine.learnedExpiryStep
  split
  · exact freeEntry s
  · exact refl

theorem admittedExpiryStep (s : State) : AtEntry i s (admittedExpiryStep i s) := by
  have noted : AtEntry i s (addReport (expiredReport (s.entry i)) s) := of_notice
  unfold Machine.admittedExpiryStep
  split
  · split
    · exact noted.trans (freeEntry _)
    · exact of_notice
  · exact refl

theorem holdOffStep (s : State) : AtEntry i s (holdOffStep i s) := by
  unfold Machine.holdOffStep
  split
  · exact modEntry _
  · exact refl

theorem flapDecayStep (s : State) : AtEntry i s (flapDecayStep i s) := by
  unfold Machine.flapDecayStep
  split
  · exact refl
  · exact modEntry _

theorem learnedPosted (s : State) : AtEntry i s (learnedPosted i s) := by
  unfold Machine.learnedPosted
  split
  · exact refl
  · rw [postLearned_eq]
    exact ⟨fun _ differs => Tab.get_modify_ne _ _ (Ne.symm differs), rfl, rfl⟩

theorem spentPosted (s : State) : AtEntry i s (spentPosted i s) := by
  unfold Machine.spentPosted
  split
  · rw [postSpent_eq]
    exact ⟨fun _ differs => Tab.get_modify_ne _ _ (Ne.symm differs), rfl, rfl⟩
  · exact refl

theorem pinnedPosted (s : State) : AtEntry i s (pinnedPosted i s) := by
  unfold Machine.pinnedPosted
  split
  · exact refl
  · rw [postPinned_eq]
    exact ⟨fun _ differs => Tab.get_modify_ne _ _ (Ne.symm differs), rfl, rfl⟩

theorem visitWay (s : State) : AtEntry i s (visitWay s i) := by
  unfold Machine.visitWay
  split
  · exact refl
  · have aged := ((dueStep s).trans (learnedExpiryStep (i := i) _)).trans (admittedExpiryStep _)
    simp only
    split
    · exact aged
    · rw [pendingReportsStep_eq]
      exact ((((aged.trans (holdOffStep _)).trans (flapDecayStep _)).trans (learnedPosted _)).trans (spentPosted _)).trans
        (pinnedPosted _)

end AtEntry

theorem foldl_visitWay_notice (l : List StationIx) (s : State) :
    (l.foldl visitWay s).notice.placedAt = s.notice.placedAt ∧ (l.foldl visitWay s).notice.spacing = s.notice.spacing := by
  induction l generalizing s with
  | nil => exact ⟨rfl, rfl⟩
  | cons i l ih =>
    have placed := (AtEntry.visitWay (i := i) s).placed
    exact ⟨(ih _).1.trans placed.1, (ih _).2.trans placed.2⟩

theorem foldl_visitWay_time (l : List StationIx) (s : State) : (l.foldl visitWay s).time = s.time := by
  induction l generalizing s with
  | nil => rfl
  | cons i l ih => rw [List.foldl_cons, ih]; simp

theorem slowArrives_eq (s : State) : slowArrives s = { (waysOf s.table.agingPointer).foldl visitWay (slowTimed s) with
      table := { ((waysOf s.table.agingPointer).foldl visitWay (slowTimed s)).table with
        agingPointer := s.table.agingPointer + 1 }
      notice := { ((waysOf s.table.agingPointer).foldl visitWay (slowTimed s)).notice with
        spacingRunning := ((waysOf s.table.agingPointer).foldl visitWay (slowTimed s)).notice.spacingRunning &&
          decide (((slowTimed s).time.ms - s.notice.placedAt).toNat < s.notice.spacing) } } := by
  have timed := foldl_visitWay_time (waysOf s.table.agingPointer) (slowTimed s)
  have placed := foldl_visitWay_notice (waysOf s.table.agingPointer) (slowTimed s)
  rw [slowArrives, secondsStep_advanceMs, spacingStep_eq, agingVisit]
  simp only [show (slowTimed s).table = s.table from rfl]
  generalize (waysOf s.table.agingPointer).foldl visitWay (slowTimed s) = visited at timed placed ⊢
  rw [timed, placed.1, placed.2]
  rfl

theorem foldl_visitWay_entry {l : List StationIx} {j : StationIx} (other : j ∉ l) (s : State) :
    (l.foldl visitWay s).entry j = s.entry j := by
  induction l generalizing s with
  | nil => rfl
  | cons i l ih =>
    obtain ⟨differs, other⟩ := not_or.1 fun h => other (List.mem_cons.2 h)
    rw [List.foldl_cons, ih other]
    exact (AtEntry.visitWay s).others j differs

end Sys2Proof.Machine

section

open Sys2Proof Sys2Proof.Machine

/-- Settles O1: the step's own equation for a waiting command. -/
theorem stepRunsFrontCommand : Obligations.StepRunsFrontCommand := by
  intro c s rest front
  rw [step, front]

/-- Settles O29. -/
theorem refillTickTaken : Obligations.RefillTickTaken := by
  refine fun s => ⟨fun reset => ?_, fun out => ?_⟩
  · show Host.Outcome.next (if running s then _ else s) = _
    rw [if_neg fun h => running_iff.1 h reset]
  · show Host.Outcome.next (if running s then refillArrives s else s) = _
    rw [if_pos (running_iff.2 out), refillArrives_eq]
    rfl

/-- Settles O30. -/
theorem slowTickTaken : Obligations.SlowTickTaken := by
  intro s out time visited
  have seen : visited = (waysOf s.table.agingPointer).foldl visitWay (slowTimed s) := rfl
  refine ⟨?_, ?_, fun i other => ?_⟩
  · show Host.Outcome.next (if running s then slowArrives s else s) = _
    rw [if_pos (running_iff.2 out), slowArrives_eq, ← seen]
    clear_value visited
    rfl
  · rw [seen]; exact foldl_visitWay_time _ (slowTimed s)
  · rw [seen]; exact foldl_visitWay_entry (fun mem => other (mem_waysOf.1 mem)) (slowTimed s)

end

/-! # The aging visit of one way, step by step -/

namespace Sys2Proof.Machine

open Sys2Proof

/-! ## The steps of a visit as changes of the entry -/

theorem idleOut_eq (i : StationIx) (s : State) : idleOut i s =
    ((decide ((s.entry i).state = .learned) && decide (s.table.learnedLimit ≤ (s.time.seconds - (s.entry i).lastSeen).toNat)) ||
      (decide ((s.entry i).state = .admitted) && decide (s.table.admittedLimit ≤ (s.time.seconds - (s.entry i).lastSeen).toNat))) := by
  unfold idleOut Stamp.since
  cases (s.entry i).state <;> simp only [decide_true, decide_false, reduceCtorEq, Bool.true_and, Bool.false_and, Bool.or_false,
    Bool.false_or]

/-- Expiry due once step 2 of a visit is done (02 R36). -/
def dueAfter (i : StationIx) (s : State) : Bool := (s.entry i).expiryDue || idleOut i s

theorem dueStep_eq (i : StationIx) (s : State) : dueStep i s = s.modEntry i (fun x => { x with expiryDue := dueAfter i s }) := by
  unfold dueStep dueAfter
  split
  · next idle => rw [idle, Bool.or_true]
  · next idle =>
    rw [Bool.eq_false_iff.2 idle, Bool.or_false]
    exact (modEntry_of_fixed rfl).symm

/-- Recently moved once step 4 of a visit is done (05 R87). -/
def StationEntry.stillMoved (holdOff : Nat) (now : Stamp) (e : StationEntry) : Bool :=
  e.recentlyMoved && decide ((now - e.movedAt).toNat < holdOff)

theorem holdOffStep_eq (i : StationIx) (s : State) :
    holdOffStep i s = s.modEntry i (fun x => { x with recentlyMoved := x.stillMoved s.roam.holdOff s.time.ms }) := by
  unfold holdOffStep StationEntry.stillMoved Stamp.since
  simp only [decide_lt_eq_not_decide_le]
  split
  · next ended =>
    obtain ⟨moved, passed⟩ := Bool.and_eq_true_iff.1 ended
    refine modEntry_congr ?_
    simp only [passed, Bool.not_true, Bool.and_false]
  · next not =>
    have same : ∀ a b : Bool, ¬ (a && b) = true → (a && !b) = a := by decide
    exact (modEntry_of_fixed (by simp only [same _ _ not])).symm

theorem flapDecayStep_eq (i : StationIx) (s : State) : flapDecayStep i s =
    s.modEntry i (fun x => { x with flapCount := if x.recentlyMoved then x.flapCount else x.flapCount - 1 }) := by
  unfold flapDecayStep
  split
  · next moved => exact (modEntry_of_fixed (by simp only [if_pos moved])).symm
  · next settled => exact modEntry_congr (by simp only [settled, if_false, Bool.false_eq_true])

/-- An entry that stays, after steps 2, 4 and 5 of a visit. -/
def settledEntry (s : State) (i : StationIx) (x : StationEntry) : StationEntry :=
  { x with
    expiryDue := dueAfter i s, recentlyMoved := (s.entry i).stillMoved s.roam.holdOff s.time.ms
    flapCount := if (s.entry i).stillMoved s.roam.holdOff s.time.ms then x.flapCount else x.flapCount - 1 }

theorem settled_dueStep (s : State) (i : StationIx) :
    flapDecayStep i (holdOffStep i (dueStep i s)) = s.modEntry i (settledEntry s i) := by
  rw [flapDecayStep_eq, holdOffStep_eq, dueStep_eq, modEntry_modEntry, modEntry_modEntry]
  exact modEntry_congr rfl

theorem expires_dueStep (st : EntryState) (i : StationIx) (s : State) : expires st i (dueStep i s) =
    (decide ((s.entry i).state = st) && dueAfter i s && decide ((s.entry i).heldCount = 0)) := by
  rw [expires, dueStep_eq, entry_modEntry_self]

theorem state_dueStep (i : StationIx) (s : State) : ((dueStep i s).entry i).state = (s.entry i).state := by
  rw [dueStep_eq, entry_modEntry_self]

theorem expires_freeEntry (st : EntryState) (used : st ≠ .free) (i : StationIx) (s : State) : expires st i (freeEntry i s) = false := by
  rw [expires, entry_freeEntry, if_pos rfl]
  simp [StationEntry.freed, Ne.symm used]

theorem visitWay_free {s : State} {i : StationIx} (free : (s.entry i).state = .free) : visitWay s i = s := if_pos free

/-- The visit of a used way, by its expiry steps. -/
theorem visitWay_used {s : State} {i : StationIx} (used : (s.entry i).state ≠ .free) : visitWay s i =
    if ((admittedExpiryStep i (learnedExpiryStep i (dueStep i s))).entry i).state = .free
    then admittedExpiryStep i (learnedExpiryStep i (dueStep i s))
    else pendingReportsStep i (flapDecayStep i (holdOffStep i (admittedExpiryStep i (learnedExpiryStep i (dueStep i s))))) :=
  if_neg used

/-- A way that no expiry step frees. -/
theorem visitWay_stays {s : State} {i : StationIx} (used : (s.entry i).state ≠ .free)
    (stays : dueAfter i s = false ∨ (s.entry i).heldCount ≠ 0 ∨ (s.entry i).state = .barred) :
    visitWay s i = pendingReportsStep i (s.modEntry i (settledEntry s i)) := by
  have unexpired : ∀ st, st ≠ .barred → expires st i (dueStep i s) = false := fun st other => by
    rw [expires_dueStep]
    rcases stays with due | held | barred
    · rw [due, Bool.and_false, Bool.false_and]
    · rw [decide_eq_false held, Bool.and_false]
    · rw [barred, decide_eq_false (Ne.symm other), Bool.false_and, Bool.false_and]
  have learned : learnedExpiryStep i (dueStep i s) = dueStep i s := by
    rw [learnedExpiryStep, unexpired .learned nofun, if_neg Bool.false_ne_true]
  have admitted : admittedExpiryStep i (dueStep i s) = dueStep i s := by
    rw [admittedExpiryStep, unexpired .admitted nofun, if_neg Bool.false_ne_true]
  rw [visitWay_used used, learned, admitted, if_neg (by rw [state_dueStep]; exact used), settled_dueStep]

/-- A due LEARNED way that no frame holds is freed (02 R38). -/
theorem visitWay_learned {s : State} {i : StationIx} (learned : (s.entry i).state = .learned) (due : dueAfter i s = true)
    (held : (s.entry i).heldCount = 0) : visitWay s i = learnedExpiryStep i (dueStep i s) := by
  have expired : learnedExpiryStep i (dueStep i s) = freeEntry i (dueStep i s) := by
    rw [learnedExpiryStep, expires_dueStep, learned, due, held]; rfl
  have freed : ((freeEntry i (dueStep i s)).entry i).state = .free := by rw [entry_freeEntry, if_pos rfl]; rfl
  have kept : admittedExpiryStep i (freeEntry i (dueStep i s)) = freeEntry i (dueStep i s) := by
    rw [admittedExpiryStep, expires_freeEntry .admitted nofun, if_neg Bool.false_ne_true]
  rw [visitWay_used (by rw [learned]; nofun), expired, kept, if_pos freed]

/-- The expiry steps of a due ADMITTED way that no frame holds (02 R39). -/
theorem expiry_admitted {s : State} {i : StationIx} (admitted : (s.entry i).state = .admitted) :
    learnedExpiryStep i (dueStep i s) = dueStep i s := by
  rw [learnedExpiryStep, expires_dueStep, admitted]; rfl

theorem expires_admitted {s : State} {i : StationIx} (admitted : (s.entry i).state = .admitted) (due : dueAfter i s = true)
    (held : (s.entry i).heldCount = 0) : expires .admitted i (dueStep i s) = true := by
  rw [expires_dueStep, admitted, due, held]; rfl

theorem reportRoom_dueStep (i : StationIx) (s : State) : reportRoom (dueStep i s) = decide (s.table.reports.length < 48) := by
  rw [dueStep_eq]; rfl

theorem visitWay_admitted {s : State} {i : StationIx} (admitted : (s.entry i).state = .admitted) (due : dueAfter i s = true)
    (held : (s.entry i).heldCount = 0) (room : s.table.reports.length < 48) :
    visitWay s i = admittedExpiryStep i (dueStep i s) := by
  have expired : admittedExpiryStep i (dueStep i s) =
      freeEntry i (addReport (expiredReport ((dueStep i s).entry i)) (dueStep i s)) := by
    rw [admittedExpiryStep, expires_admitted admitted due held, if_pos rfl, reportRoom_dueStep, decide_eq_true room, if_pos rfl]
  have freed : ((admittedExpiryStep i (dueStep i s)).entry i).state = .free := by
    rw [expired, entry_freeEntry, if_pos rfl]; rfl
  rw [visitWay_used (by rw [admitted]; nofun), expiry_admitted admitted, if_pos freed]

/-- With the report queue full a due ADMITTED way stays, and REPORT_BACKLOG becomes pending (02 R39). -/
theorem visitWay_backlog {s : State} {i : StationIx} (admitted : (s.entry i).state = .admitted) (due : dueAfter i s = true)
    (held : (s.entry i).heldCount = 0) (full : 48 ≤ s.table.reports.length) :
    visitWay s i = pendingReportsStep i (raise .reportBacklog (s.modEntry i (settledEntry s i))) := by
  have stays : admittedExpiryStep i (dueStep i s) = raise .reportBacklog (dueStep i s) := by
    rw [admittedExpiryStep, expires_admitted admitted due held, if_pos rfl, reportRoom_dueStep, decide_eq_false (by omega),
      if_neg Bool.false_ne_true]
  have used : ((raise .reportBacklog (dueStep i s)).entry i).state ≠ .free := by
    rw [show (raise .reportBacklog (dueStep i s)).entry i = (dueStep i s).entry i from rfl, state_dueStep, admitted]; nofun
  have raised : flapDecayStep i (holdOffStep i (raise .reportBacklog (dueStep i s))) =
      raise .reportBacklog (flapDecayStep i (holdOffStep i (dueStep i s))) := by
    simp only [flapDecayStep_eq, holdOffStep_eq]; rfl
  rw [visitWay_used (by rw [admitted]; nofun), expiry_admitted admitted, stays, if_neg used, raised, settled_dueStep]

/-! ## The posting of pending reports -/

/-- The source flags once reports have been posted, and once some have found no room (02 R41). -/
def flagsNoted (posted dropped : Bool) (flags : Tab SourceFlags 9) : Tab SourceFlags 9 :=
  let shown := if posted then flags.modify (sourceIx .reports) (fun f => { f with pending := true }) else flags
  if dropped then shown.modify (sourceIx .reportBacklog) (fun f => { f with pending := true }) else shown

theorem get_raised (b : Bool) (flags : Tab SourceFlags 9) (j k : Fin 9) :
    (if b then flags.modify j (fun f => { f with pending := true }) else flags).get k =
      { flags.get k with pending := (flags.get k).pending || (b && decide (j = k)) } := by
  cases b with
  | false => simp
  | true =>
    rw [if_pos rfl, Tab.get_modify]
    split
    · next same => simp [same]
    · next differs => simp [differs]

theorem flagsNoted_get (p d : Bool) (flags : Tab SourceFlags 9) (k : Fin 9) : (flagsNoted p d flags).get k = { flags.get k with
    pending := (flags.get k).pending || (p && decide (sourceIx .reports = k)) || (d && decide (sourceIx .reportBacklog = k)) } := by
  rw [flagsNoted, get_raised, get_raised]

theorem flagsNoted_flagsNoted (p d p' d' : Bool) (flags : Tab SourceFlags 9) :
    flagsNoted p' d' (flagsNoted p d flags) = flagsNoted (p || p') (d || d') flags := by
  refine Tab.ext_get fun k => ?_
  rw [flagsNoted_get, flagsNoted_get, flagsNoted_get, Bool.and_or_distrib_right, Bool.and_or_distrib_right]
  simp only [SourceFlags.mk.injEq, true_and, and_true]
  ac_rfl

theorem not_isEmpty_append (a b : List Report) : (!(a ++ b).isEmpty) = (!a.isEmpty || !b.isEmpty) := by cases a <;> rfl

/-- The places left in the report queue (02 R41). -/
def reportPlaces (s : State) : Nat := 48 - s.table.reports.length

/-- Reports of an entry posted while there is room, with what that makes of the entry (02 R41). -/
def postedReports (i : StationIx) (posts : List Report) (f : StationEntry → StationEntry) (s : State) : State :=
  { s with
    table := { s.table with
      entries := s.table.entries.modify i f
      reports := s.table.reports ++ posts.take (reportPlaces s) }
    notice := { s.notice with
      flags := flagsNoted (!(posts.take (reportPlaces s)).isEmpty) (!(posts.drop (reportPlaces s)).isEmpty) s.notice.flags } }

theorem postedReports_entry (i : StationIx) (posts : List Report) (f : StationEntry → StationEntry) (s : State) :
    (postedReports i posts f s).entry i = f (s.entry i) := Tab.get_modify_self _ _ _

theorem reportPlaces_postedReports (i : StationIx) (posts : List Report) (f : StationEntry → StationEntry) (s : State) :
    reportPlaces (postedReports i posts f s) = reportPlaces s - posts.length := by
  show 48 - (s.table.reports ++ posts.take (48 - s.table.reports.length)).length = 48 - s.table.reports.length - posts.length
  rw [List.length_append, List.length_take]
  omega

theorem postedReports_postedReports (i : StationIx) (a b : List Report) (f g : StationEntry → StationEntry) (s : State) :
    postedReports i b g (postedReports i a f s) = postedReports i (a ++ b) (fun x => g (f x)) s := by
  have places := reportPlaces_postedReports i a f s
  have reports : (s.table.reports ++ a.take (reportPlaces s)) ++ b.take (reportPlaces s - a.length) =
      s.table.reports ++ (a ++ b).take (reportPlaces s) := by rw [List.take_append, List.append_assoc]
  have flags : flagsNoted (!(b.take (reportPlaces s - a.length)).isEmpty) (!(b.drop (reportPlaces s - a.length)).isEmpty)
      (flagsNoted (!(a.take (reportPlaces s)).isEmpty) (!(a.drop (reportPlaces s)).isEmpty) s.notice.flags) =
      flagsNoted (!((a ++ b).take (reportPlaces s)).isEmpty) (!((a ++ b).drop (reportPlaces s)).isEmpty) s.notice.flags := by
    rw [flagsNoted_flagsNoted, List.take_append, List.drop_append, not_isEmpty_append, not_isEmpty_append]
  unfold postedReports at places ⊢
  simp only [places, Tab.modify_modify, reports, flags]

/-! One pending mark -/

theorem postedReports_nil {i : StationIx} {f : StationEntry → StationEntry} {s : State} (same : f (s.entry i) = s.entry i) :
    postedReports i [] f s = s := by
  simp only [postedReports, Tab.modify_of_fixed (show f (s.table.entries.get i) = _ from same), List.take_nil, List.drop_nil,
    List.append_nil, List.isEmpty_nil, Bool.not_true, flagsNoted, if_false, Bool.false_eq_true]

/-- The report of a mark posted, or the mark kept for want of room. -/
theorem postedReports_singleton (i : StationIx) (x : Report) (f : StationEntry → StationEntry) (s : State) : postedReports i [x] f s =
    { s with
      table := { s.table with
        entries := s.table.entries.modify i f
        reports := s.table.reports ++ (if s.table.reports.length < 48 then [x] else []) }
      notice := { s.notice with
        flags := s.notice.flags.modify (sourceIx (if s.table.reports.length < 48 then .reports else .reportBacklog))
          (fun f => { f with pending := true }) } } := by
  unfold postedReports reportPlaces
  by_cases room : s.table.reports.length < 48
  · obtain ⟨n, places⟩ := Nat.exists_eq_add_of_lt room
    rw [show 48 - s.table.reports.length = n + 1 by omega, if_pos room, if_pos room, List.take_succ_cons, List.drop_succ_cons,
      List.take_nil, List.drop_nil]
    rfl
  · rw [show 48 - s.table.reports.length = 0 by omega, if_neg room, if_neg room]
    rfl

/-- An entry whose LEARNED mark has been posted. -/
def learnedCleared (room : Nat) (x : StationEntry) : StationEntry :=
  { x with learnedPending := if 0 < room then none else x.learnedPending }

/-- The LEARNED report of an entry whose mark is set. -/
def learnedReports (i : StationIx) (e : StationEntry) : List Report :=
  match e.learnedPending with
  | none => []
  | some p => [.learned i e.addr p]

theorem learnedPosted_eq (i : StationIx) (s : State) :
    learnedPosted i s = postedReports i (learnedReports i (s.entry i)) (learnedCleared (reportPlaces s)) s := by
  unfold learnedPosted learnedReports
  cases mark : (s.entry i).learnedPending with
  | none =>
    have kept : (if 0 < reportPlaces s then none else (s.entry i).learnedPending) = (s.entry i).learnedPending := by rw [mark, ite_self]
    exact (postedReports_nil (by simp only [learnedCleared, kept])).symm
  | some p =>
    simp only
    rw [postLearned_eq, postedReports_singleton]
    have cleared : s.table.entries.modify i (fun e => { e with
        learnedPending := if s.table.reports.length < 48 then none else some p }) =
        s.table.entries.modify i (learnedCleared (reportPlaces s)) := by
      refine Tab.modify_congr ?_
      simp only [learnedCleared, reportPlaces, Nat.sub_pos_iff_lt, show (s.table.entries.get i).learnedPending = _ from mark]
    rw [cleared]

/-- An entry whose SPENT mark has been posted. -/
def spentCleared (room : Nat) (x : StationEntry) : StationEntry := { x with spentPending := x.spentPending && !decide (0 < room) }

/-- The SPENT report of an entry whose mark is set. -/
def spentReports (i : StationIx) (e : StationEntry) : List Report := if e.spentPending then [.spent i e.addr] else []

theorem spentPosted_eq (i : StationIx) (s : State) :
    spentPosted i s = postedReports i (spentReports i (s.entry i)) (spentCleared (reportPlaces s)) s := by
  unfold spentPosted spentReports
  by_cases mark : (s.entry i).spentPending = true
  · rw [if_pos mark, if_pos mark, postSpent_eq, postedReports_singleton]
    have cleared : s.table.entries.modify i (fun e => { e with spentPending := decide (48 ≤ s.table.reports.length) }) =
        s.table.entries.modify i (spentCleared (reportPlaces s)) := by
      refine Tab.modify_congr ?_
      simp only [spentCleared, reportPlaces, Nat.sub_pos_iff_lt, show (s.table.entries.get i).spentPending = _ from mark,
        decide_lt_eq_not_decide_le, Bool.not_not, Bool.true_and]
    rw [cleared]
  · rw [if_neg mark, if_neg mark]
    have kept : ((s.entry i).spentPending && !decide (0 < reportPlaces s)) = (s.entry i).spentPending := by
      rw [Bool.eq_false_iff.2 mark, Bool.false_and]
    exact (postedReports_nil (by simp only [spentCleared, kept])).symm

/-- An entry whose PINNED mark has been posted. -/
def pinnedCleared (room : Nat) (x : StationEntry) : StationEntry := { x with pinnedPending := if 0 < room then none else x.pinnedPending }

/-- The PINNED report of an entry whose mark is set. -/
def pinnedReports (i : StationIx) (e : StationEntry) : List Report :=
  match e.pinnedPending with
  | none => []
  | some p => [.pinned i e.addr p]

theorem pinnedPosted_eq (i : StationIx) (s : State) :
    pinnedPosted i s = postedReports i (pinnedReports i (s.entry i)) (pinnedCleared (reportPlaces s)) s := by
  unfold pinnedPosted pinnedReports
  cases mark : (s.entry i).pinnedPending with
  | none =>
    have kept : (if 0 < reportPlaces s then none else (s.entry i).pinnedPending) = (s.entry i).pinnedPending := by rw [mark, ite_self]
    exact (postedReports_nil (by simp only [pinnedCleared, kept])).symm
  | some p =>
    simp only
    rw [postPinned_eq, postedReports_singleton]
    have cleared : s.table.entries.modify i (fun e => { e with
        pinnedPending := if s.table.reports.length < 48 then none else some p }) =
        s.table.entries.modify i (pinnedCleared (reportPlaces s)) := by
      refine Tab.modify_congr ?_
      simp only [pinnedCleared, reportPlaces, Nat.sub_pos_iff_lt, show (s.table.entries.get i).pinnedPending = _ from mark]
    rw [cleared]

/-- All reports of an entry whose marks are set, in the order in which they are posted. -/
def pendingReports (i : StationIx) (e : StationEntry) : List Report := learnedReports i e ++ spentReports i e ++ pinnedReports i e

/-- What the posting of an entry's marks makes of it. -/
def marksCleared (room : Nat) (e : StationEntry) (x : StationEntry) : StationEntry :=
  pinnedCleared (room - (if e.learnedPending.isSome then 1 else 0) - (if e.spentPending then 1 else 0))
    (spentCleared (room - (if e.learnedPending.isSome then 1 else 0)) (learnedCleared room x))

theorem length_learnedReports (i : StationIx) (e : StationEntry) :
    (learnedReports i e).length = if e.learnedPending.isSome then 1 else 0 := by
  unfold learnedReports
  split <;> simp_all

theorem length_spentReports (i : StationIx) (e : StationEntry) : (spentReports i e).length = if e.spentPending then 1 else 0 := by
  unfold spentReports
  split <;> rfl

theorem pendingReportsStep_posted (i : StationIx) (s : State) : pendingReportsStep i s =
    postedReports i (pendingReports i (s.entry i)) (marksCleared (reportPlaces s) (s.entry i)) s := by
  rw [pendingReportsStep_eq, learnedPosted_eq, spentPosted_eq, postedReports_entry, reportPlaces_postedReports, length_learnedReports,
    postedReports_postedReports, pinnedPosted_eq, postedReports_entry, reportPlaces_postedReports, postedReports_postedReports,
    List.length_append, length_learnedReports]
  have spent : spentReports i (learnedCleared (reportPlaces s) (s.entry i)) = spentReports i (s.entry i) := rfl
  rw [spent, length_spentReports, ← Nat.sub_sub]
  rfl

/-- An entry after the posting of its marks: each mark goes while the marks before it leave room (02 R41). -/
def marksPosted (room : Nat) (x : StationEntry) : StationEntry :=
  { x with
    learnedPending := if 0 < room then none else x.learnedPending
    spentPending := x.spentPending && !decide ([x.learnedPending.isSome].countP (fun b => b) < room)
    pinnedPending := if [x.learnedPending.isSome, x.spentPending].countP (fun b => b) < room then none else x.pinnedPending }

theorem marksCleared_self (room : Nat) (e : StationEntry) : marksCleared room e e = marksPosted room e := by
  simp only [marksCleared, marksPosted, pinnedCleared, spentCleared, learnedCleared, List.countP_cons, List.countP_nil,
    Nat.sub_pos_iff_lt, Nat.sub_sub, Nat.zero_add]
  rw [Nat.add_comm (if e.spentPending = true then 1 else 0)]

theorem isEmpty_ite {α β : Type} (l : List α) (a b : β) : (if (!l.isEmpty) = true then b else a) = if l = [] then a else b := by
  cases l <;> rfl

/-- The posting of an entry's marks, all fields (02 R41). -/
theorem pendingReportsStep_eq_posted (i : StationIx) (s : State) : pendingReportsStep i s =
    { s with
      table := { s.table with
        entries := s.table.entries.modify i (marksPosted (reportPlaces s))
        reports := s.table.reports ++ (pendingReports i (s.entry i)).take (reportPlaces s) }
      notice := { s.notice with
        flags :=
          let shown := if (pendingReports i (s.entry i)).take (reportPlaces s) = [] then s.notice.flags
            else s.notice.flags.modify (sourceIx .reports) (fun f => { f with pending := true })
          if (pendingReports i (s.entry i)).drop (reportPlaces s) = [] then shown
          else shown.modify (sourceIx .reportBacklog) (fun f => { f with pending := true }) } } := by
  have cleared : s.table.entries.modify i (marksCleared (reportPlaces s) (s.entry i)) =
      s.table.entries.modify i (marksPosted (reportPlaces s)) := Tab.modify_congr (marksCleared_self _ _)
  rw [pendingReportsStep_posted, postedReports, cleared]
  simp only [flagsNoted, isEmpty_ite]

theorem length_pendingReports_le (i : StationIx) (e : StationEntry) : (pendingReports i e).length ≤ 3 := by
  have one : (pinnedReports i e).length ≤ 1 := by unfold pinnedReports; split <;> simp
  rw [pendingReports, List.length_append, List.length_append, length_learnedReports, length_spentReports]
  split <;> split <;> omega

theorem marksPosted_of_room {room : Nat} (room3 : 3 ≤ room) (x : StationEntry) :
    marksPosted room x = { x with learnedPending := none, spentPending := false, pinnedPending := none } := by
  have bound : ∀ l : List Bool, l.length ≤ 2 → l.countP (fun b => b) < room := fun l short =>
    Nat.lt_of_le_of_lt List.countP_le_length (by omega)
  unfold marksPosted
  rw [if_pos (by omega), decide_eq_true (bound _ (by simp)), if_pos (bound _ (by simp)), Bool.not_true, Bool.and_false]

theorem marksPosted_zero (x : StationEntry) : marksPosted 0 x = x := by
  simp [marksPosted]

end Sys2Proof.Machine

section

open Sys2Proof Sys2Proof.Machine

/-- Settles O31: the visit by what expires, the reports by the posting of each mark. -/
theorem agingVisitsWay : Obligations.AgingVisitsWay := by
  refine ⟨fun s i => ?_, fun s i => ?_⟩
  · have due : ((s.entry i).expiryDue || (decide ((s.entry i).state = .learned) &&
          decide (s.table.learnedLimit ≤ (s.time.seconds - (s.entry i).lastSeen).toNat))
        || (decide ((s.entry i).state = .admitted) &&
          decide (s.table.admittedLimit ≤ (s.time.seconds - (s.entry i).lastSeen).toNat))) = dueAfter i s := by
      rw [dueAfter, idleOut_eq, Bool.or_assoc]
    simp only [due]
    have settled : s.modEntry i (settledEntry s i) = { s with
        table := { s.table with entries := s.table.entries.modify i (settledEntry s i) } } := rfl
    have marked : dueAfter i s = true → dueStep i s = s.modEntry i (fun x => { x with expiryDue := true }) := fun h => by
      rw [dueStep_eq, h]
    refine ⟨visitWay_free, fun learned h held => ?_, fun admitted h held room => ?_, fun used stays => ?_,
      fun admitted h held full => ?_, fun used stays noLearned noSpent noPinned => ?_⟩
    · rw [← marked h]; exact visitWay_learned learned h held
    · rw [← marked h]; exact visitWay_admitted admitted h held room
    · exact visitWay_stays used stays
    · exact visitWay_backlog admitted h held full
    · rw [visitWay_stays used stays, pendingReportsStep_posted, entry_modEntry_self]
      have none : pendingReports i (settledEntry s i (s.entry i)) = [] := by
        simp [pendingReports, learnedReports, spentReports, pinnedReports, settledEntry, noLearned, noSpent, noPinned]
      rw [none]
      refine (postedReports_nil ?_).trans rfl
      rw [entry_modEntry_self]
      simp [marksCleared, learnedCleared, spentCleared, pinnedCleared, settledEntry, noLearned, noSpent, noPinned]
  · intro e posts pending
    refine ⟨fun roomy => ?_, fun full => ?_, pendingReportsStep_eq_posted i s⟩
    · have short : (pendingReports i (s.entry i)).length ≤ reportPlaces s :=
        (length_pendingReports_le i _).trans (by unfold reportPlaces; omega)
      rw [pendingReportsStep_eq_posted, List.take_of_length_le short, List.drop_of_length_le short,
        funext (marksPosted_of_room (room := reportPlaces s) (by unfold reportPlaces; omega))]
      rfl
    · rw [pendingReportsStep_eq_posted, show reportPlaces s = 0 by unfold reportPlaces; omega, List.take_zero, List.drop_zero,
        List.append_nil, Tab.modify_of_fixed (marksPosted_zero _)]
      rfl

end

/-! # The parts of a slow tick, and the microsecond -/

namespace Sys2Proof.Machine

open Sys2Proof

/-! ## Freeing an entry -/

/-- The ports once the station of an entry is detached: a seat port's count has fallen by one (05 R91). -/
def seatLeft (attachment : Option Port) (ports : Tab PortUnit 58) : Tab PortUnit 58 :=
  match attachment with
  | none => ports
  | some p => if 10 ≤ p.val then ports.modify p (fun u => { u with seatCount := u.seatCount - 1 }) else ports

theorem detachStation_eq (i : StationIx) (s : State) : detachStation i s = { s with
    ports := seatLeft (s.entry i).attachment s.ports
    table := { s.table with entries := s.table.entries.modify i (fun e => { e with attachment := none }) } } := by
  cases attached : (s.entry i).attachment with
  | none =>
    have kept : s.table.entries.modify i (fun e => { e with attachment := none }) = s.table.entries :=
      Tab.modify_of_fixed (by rw [show s.table.entries.get i = s.entry i from rfl, ← attached])
    rw [detachStation_none attached, kept]
    rfl
  | some p => rw [detachStation_some attached, modSeatCount_eq]; rfl

theorem freeEntry_eq (i : StationIx) (s : State) : freeEntry i s = { s with
    ports := seatLeft (s.entry i).attachment s.ports
    table := { s.table with entries := s.table.entries.set i (StationEntry.freed (s.entry i).lastRefill) } } := by
  rw [freeEntry, detachStation_eq]
  simp only [State.modEntry, Tab.modify_modify]
  rw [Tab.modify_eq_set]
  rfl

theorem expires_iff {st : EntryState} {i : StationIx} {s : State} : expires st i s = true ↔
    (s.entry i).state = st ∧ (s.entry i).expiryDue = true ∧ (s.entry i).heldCount = 0 := by
  simp only [expires, Bool.and_eq_true, decide_eq_true_eq, and_assoc]

/-! ## The microsecond -/

theorem slowArrives_time (s : State) : (slowArrives s).time = (slowTimed s).time := by
  have timed := foldl_visitWay_time (waysOf s.table.agingPointer) (slowTimed s)
  rw [slowArrives_eq]
  generalize (waysOf s.table.agingPointer).foldl visitWay (slowTimed s) = visited at timed ⊢
  exact timed

theorem slowArrives_agingPointer (s : State) : (slowArrives s).table.agingPointer = s.table.agingPointer + 1 := by
  rw [slowArrives_eq]

/-- What the refill part of a microsecond leaves to the slow tick (04 R59). -/
theorem microRefilled_slow (s : State) : (microRefilled s).time.micro = s.time.micro + 1 ∧ (microRefilled s).time.ms = s.time.ms ∧
    (microRefilled s).table.agingPointer = s.table.agingPointer := by
  unfold microRefilled
  split
  · rw [refillArrives_eq]; exact ⟨rfl, rfl, rfl⟩
  · exact ⟨rfl, rfl, rfl⟩

/-- The counts of the refill tick after a microsecond (04 R59). -/
def refillCounts (s : State) : Nat × BitVec 16 × StationIx := (s.time.periodCount, s.time.tick, s.time.refreshPointer)

theorem refillCounts_slowArrives (s : State) : refillCounts (slowArrives s) = refillCounts s := by
  rw [refillCounts, slowArrives_time]
  rfl

theorem refillCounts_short {s : State} (short : s.time.periodCount + 1 < s.time.divisor) :
    refillCounts (microRefilled s) = (s.time.periodCount + 1, s.time.tick, s.time.refreshPointer) := by
  rw [microRefilled, if_neg (Nat.not_le.2 short)]; rfl

theorem refillCounts_due {s : State} (due : s.time.divisor ≤ s.time.periodCount + 1) :
    refillCounts (microRefilled s) = (0, s.time.tick + 1, s.time.refreshPointer + 1) := by
  rw [microRefilled, if_pos due, refillArrives_eq]; rfl

theorem step_of_idle {s : State} (idle : s.pending = []) (out : s.line.part ≠ .reset) :
    step s = .next (if 1000 ≤ s.time.micro + 1 then slowArrives (microRefilled s) else microRefilled s) := by
  rw [step, idle]
  simp only [microsecond_eq, (microRefilled_slow s).1, if_pos (running_iff.2 out)]

theorem exec_refillTick_of_running {s : State} (out : s.line.part ≠ .reset) : exec .refillTick s = .next (refillArrives s) := by
  show Host.Outcome.next (if running s then refillArrives s else s) = _
  rw [if_pos (running_iff.2 out)]

theorem exec_slowTick_of_running {s : State} (out : s.line.part ≠ .reset) : exec .slowTick s = .next (slowArrives s) := by
  show Host.Outcome.next (if running s then slowArrives s else s) = _
  rw [if_pos (running_iff.2 out)]

end Sys2Proof.Machine

section

open Sys2Proof Sys2Proof.Machine

/-- Settles O32: each part is the step of the slow tick that it names. -/
theorem partsOfSlowTick : Obligations.PartsOfSlowTick := by
  intro s i out e freed expired
  have runs : ∀ t : State, (Host.Outcome.next (if running s then t else s) : Host.Outcome State Fault Refusal) = .next t :=
    fun t => by rw [if_pos (running_iff.2 out)]
  have freedEntry : ∀ t : State, t.entry i = e → freeEntry i t = freed t := fun t same => by
    rw [freeEntry_eq, same]; rfl
  refine ⟨(runs _).trans rfl, (runs _).trans ?_, fun kept => (runs _).trans ?_, fun due room => (runs _).trans ?_,
    fun due full => (runs _).trans ?_, (runs _).trans ?_, (runs _).trans ?_⟩
  · rw [learnedExpiryStep, freedEntry s rfl]
    exact congrArg Host.Outcome.next (if_congr expires_iff rfl rfl)
  · rw [admittedExpiryStep, if_neg (fun h => kept (expires_iff.1 h))]
  · rw [admittedExpiryStep, if_pos (expires_iff.2 due), reportRoom, if_pos (decide_eq_true (by exact room))]
    exact congrArg Host.Outcome.next (freedEntry (addReport (expiredReport (s.entry i)) s) rfl)
  · rw [admittedExpiryStep, if_pos (expires_iff.2 due), reportRoom, if_neg (by
      rw [decide_eq_true_eq]; exact Nat.not_lt.2 full)]
    rfl
  · rw [holdOffStep_eq]; rfl
  · rw [spacingStep_eq]

/-- Settles O2: a microsecond is the refill tick's part and then the slow tick's, each where its count has come. -/
theorem idleStepIsOneMicrosecond : Obligations.IdleStepIsOneMicrosecond := by
  intro s idle
  refine ⟨fun reset => ?_, fun out => ?_⟩
  · rw [step, idle]
    exact congrArg Host.Outcome.next (if_neg fun h => running_iff.1 h reset)
  intro advanced
  have counted : microCounted s = advanced := rfl
  have plain : s.time.periodCount + 1 < s.time.divisor → microRefilled s = advanced := fun h => if_neg (Nat.not_le.2 h)
  have ticked : s.time.divisor ≤ s.time.periodCount + 1 → microRefilled s = refillArrives advanced := fun h => if_pos h
  have fast : s.time.micro + 1 < 1000 → step s = .next (microRefilled s) := fun h => by
    rw [step_of_idle idle out, if_neg (Nat.not_le.2 h)]
  have slow : 1000 ≤ s.time.micro + 1 → step s = .next (slowArrives (microRefilled s)) := fun h => by
    rw [step_of_idle idle out, if_pos h]
  have refilledLine : (refillArrives advanced).line = s.line := by rw [refillArrives_eq]
  refine ⟨fun short early => by rw [fast early, plain short], fun due early => ?_, fun short late => ?_, fun due late => ?_, ?_⟩
  · rw [fast early, ticked due]
    exact (exec_refillTick_of_running (s := advanced) out).symm
  · rw [slow late, plain short]
    exact (exec_slowTick_of_running (s := advanced) out).symm
  · refine ⟨refillArrives advanced, exec_refillTick_of_running (s := advanced) out, ?_⟩
    rw [slow late, ticked due]
    exact (exec_slowTick_of_running (s := refillArrives advanced) (by rw [refilledLine]; exact out)).symm
  · obtain ⟨micro, ms, aging⟩ := microRefilled_slow s
    rcases Nat.lt_or_ge (s.time.micro + 1) 1000 with early | late
    · refine ⟨_, fast early, fun short => ?_, fun due => ?_, fun _ => ⟨micro, ms, aging⟩, fun late => absurd early (Nat.not_lt.2 late)⟩
      · simpa [refillCounts] using refillCounts_short short
      · simpa [refillCounts] using refillCounts_due due
    · have counts := refillCounts_slowArrives (microRefilled s)
      refine ⟨_, slow late, fun short => ?_, fun due => ?_, fun early => absurd early (Nat.not_lt.2 late), fun _ => ⟨?_, ?_, ?_⟩⟩
      · simpa [refillCounts] using counts.trans (refillCounts_short short)
      · simpa [refillCounts] using counts.trans (refillCounts_due due)
      · rw [slowArrives_time]; rfl
      · rw [slowArrives_time, ← ms]; rfl
      · rw [slowArrives_agingPointer, aging]

end

/-! # Power-on values, the reset pin, the restart and the links -/

namespace Sys2Proof.Machine

open Sys2Proof

/-! ## The power-on values -/

theorem BackboneTx.fresh_deficit (d : Fin 4) : BackboneTx.fresh.deficit.get d = 0 := Tab.get_fill _ d

theorem reset_side (b : Side) : State.reset.side b = BackboneTx.fresh := by cases b <;> rfl

theorem freshQueues_drops : ∀ k : Fin 74, (freshQueues.get k).drops = 0 := by decide

theorem freshQueues_seat : ∀ k : Fin 48, (freshQueues.get (queueIx (.seat k))).limit = 64 := by decide

theorem freshQueues_radio : ∀ r : Fin 8, (freshQueues.get (queueIx (.priority r))).limit = 64 ∧
    (freshQueues.get (queueIx (.normal r))).limit = 256 := by decide

theorem freshQueues_cls : ∀ (c : Fin 4), (freshQueues.get (queueIx (.cls .fore c))).limit = 128 ∧
    (freshQueues.get (queueIx (.cls .aft c))).limit = 128 := by decide

/-- The default limit of each kind of queue (06 R104). -/
theorem reset_limit (q : QueueId) : (State.reset.queue q).limit = (match q with
    | .through _ => 512
    | .cls _ _ => 128
    | .priority _ => 64
    | .normal _ => 256
    | .seat _ => 64) := by
  cases q with
  | through b => cases b <;> rfl
  | cls b c =>
    cases b with
    | fore => exact (freshQueues_cls c).1
    | aft => exact (freshQueues_cls c).2
  | priority r => exact (freshQueues_radio r).1
  | normal r => exact (freshQueues_radio r).2
  | seat k => exact freshQueues_seat k

theorem reset_free : State.reset.mem.free = List.finRange 2048 := by simp only [State.reset, FrameMemory.fresh]

/-! ## Link-up events at all ports -/

/-- A link-up at a port that is not DOWN sets its link status only (08 R133). -/
theorem linkUp_of_not_down {p : Port} {s : State} (up : isCarriage p = true → (s.port p).state ≠ .down) :
    linkUp p s = setLink p true (noteLinkChange p s) := by
  refine if_neg fun ⟨carriage, down⟩ => up carriage ?_
  rw [setLink, port_modPort_self] at down
  exact down

/-- What the link-up events of the ports of `l` whose line shows a link make of the state, none of them DOWN (08 R133). -/
def linesShown (lines : Tab Bool 58) (l : List Port) (s : State) : State :=
  { s with
    ports := l.foldl (fun ports p => Tab.modify ports p (fun u => { u with link := u.link || lines.get p })) s.ports
    notice := { s.notice with
      changed := l.foldl (fun changed p => Tab.modify changed p (fun c => c || lines.get p)) s.notice.changed
      flags := if l.any (fun p => lines.get p) then
          s.notice.flags.modify (sourceIx .linkChange) (fun f => { f with pending := true })
        else s.notice.flags } }

theorem linesShown_singleton {lines : Tab Bool 58} {p : Port} {s : State} (up : isCarriage p = true → (s.port p).state ≠ .down) :
    (if lines.get p then linkUp p s else s) = linesShown lines [p] s := by
  unfold linesShown
  rw [List.any_cons, List.any_nil, Bool.or_false, List.foldl_cons, List.foldl_nil, List.foldl_cons, List.foldl_nil]
  cases shown : lines.get p with
  | false =>
    simp only [Bool.or_false, Bool.false_eq_true, if_false]
    rw [Tab.modify_id, Tab.modify_id]
  | true =>
    rw [if_pos rfl, if_pos rfl, linkUp_of_not_down up]
    simp only [Bool.or_true]
    rw [Tab.modify_eq_set (t := s.notice.changed)]
    rfl

theorem linesShown_port {lines : Tab Bool 58} {l : List Port} {s : State} (x : Port) :
    ((linesShown lines l s).port x).state = (s.port x).state := by
  show (Tab.get (l.foldl _ s.ports) x).state = (s.ports.get x).state
  generalize s.ports = ports
  induction l generalizing ports with
  | nil => rfl
  | cons p l ih =>
    rw [List.foldl_cons, ih, Tab.get_modify]
    split
    · next same => rw [same]
    · rfl

theorem raised_raised (a b : Bool) (flags : Tab SourceFlags 9) (j : Fin 9) :
    (if b then (if a then flags.modify j (fun f => { f with pending := true }) else flags).modify j (fun f => { f with pending := true })
      else if a then flags.modify j (fun f => { f with pending := true }) else flags) =
    if a || b then flags.modify j (fun f => { f with pending := true }) else flags := by
  cases a <;> cases b <;> simp

theorem linesShown_linesShown (lines : Tab Bool 58) (l m : List Port) (s : State) :
    linesShown lines m (linesShown lines l s) = linesShown lines (l ++ m) s := by
  unfold linesShown
  simp only [List.foldl_append, List.any_append, raised_raised]

theorem foldl_linkUp {lines : Tab Bool 58} {s : State} (up : ∀ p, isCarriage p = true → (s.port p).state ≠ .down) (l : List Port) :
    l.foldl (fun t p => if lines.get p then linkUp p t else t) s = linesShown lines l s := by
  induction l generalizing s with
  | nil => rfl
  | cons p l ih =>
    rw [List.foldl_cons, linesShown_singleton (up p), ih (fun x carriage => by rw [linesShown_port]; exact up x carriage),
      linesShown_linesShown]
    rfl

theorem linkUpLines_eq {s : State} (up : ∀ p, isCarriage p = true → (s.port p).state ≠ .down) :
    linkUpLines s = linesShown s.line.lines (List.finRange 58) s := foldl_linkUp up _

theorem port_linesShown {lines : Tab Bool 58} {l : List Port} (distinct : l.Nodup) {p : Port} (mem : p ∈ l) (s : State) :
    (linesShown lines l s).port p = { s.port p with link := (s.port p).link || lines.get p } :=
  Tab.get_foldl_modify_of_mem (ix := fun p => p) (f := fun p (u : PortUnit) => { u with link := u.link || lines.get p })
    (by rw [List.map_id']; exact distinct) mem s.ports

theorem changed_linesShown {lines : Tab Bool 58} {l : List Port} (distinct : l.Nodup) {p : Port} (mem : p ∈ l) (s : State) :
    (linesShown lines l s).notice.changed.get p = (s.notice.changed.get p || lines.get p) :=
  Tab.get_foldl_modify_of_mem (ix := fun p => p) (f := fun p c => c || lines.get p) (by rw [List.map_id']; exact distinct) mem
    s.notice.changed

/-! ## The strap fault -/

theorem checkStraps_eq (s : State) : checkStraps s = { s with notice := { s.notice with
    flags := if decide (s.line.position = 0) then
        s.notice.flags.modify (sourceIx .strapFault) (fun f => { f with pending := true })
      else s.notice.flags } } := by
  unfold checkStraps
  by_cases fault : s.line.position = 0
  · rw [if_pos fault, decide_eq_true fault]; rfl
  · rw [if_neg fault, decide_eq_false fault]; rfl

theorem decide_sourceIx_eq : ∀ a b : Source, decide (sourceIx a = sourceIx b) = decide (b = a) := by
  intro a b; cases a <;> cases b <;> rfl

/-- The flags after a check of the straps and the link-up events of all ports. -/
theorem flags_shown_checked (fault shown : Bool) (flags : Tab SourceFlags 9) (x : Source) :
    (if shown then (if fault then flags.modify (sourceIx .strapFault) (fun f => { f with pending := true }) else flags).modify
        (sourceIx .linkChange) (fun f => { f with pending := true })
      else if fault then flags.modify (sourceIx .strapFault) (fun f => { f with pending := true }) else flags).get (sourceIx x) =
    { flags.get (sourceIx x) with pending := (flags.get (sourceIx x)).pending || (decide (x = .strapFault) && fault)
        || (decide (x = .linkChange) && shown) } := by
  rw [get_raised, get_raised, decide_sourceIx_eq, decide_sourceIx_eq, Bool.and_comm fault, Bool.and_comm shown]

end Sys2Proof.Machine

section

open Sys2Proof Sys2Proof.Machine

/-- Settles O3: every block by the value that its tables are filled with. -/
theorem resetHoldsPowerOnValues : Obligations.ResetHoldsPowerOnValues := by
  refine ⟨rfl, rfl, rfl, fun p => ?_, rfl, reset_entry, rfl, fun _ => rfl, rfl, rfl, rfl, fun i => Tab.get_fill _ i, fun n => ?_,
    rfl, rfl, rfl, rfl, rfl, rfl, rfl, rfl, rfl, reset_free, rfl, rfl, fun r => ?_, fun q => ?_, fun b => ?_, rfl, rfl, rfl,
    fun x => Tab.get_fill _ x, rfl, rfl, rfl, rfl, rfl, fun p => Tab.get_fill _ p, fun g => Tab.get_fill _ g⟩
  · rw [reset_port]
    exact ⟨rfl, rfl, rfl, rfl, rfl, rfl, rfl, rfl, rfl, rfl, rfl, rfl, fun k => Tab.get_fill _ k⟩
  · rw [show State.reset.profile n = Profile.fresh from Tab.get_fill _ n]
    exact ⟨rfl, fun z => Tab.get_fill _ z⟩
  · rw [reset_record]
    exact ⟨rfl, rfl, rfl, rfl, rfl, rfl⟩
  · exact ⟨(reset_queue q).1, (reset_queue q).2.1, freshQueues_drops _, reset_limit q⟩
  · rw [reset_side]
    exact ⟨rfl, rfl, rfl, BackboneTx.fresh_deficit, rfl, rfl⟩

/-- Settles O4: the pin gives State.reset; its release is the straps and a link-up event for every line that shows a link. -/
theorem resetPinTaken : Obligations.ResetPinTaken := by
  refine ⟨fun s => ⟨fun out => ?_, fun reset => congrArg Host.Outcome.next (if_pos reset)⟩,
    fun s straps => ⟨fun out => congrArg Host.Outcome.next (if_neg out), fun reset off => ?_⟩⟩
  · exact congrArg Host.Outcome.next (if_neg out)
  · let cleared := clearLinks ((checkStraps (s.modLine (fun l => { l with strapCode := straps, position := strapPosition straps }))).modLine
      (fun l => { l with lineJoin := false, part := .transit }))
    have port : ∀ p, cleared.port p = { s.port p with link := false } := fun p => by
      show (Tab.mapAll (checkStraps _).ports _).get p = _
      rw [Tab.get_mapAll, checkStraps_eq]
      rfl
    have released : exec (.resetPinRelease straps) s = .next (linkUpLines cleared) := congrArg Host.Outcome.next (if_pos reset)
    have up : ∀ p, isCarriage p = true → (cleared.port p).state ≠ .down := fun p carriage => by
      rw [port, off p carriage]; nofun
    have shown := linkUpLines_eq up
    have lines : cleared.line.lines = s.line.lines := by
      simp only [cleared, checkStraps_eq]; rfl
    rw [lines] at shown
    refine ⟨linkUpLines cleared, released, ?_, fun p => ?_, fun p => ?_, fun x => ?_⟩
    · rw [shown]; simp only [cleared, checkStraps_eq]; rfl
    · rw [shown, port_linesShown (List.nodup_finRange 58) (List.mem_finRange p), port, Bool.false_or]
    · rw [shown, changed_linesShown (List.nodup_finRange 58) (List.mem_finRange p)]; simp only [cleared, checkStraps_eq]; rfl
    · rw [shown]
      simp only [cleared, checkStraps_eq]
      exact flags_shown_checked _ _ _ _

end

/-! # Restart, link-up and link-down -/

namespace Sys2Proof.Machine

open Sys2Proof

/-! ## The link-up of one port -/

/-- The unit of a port after a link-up (08 R134, R136). -/
def PortUnit.linkedUp (p : Port) (u : PortUnit) : PortUnit :=
  { u with link := true, state := if isCarriage p = true ∧ u.state = .down then (if u.hold then .held else .up) else u.state }

theorem abandon_idle {p : Port} {x : RxState} {s : State} (idle : (s.port p).rx = .idle) : abandon p x s = s := by
  rw [abandon, idle]

/-- A DOWN port that receives nothing becomes UP or HELD without another effect (08 R132). -/
theorem changePort_of_down {p : Port} {s : State} {hold : Bool} (down : (s.port p).state = .down) (idle : (s.port p).rx = .idle) :
    changePort p (if hold then .held else .up) s = s.modPort p (fun u => { u with state := if hold then .held else .up }) := by
  cases hold with
  | false => simp [changePort, down]
  | true =>
    have still : ((s.modPort p (fun u => { u with state := .held })).port p).rx = .idle := by rw [port_modPort_self]; exact idle
    simp [changePort, down, abandon_idle still]

theorem linkUp_eq {p : Port} {s : State} (idle : isCarriage p = true → (s.port p).state = .down → (s.port p).rx = .idle) :
    linkUp p s = (noteLinkChange p s).modPort p (PortUnit.linkedUp p) := by
  by_cases down : isCarriage p = true ∧ (s.port p).state = .down
  · have unit : ((setLink p true (noteLinkChange p s)).port p) = { s.port p with link := true } := by
      rw [setLink, port_modPort_self]; rfl
    have evaluates : isCarriage p = true ∧ ((setLink p true (noteLinkChange p s)).port p).state = .down := by rw [unit]; exact down
    refine (if_pos evaluates).trans ?_
    rw [changePort_of_down evaluates.2 (by rw [unit]; exact idle down.1 down.2), setLink, modPort_modPort]
    refine modPort_congr ?_
    rw [← setLink, unit, PortUnit.linkedUp, show (noteLinkChange p s).port p = s.port p from rfl, if_pos down]
  · rw [linkUp_of_not_down fun carriage state => down ⟨carriage, state⟩]
    refine modPort_congr ?_
    rw [PortUnit.linkedUp, show (noteLinkChange p s).port p = s.port p from rfl, if_neg down]

theorem linkEvent_iff {p : Port} {up : Bool} {s : State} :
    linkEvent p up s = true ↔ s.line.part ≠ .reset ∧ (s.port p).link ≠ up := by
  rw [linkEvent, Bool.and_eq_true, running_iff, decide_eq_true_eq]

end Sys2Proof.Machine

section

open Sys2Proof Sys2Proof.Machine

/-- Settles O6: power-on values, the check of the straps, and a link-up event for every line that shows a link. -/
theorem restartMadeWhenDue : Obligations.RestartMadeWhenDue := by
  intro s out
  refine ⟨fun not => congrArg Host.Outcome.next (if_neg fun h => not h.1), fun due => ?_⟩
  let base := (powerOn s).modLine (fun l =>
    { l with part := .transit, lineJoin := false, strapCode := s.line.strapCode, position := s.line.position })
  have port : ∀ p, (checkStraps base).port p = State.reset.port p := fun p => by rw [checkStraps_eq]; rfl
  have made : exec .restartEvent s = .next (linkUpLines (checkStraps base)) :=
    congrArg Host.Outcome.next (if_pos ⟨due, running_iff.2 out⟩)
  have shown := linkUpLines_eq (s := checkStraps base) fun p _ => by rw [port, reset_port]; nofun
  have lines : (checkStraps base).line.lines = s.line.lines := by rw [checkStraps_eq]; rfl
  rw [lines] at shown
  refine ⟨_, made, ?_, fun p => ?_, fun p => ?_, fun x => ?_⟩
  · rw [shown, checkStraps_eq]; rfl
  · rw [shown, port_linesShown (List.nodup_finRange 58) (List.mem_finRange p), port, reset_port]; rfl
  · rw [shown, changed_linesShown (List.nodup_finRange 58) (List.mem_finRange p), checkStraps_eq]
    rw [show base.notice.changed.get p = false from Tab.get_fill _ p, Bool.false_or]
  · rw [shown, checkStraps_eq]
    refine (flags_shown_checked _ _ _ _).trans ?_
    rw [show base.notice.flags.get (sourceIx x) = { enable := false, pending := false, inService := false } from Tab.get_fill _ _,
      Bool.false_or]
    rfl

/-- Settles O7. -/
theorem linkUpTaken : Obligations.LinkUpTaken := by
  intro s p c which receives
  have taken : exec c s = .next (lineUp p s) := by
    rcases which with ⟨rfl, carriage⟩ | ⟨b, rfl, rfl⟩
    · exact if_pos carriage
    · rfl
  rw [taken]
  refine ⟨fun kept => ?_, fun out absent => ?_⟩
  · have none : linkEvent p true s = false := Bool.eq_false_iff.2 fun h =>
      kept.elim (linkEvent_iff.1 h).1 (linkEvent_iff.1 h).2
    rw [lineUp, none, if_neg Bool.false_ne_true]
    rfl
  · rw [lineUp, linkEvent_iff.2 ⟨out, by rw [absent]; nofun⟩, if_pos rfl, linkUp_eq (s := setLine p true s) fun carriage down =>
      receives carriage (by rw [isUpOrHeld, show (s.port p).state = .down from down]; rfl)]
    rfl

end

/-! # The loss of a link -/

namespace Sys2Proof.Machine

open Sys2Proof

/-! ## Changes that a departure does not see -/

/-- A change of a port unit apart from its station count and its guard count. -/
def PortUnit.Apart (g : PortUnit → PortUnit) : Prop :=
  ∀ u seats guard, g { u with seatCount := seats, guardCount := guard } = { g u with seatCount := seats, guardCount := guard }

/-- A state with other link-status lines and notice flags, and a port unit changed. -/
def dressed (lines : Tab Bool 58) (notice : NoticeUnit) (p : Port) (g : PortUnit → PortUnit) (s : State) : State :=
  { s with line := { s.line with lines := lines }, notice := notice, ports := s.ports.modify p g }

section

variable {g : PortUnit → PortUnit} (apart : PortUnit.Apart g) (lines : Tab Bool 58) (notice : NoticeUnit) (p : Port)

include apart

theorem PortUnit.Apart.counts (u : PortUnit) : (g u).seatCount = u.seatCount ∧ (g u).guardCount = u.guardCount := by
  have self : g u = { g u with seatCount := u.seatCount, guardCount := u.guardCount } := apart u u.seatCount u.guardCount
  exact ⟨by rw [self], by rw [self]⟩

theorem PortUnit.Apart.seatCount (f : Nat → Nat) (u : PortUnit) :
    g { u with seatCount := f u.seatCount } = { g u with seatCount := f (g u).seatCount } := by
  obtain ⟨seats, guards⟩ := apart.counts u
  rw [seats]
  refine (apart u (f u.seatCount) u.guardCount).trans ?_
  rw [← guards]

theorem PortUnit.Apart.guardCount (u : PortUnit) : g { u with guardCount := 0 } = { g u with guardCount := 0 } := by
  refine (apart u u.seatCount 0).trans ?_
  rw [← (apart.counts u).1]

omit apart in
theorem modify_apart_comm {f : PortUnit → PortUnit} (comm : ∀ u, g (f u) = f (g u)) (ports : Tab PortUnit 58) (x : Port) :
    (ports.modify p g).modify x f = (ports.modify x f).modify p g := by
  by_cases same : x = p
  · subst same
    rw [Tab.modify_modify, Tab.modify_modify]
    exact Tab.modify_congr (comm _).symm
  · exact Tab.modify_comm _ _ _ (Ne.symm same)

theorem seatLeft_modify (a : Option Port) (ports : Tab PortUnit 58) :
    seatLeft a (ports.modify p g) = (seatLeft a ports).modify p g := by
  unfold seatLeft
  cases a with
  | none => rfl
  | some x =>
    simp only
    split
    · exact modify_apart_comm p (fun u => apart.seatCount (· - 1) u) ports x
    · rfl

theorem freeEntry_dressed (i : StationIx) (s : State) :
    freeEntry i (dressed lines notice p g s) = dressed lines notice p g (freeEntry i s) := by
  rw [freeEntry_eq, freeEntry_eq]
  simp only [dressed, seatLeft_modify apart]
  rfl

omit apart in
theorem finishItem_dressed (st : Status) (data : List Byte) (s : State) :
    finishItem st data (dressed lines notice p g s) = dressed lines notice p g (finishItem st data s) := by
  unfold finishItem
  rw [show (dressed lines notice p g s).mgmt = s.mgmt from rfl]
  split
  · rfl
  · split
    · rfl
    · rfl

theorem freeReleased_dressed (i : StationIx) (s : State) :
    freeReleased i (dressed lines notice p g s) = dressed lines notice p g (freeReleased i s) := by
  unfold freeReleased
  rw [show (dressed lines notice p g s).mgmt = s.mgmt from rfl]
  split
  · rfl
  · rw [show (dressed lines notice p g s).entry i = s.entry i from rfl]
    split
    · rw [freeEntry_dressed apart, finishItem_dressed]
    · rfl

theorem departStation_dressed (d : Option StationIx) (s : State) :
    departStation d (dressed lines notice p g s) = dressed lines notice p g (departStation d s) := by
  cases d with
  | none => rfl
  | some i => exact freeReleased_dressed apart lines notice p i (s.modEntry i (fun e => { e with heldCount := e.heldCount - 1 }))

theorem queueEmptied_dressed (q : QueueId) (s : State) :
    queueEmptied q (dressed lines notice p g s) = dressed lines notice p g (queueEmptied q s) := by
  cases q with
  | normal k =>
    simp only [queueEmptied, dressed, State.modPort, modify_apart_comm p (fun u => apart.guardCount u)]
  | through b => cases b <;> rfl
  | cls b c =>
    simp only [queueEmptied]
    cases drrOf (.cls b c) with
    | none => rfl
    | some served =>
      obtain ⟨side, d⟩ := served
      cases side <;> rfl
  | priority k => rfl
  | seat k => rfl

theorem unlist_dressed (q : QueueId) (r : RecordIx) (s : State) :
    unlist q r (dressed lines notice p g s) = dressed lines notice p g (unlist q r s) := by
  unfold unlist
  simp only
  have listed : (dressed lines notice p g s).modQueue q
      (fun x => { x with records := x.records.erase r, tally := x.tally - ((dressed lines notice p g s).record r).cellCount }) =
      dressed lines notice p g (s.modQueue q
        (fun x => { x with records := x.records.erase r, tally := x.tally - (s.record r).cellCount })) := rfl
  rw [listed, show ∀ t, (dressed lines notice p g t).queue q = t.queue q from fun _ => rfl]
  split
  · exact queueEmptied_dressed apart lines notice p q _
  · rfl

/-- A record leaves a queue in the same way, whatever the lines, the notice flags and the changed port hold. -/
theorem leaveQueue_dressed (q : QueueId) (r : RecordIx) (s : State) :
    leaveQueue q r (dressed lines notice p g s) = dressed lines notice p g (leaveQueue q r s) := by
  have off : offQueue q r (dressed lines notice p g s) = dressed lines notice p g (offQueue q r s) := by
    rw [offQueue, unlist_dressed apart]; rfl
  rw [leaveQueue_eq, leaveQueue_eq, off, show (dressed lines notice p g s).record r = s.record r from rfl, departStation_dressed apart]
  split
  · rfl
  · rfl

end

/-! ## What ends at a port that loses its link -/

/-- The record of the frame in reception at a port returned (01 R5). -/
def withdrawn (p : Port) (s : State) : State :=
  match (s.port p).rx with
  | .storing r _ => releaseRecord r s
  | _ => s

theorem abandonReception_eq (p : Port) (s : State) :
    abandonReception p s = (withdrawn p s).modPort p (fun u => { u with rx := .idle }) := by
  unfold abandonReception abandon withdrawn
  cases (s.port p).rx with
  | storing r n => exact modPort_modPort _ _ _ _
  | idle => rfl
  | discarding reason => rfl

theorem withdrawn_dressed {g : PortUnit → PortUnit} (rx : ∀ u, (g u).rx = u.rx) (lines : Tab Bool 58) (notice : NoticeUnit) (p : Port)
    (s : State) : withdrawn p (dressed lines notice p g s) = dressed lines notice p g (withdrawn p s) := by
  have same : ((dressed lines notice p g s).port p).rx = (s.port p).rx := by
    rw [show (dressed lines notice p g s).port p = g (s.port p) from Tab.get_modify_self _ _ _, rx]
  unfold withdrawn
  rw [same]
  split <;> rfl

theorem withdrawn_port (p x : Port) (s : State) : (withdrawn p s).port x = s.port x := by
  unfold withdrawn
  split <;> rfl

/-- The queued record in transmission at a port taken off its queue (07 R121). -/
def departed (p : Port) (s : State) : State :=
  match (s.port p).tx with
  | .sending r q _ => leaveQueue q r s
  | _ => s

/-- The unit of a port whose transmission `tx` is aborted (07 R121). -/
def PortUnit.aborted (tx : TxState) (u : PortUnit) : PortUnit :=
  { u with tx := .idle, counters := if tx = .idle then u.counters else u.counters.modify (portCounterIx .txAbort) satIncrement }

theorem PortUnit.aborted_idle {u : PortUnit} (idle : u.tx = .idle) : u.aborted .idle = u := by
  cases u; cases idle; rfl

theorem apart_counted : PortUnit.Apart (fun u => { u with
    counters := u.counters.modify (portCounterIx .txAbort) satIncrement }) := fun _ _ _ => rfl

theorem leaveQueue_countPort (p : Port) (q : QueueId) (r : RecordIx) (s : State) :
    leaveQueue q r (countPort p .txAbort s) = countPort p .txAbort (leaveQueue q r s) := by
  have line : ∀ t : State, countPort p .txAbort t = dressed t.line.lines t.notice p
      (fun u => { u with counters := u.counters.modify (portCounterIx .txAbort) satIncrement }) t := fun _ => rfl
  have kept := leaveQueue_frame q r s
  rw [line, leaveQueue_dressed apart_counted, line]
  simp only [kept]

/-- A transmission other than of the output slot is aborted (07 R121). -/
theorem abortTransmission_eq {p : Port} {s : State} (queued : portSide p = none ∨ ∀ n, (s.port p).tx ≠ .sendingSlot n) :
    abortTransmission p s = (departed p s).modPort p (PortUnit.aborted (s.port p).tx) := by
  have tx : ((countPort p .txAbort s).port p).tx = (s.port p).tx := by rw [countPort, port_modPort_self]
  unfold abortTransmission departed endTransmission
  rw [tx]
  cases h : (s.port p).tx with
  | idle => exact (modPort_of_fixed (PortUnit.aborted_idle h)).symm
  | sending r q n =>
    simp only [reduceCtorEq, if_false]
    rw [leaveQueue_countPort, countPort, modPort_modPort]
    rfl
  | sendingSlot n =>
    have none : portSide p = none := queued.resolve_right fun not => not n h
    simp only [none, reduceCtorEq, if_false]
    rw [countPort, modPort_modPort]
    rfl

/-- The abort of a transmission of the output slot empties the slot (07 R121). -/
theorem abortTransmission_slot {p : Port} {b : Side} {s : State} {n : Nat} (side : portSide p = some b)
    (slot : (s.port p).tx = .sendingSlot n) :
    abortTransmission p s = emptySlot b ((departed p s).modPort p (PortUnit.aborted (s.port p).tx)) := by
  have tx : ((countPort p .txAbort s).port p).tx = .sendingSlot n := by rw [countPort, port_modPort_self]; exact slot
  have empties : ∀ (t : State) f, (emptySlot b t).modPort p f = emptySlot b (t.modPort p f) := fun t f => by
    unfold emptySlot
    rw [show (t.modPort p f).mgmt = t.mgmt from rfl]
    split <;> cases b <;> rfl
  unfold abortTransmission departed endTransmission
  rw [tx, slot]
  simp only [side, reduceCtorEq, if_false]
  rw [empties, countPort, modPort_modPort]
  rfl

theorem emptySlot_eq (b : Side) (s : State) : emptySlot b s = { s.modSide b (fun x => { x with slot := none }) with
    mgmt := { s.mgmt with restart := if s.mgmt.restart = .sent b then .due else s.mgmt.restart } } := by
  unfold emptySlot
  split
  · cases b <;> rfl
  · cases b <;> rfl

theorem emptySlot_emptySlot (b : Side) (s : State) : emptySlot b (emptySlot b s) = emptySlot b s := by
  rw [emptySlot_eq, emptySlot_eq]
  by_cases sent : s.mgmt.restart = .sent b
  · cases b <;> simp [State.modSide, sent]
  · cases b <;> simp [State.modSide, sent]

/-- The end of what a backbone port sends when its link is lost: aborted, and the output slot emptied (08 R136, 07 R121). -/
theorem emptySlot_abortTransmission (b : Side) (s : State) : emptySlot b (abortTransmission (sidePort b) s) =
    emptySlot b ((departed (sidePort b) s).modPort (sidePort b) (PortUnit.aborted (s.port (sidePort b)).tx)) := by
  by_cases slot : ∃ n, (s.port (sidePort b)).tx = .sendingSlot n
  · obtain ⟨n, slot⟩ := slot
    rw [abortTransmission_slot (show portSide (sidePort b) = some b by cases b <;> rfl) slot, emptySlot_emptySlot]
  · rw [abortTransmission_eq (.inr fun n h => slot ⟨n, h⟩)]

theorem departed_dressed {g : PortUnit → PortUnit} (apart : PortUnit.Apart g) (tx : ∀ u, (g u).tx = u.tx) (lines : Tab Bool 58)
    (notice : NoticeUnit) (p : Port) (s : State) : departed p (dressed lines notice p g s) = dressed lines notice p g (departed p s) := by
  have same : ((dressed lines notice p g s).port p).tx = (s.port p).tx := by
    rw [show (dressed lines notice p g s).port p = g (s.port p) from Tab.get_modify_self _ _ _, tx]
  unfold departed
  rw [same]
  split
  · exact leaveQueue_dressed apart lines notice p _ _ s
  · rfl

theorem modPort_dressed (lines : Tab Bool 58) (notice : NoticeUnit) (p : Port) (f g : PortUnit → PortUnit) (s : State) :
    (dressed lines notice p g s).modPort p f = dressed lines notice p (fun u => f (g u)) s := by
  simp [dressed, State.modPort]

theorem detachPort_eq (p : Port) (s : State) : detachPort p s = { s with
    ports := s.ports.modify p (fun u => { u with seatCount := if isSeat p then 0 else u.seatCount })
    table := { s.table with entries := s.table.entries.mapAll (fun e =>
      if e.attachment = some p then { e with attachment := none } else e) } } := by
  rw [detachPort, modSeatCount_eq]
  have seat : isSeat p = decide (10 ≤ p.val) := rfl
  simp only [seat]
  by_cases h : 10 ≤ p.val
  · simp [h]
  · simp [h, Tab.modify_id]

theorem startFlush_eq (p : Port) (s : State) : startFlush p s = s.modPort p (fun u => { u with flush := some (u.flush.getD 0) }) := by
  refine modPort_congr ?_
  cases (s.port p).flush <;> rfl

/-! ## The three losses -/

/-- What is left of memory, queues and table when a port that stops loses its link. -/
def cutOff (p : Port) (s : State) : State := departed p (withdrawn p s)

/-- The notice unit after a link event (08 R133). -/
def linkNoted (p : Port) (s : State) : NoticeUnit :=
  { s.notice with
    changed := s.notice.changed.set p true
    flags := s.notice.flags.modify (sourceIx .linkChange) (fun f => { f with pending := true }) }

end Sys2Proof.Machine

/-! # The three losses of a link -/

namespace Sys2Proof.Machine

open Sys2Proof

/-- The unit of a port whose reception and transmission end with its link, before what its kind adds (08 R135, R136). -/
def PortUnit.unlinked (tx : TxState) (u : PortUnit) : PortUnit := PortUnit.aborted tx { u with link := false }

theorem linkNoted_eq (p : Port) (s : State) : setLink p false (noteLinkChange p (setLine p false s)) =
    dressed (s.line.lines.set p false) (linkNoted p s) p (fun u => { u with link := false }) s := rfl

/-- Reception and transmission end at a port whose link has gone, its unit changed apart from both (08 R135, R136). -/
theorem abortTransmission_dressed {g : PortUnit → PortUnit} (apart : PortUnit.Apart g) (tx : ∀ u, (g u).tx = u.tx)
    (lines : Tab Bool 58) (notice : NoticeUnit) {p : Port} {s : State} (queued : portSide p = none) :
    abortTransmission p (dressed lines notice p g s) =
      dressed lines notice p (fun u => (g u).aborted (s.port p).tx) (departed p s) := by
  rw [abortTransmission_eq (.inl queued), departed_dressed apart tx, modPort_dressed,
    show (dressed lines notice p g s).port p = g (s.port p) from Tab.get_modify_self _ _ _, tx]

theorem emptySlot_abort_dressed {g : PortUnit → PortUnit} (apart : PortUnit.Apart g) (tx : ∀ u, (g u).tx = u.tx)
    (lines : Tab Bool 58) (notice : NoticeUnit) (b : Side) (s : State) :
    emptySlot b (abortTransmission (sidePort b) (dressed lines notice (sidePort b) g s)) =
      emptySlot b (dressed lines notice (sidePort b) (fun u => (g u).aborted (s.port (sidePort b)).tx) (departed (sidePort b) s)) := by
  rw [emptySlot_abortTransmission, departed_dressed apart tx, modPort_dressed,
    show (dressed lines notice (sidePort b) g s).port (sidePort b) = g (s.port (sidePort b)) from Tab.get_modify_self _ _ _, tx]

theorem abandonReception_dressed {g : PortUnit → PortUnit} (rx : ∀ u, (g u).rx = u.rx) (lines : Tab Bool 58) (notice : NoticeUnit)
    (p : Port) (s : State) : abandonReception p (dressed lines notice p g s) =
      dressed lines notice p (fun u => { g u with rx := .idle }) (withdrawn p s) := by
  rw [abandonReception_eq, withdrawn_dressed rx, modPort_dressed]

theorem tx_withdrawn (p : Port) (s : State) : ((withdrawn p s).port p).tx = (s.port p).tx := by rw [withdrawn_port]

/-- An OFF or DOWN port loses its link: only a transmission ends (08 R135, log 17). -/
theorem carriageLinkLoss_of_off {p : Port} {s : State} (carriage : isCarriage p = true) (off : isUpOrHeld (s.port p).state = false) :
    carriageLinkLoss p (setLine p false s) =
      dressed (s.line.lines.set p false) (linkNoted p s) p (PortUnit.unlinked (s.port p).tx) (departed p s) := by
  refine (if_neg (by rw [show (setLine p false s).port p = s.port p from rfl, off]; nofun)).trans ?_
  rw [linkNoted_eq, abortTransmission_dressed (g := fun u => { u with link := false }) (fun _ _ _ => rfl) (fun _ => rfl) _ _
    (portSide_of_isCarriage carriage)]
  rfl

/-- A UP or HELD port loses its link (08 R135). -/
theorem carriageLinkLoss_of_up {p : Port} {s : State} (carriage : isCarriage p = true) (up : isUpOrHeld (s.port p).state = true) :
    carriageLinkLoss p (setLine p false s) = startFlush p (detachPort p (dressed (s.line.lines.set p false) (linkNoted p s) p
      (fun u => { PortUnit.unlinked (s.port p).tx u with state := .down, rx := .idle }) (cutOff p s))) := by
  refine (if_pos (by rw [show (setLine p false s).port p = s.port p from rfl, up])).trans ?_
  refine congrArg (fun t => startFlush p (detachPort p t)) ?_
  have marked : (setLink p false (noteLinkChange p (setLine p false s))).modPort p (fun u => { u with state := .down }) =
      dressed (s.line.lines.set p false) (linkNoted p s) p (fun u => { u with link := false, state := .down }) s :=
    modPort_dressed _ _ p (fun u => { u with state := .down }) (fun u => { u with link := false }) s
  rw [marked]
  refine (congrArg (abortTransmission p) (abandonReception_dressed (g := fun u => { u with link := false, state := .down })
    (fun _ => rfl) _ _ p s)).trans ?_
  refine (abortTransmission_dressed (g := fun u => { u with link := false, state := .down, rx := .idle }) (fun _ _ _ => rfl)
    (fun _ => rfl) _ _ (portSide_of_isCarriage carriage)).trans ?_
  rw [tx_withdrawn]
  rfl

/-- A backbone port loses its link (08 R136). -/
theorem backboneLinkLoss_eq (b : Side) (s : State) : backboneLinkLoss b (setLine (sidePort b) false s) =
    raise .backboneLoss (startFlush (sidePort b) (emptySlot b (dressed (s.line.lines.set (sidePort b) false) (linkNoted (sidePort b) s)
      (sidePort b) (fun u => { PortUnit.unlinked (s.port (sidePort b)).tx u with rx := .idle }) (cutOff (sidePort b) s)))) := by
  refine congrArg (fun t => raise .backboneLoss (startFlush (sidePort b) t)) ?_
  rw [linkNoted_eq]
  refine (congrArg (fun t => emptySlot b (abortTransmission (sidePort b) t))
    (abandonReception_dressed (g := fun u => { u with link := false }) (fun _ => rfl) _ _ _ _)).trans ?_
  refine (emptySlot_abort_dressed (g := fun u => { u with link := false, rx := .idle }) (fun _ _ _ => rfl) (fun _ => rfl) _ _ _ _).trans ?_
  rw [tx_withdrawn]
  rfl

theorem restart_finishItem (st : Status) (data : List Byte) (s : State) :
    (finishItem st data s).mgmt.restart = s.mgmt.restart := by
  unfold finishItem
  split
  · rfl
  · split <;> rfl

theorem restart_departStation (d : Option StationIx) (s : State) : (departStation d s).mgmt.restart = s.mgmt.restart := by
  cases d with
  | none => rfl
  | some i =>
    rw [departStation_mgmt]
    split
    · exact restart_finishItem _ _ _
    · rfl

theorem restart_leaveQueue (q : QueueId) (r : RecordIx) (s : State) : (leaveQueue q r s).mgmt.restart = s.mgmt.restart := by
  obtain ⟨m, h⟩ := leaveQueue_departStation q r s
  rw [h]
  exact (restart_departStation _ _).trans (by rw [offQueue_mgmt])

theorem restart_cutOff (p : Port) (s : State) : (cutOff p s).mgmt.restart = s.mgmt.restart := by
  unfold cutOff departed withdrawn
  split
  · split
    · exact restart_leaveQueue _ _ _
    · exact restart_leaveQueue _ _ _
  · split <;> rfl

theorem departed_line (p : Port) (s : State) : (departed p s).line = s.line := by
  unfold departed
  split
  · simp only [leaveQueue_frame]
  · rfl

theorem cutOff_line (p : Port) (s : State) : (cutOff p s).line = s.line := by
  rw [cutOff, departed_line]
  unfold withdrawn
  split <;> rfl

end Sys2Proof.Machine

section

open Sys2Proof Sys2Proof.Machine

/-- Settles O8: the loss of a carriage port that is OFF or DOWN, of one that is UP or HELD, and of a backbone port. -/
theorem linkDownTaken : Obligations.LinkDownTaken := by
  refine ⟨fun s p c which out present => ?_, fun s p kept => ?_, fun s p backbone => ?_⟩
  · intro stops received sent line unit changed
    have happens : linkEvent p false s = true := linkEvent_iff.2 ⟨out, by rw [present]; nofun⟩
    have lost : isCarriage p = true → exec c s = .next (carriageLinkLoss p (setLine p false s)) := fun carriage => by
      rcases which with ⟨rfl, -⟩ | ⟨b, rfl, rfl⟩
      · exact (if_pos carriage).trans (congrArg Host.Outcome.next (if_pos happens))
      · rw [isCarriage_sidePort] at carriage; nomatch carriage
    have port : ∀ x, received.port x = s.port x := fun x => by
      simp only [received]
      split
      · split <;> rfl
      · rfl
    have sentEq : sent = departed p received := by
      cases h : (s.port p).tx <;> simp only [sent, departed, port, h]
    have stopped : stops → sent = cutOff p s := fun stop => by
      have withdraws : received = withdrawn p s := by
        unfold withdrawn
        cases h : (s.port p).rx <;> simp only [received, h, if_pos stop]
      rw [sentEq, withdraws, cutOff]
    have kept : ¬ stops → received = s := fun runs => by
      cases h : (s.port p).rx <;> simp only [received, h, if_neg runs]
    clear_value sent received
    refine ⟨fun carriage off => ?_, fun carriage up => ?_, fun b side => ?_⟩
    · have runs : ¬ stops := by rintro (backbone | up) <;> simp_all
      rw [lost carriage, carriageLinkLoss_of_off carriage off, sentEq, kept runs, dressed, departed_line]
      rfl
    · rw [lost carriage, carriageLinkLoss_of_up carriage up, stopped (.inr up), startFlush_eq, detachPort_eq, dressed, cutOff_line]
      simp only [State.modPort, Tab.modify_modify]
      rfl
    · subst side
      have which : c = .backboneLinkDown b := by
        rcases which with ⟨-, carriage⟩ | ⟨b', rfl, same⟩
        · rw [isCarriage_sidePort] at carriage; nomatch carriage
        · cases b <;> cases b' <;> first | rfl | nomatch same
      have taken : exec c s = .next (backboneLinkLoss b (setLine (sidePort b) false s)) := by
        rw [which]; exact congrArg Host.Outcome.next (if_pos happens)
      rw [taken, backboneLinkLoss_eq, stopped (.inl (isCarriage_sidePort b)), startFlush_eq, emptySlot_eq]
      have line := cutOff_line (sidePort b) s
      have restart := restart_cutOff (sidePort b) s
      generalize cutOff (sidePort b) s = t at line restart ⊢
      simp only [dressed, line, restart, State.modPort]
      cases b <;> simp only [State.modSide, Tab.modify_modify] <;> rfl
  · intro level
    have none : linkEvent p false s = false := Bool.eq_false_iff.2 fun h => kept.elim (linkEvent_iff.1 h).1 (linkEvent_iff.1 h).2
    refine ⟨fun carriage => ?_, fun b side => ?_⟩
    · exact (if_pos carriage).trans (congrArg Host.Outcome.next (if_neg (by rw [none]; nofun)))
    · subst side
      exact congrArg Host.Outcome.next (if_neg (by rw [none]; nofun))
  · exact ⟨if_neg (by rw [backbone]; nofun), if_neg (by rw [backbone]; nofun)⟩

end

/-! # Reception: records and cells given, refused and returned -/

namespace Sys2Proof.Machine

open Sys2Proof

/-! ## Cells -/

/-- The links of the cells once a cell is at the end of a chain (06 R99). -/
def linkedLast (next : Tab (Option CellIx) 2048) (chain : List CellIx) (c : CellIx) : Tab (Option CellIx) 2048 :=
  match chain.getLast? with
  | none => next.set c none
  | some l => (next.set c none).set l (some c)

/-- The source flags once the free cell count is `n` (06 R101). -/
def memoryNoted (n reserve : Nat) (flags : Tab SourceFlags 9) : Tab SourceFlags 9 :=
  if n ≤ reserve then flags.modify (sourceIx .memoryLow) (fun f => { f with pending := true }) else flags

/-- A cell given, every field (06 R99, R101). -/
theorem giveCell_eq {r : RecordIx} {s : State} {c : CellIx} {rest : List CellIx} (free : s.mem.free = c :: rest)
    (count : s.mem.freeCount = s.mem.free.length) : giveCell r s = { s with
      mem := { s.mem with
        next := linkedLast s.mem.next (cellsOf s.mem r) c, free := rest, freeCount := rest.length
        records := s.mem.records.modify r (fun x =>
          { x with firstCell := if (cellsOf s.mem r).isEmpty then c else x.firstCell, cellCount := x.cellCount + 1 }) }
      notice := { s.notice with flags := memoryNoted rest.length s.mem.reserve s.notice.flags } } := by
  have left : s.mem.freeCount - 1 = rest.length := by rw [count, free, List.length_cons, Nat.add_sub_cancel]
  cases last : (cellsOf s.mem r).getLast? with
  | none =>
    simp only [giveCell, free, left, linkedLast, memoryNoted, last]
    split <;> rfl
  | some l =>
    simp only [giveCell, free, left, linkedLast, memoryNoted, last]
    split <;> rfl

/-- When a port is refused a cell (06 R100). -/
theorem cellAllowed_eq_false_iff {p : Port} {m : FrameMemory} : cellAllowed p m = false ↔
    (isCarriage p = true ∧ m.freeCount ≤ m.reserve) ∨ (isCarriage p = false ∧ m.freeCount = 0) := by
  unfold cellAllowed
  cases isCarriage p <;> simp

theorem cellAllowed_of_free {p : Port} {m : FrameMemory} {c : CellIx} {rest : List CellIx} (free : m.free = c :: rest)
    (count : m.freeCount = m.free.length) (above : isCarriage p = true → m.reserve < m.freeCount) : cellAllowed p m = true := by
  have some : m.freeCount ≠ 0 := by rw [count, free]; exact Nat.succ_ne_zero _
  refine Bool.of_not_eq_false fun refused => ?_
  rcases cellAllowed_eq_false_iff.1 refused with ⟨carriage, low⟩ | ⟨-, none⟩
  · exact absurd (above carriage) (Nat.not_lt.2 low)
  · exact some none

/-! ## The start of a frame -/

theorem mayReceive_iff {p : Port} {s : State} : mayReceive p s = true ↔
    (isCarriage p = true ∧ ((s.port p).state = .up ∨ (s.port p).state = .held)) ∨
      (isCarriage p = false ∧ s.line.part ≠ .reset ∧ (s.port p).link = true ∧ ∀ f, s.mgmt.exec = some f → f.phase ≠ .portReset p) := by
  have resetting : resettingPort p s = false ↔ ∀ f, s.mgmt.exec = some f → f.phase ≠ .portReset p := by
    unfold resettingPort
    cases s.mgmt.exec with
    | none => simp
    | some f => simp
  unfold mayReceive
  cases isCarriage p with
  | true => simp
  | false => simp [running_iff, resetting, and_assoc]

theorem freeRecord_of_lowest {m : FrameMemory} {r : RecordIx} (free : (m.records.get r).stage = .free)
    (lowest : ∀ r' < r, (m.records.get r').stage ≠ .free) : freeRecord m = some r := by
  cases found : freeRecord m with
  | none => exact absurd free (freeRecord_none.1 found r)
  | some r' =>
    obtain ⟨free', lowest'⟩ := freeRecord_some found
    rcases lt_trichotomy r r' with less | same | more
    · exact absurd free (lowest' r less)
    · rw [same]
    · exact absurd free' (lowest r' more)

/-- A record begun for a frame: its first cell is the head of the free cell list (01 R1, 06 R102). -/
theorem giveCell_fresh_eq {r : RecordIx} {s : State} {c : CellIx} {rest : List CellIx} (free : s.mem.free = c :: rest)
    (count : s.mem.freeCount = s.mem.free.length) :
    giveCell r (s.modRecord r (fun _ => { FrameRecord.fresh with stage := .receiving })) = { s with
      mem := { s.mem with
        next := s.mem.next.set c none, free := rest, freeCount := rest.length
        records := s.mem.records.set r { FrameRecord.fresh with stage := .receiving, firstCell := c, cellCount := 1 } }
      notice := { s.notice with flags := memoryNoted rest.length s.mem.reserve s.notice.flags } } := by
  have empty : cellsOf (s.modRecord r (fun _ => { FrameRecord.fresh with stage := .receiving })).mem r = [] := by
    simp [cellsOf, State.modRecord, FrameRecord.fresh, chainFrom]
  refine (giveCell_eq (s := s.modRecord r (fun _ => { FrameRecord.fresh with stage := .receiving })) free count).trans ?_
  rw [empty]
  simp only [State.modRecord, Tab.modify_modify, linkedLast, List.getLast?_nil, List.isEmpty_nil, if_true]
  rw [Tab.modify_eq_set]
  rfl

/-! ## Requests for a further cell -/

theorem abandon_storing {p : Port} {x : RxState} {s : State} {r : RecordIx} {n : Nat} (storing : (s.port p).rx = .storing r n) :
    abandon p x s = (releaseRecord r s).modPort p (fun u => { u with rx := x }) := by
  rw [abandon, storing]
  rfl

theorem outgrow_of_not_storing {p : Port} {s : State} (not : ∀ r n, (s.port p).rx ≠ .storing r n) : outgrow p s = s := by
  unfold outgrow
  split
  · next r n storing => exact absurd storing (not r n)
  · rfl

theorem tooLong_of_not_storing {p : Port} {s : State} (not : ∀ r n, (s.port p).rx ≠ .storing r n) : tooLong p s = s := by
  unfold tooLong abandon
  split
  · next r n storing => exact absurd storing (not r n)
  · rfl

theorem outgrow_storing {p : Port} {s : State} {r : RecordIx} {n : Nat} (storing : (s.port p).rx = .storing r n) :
    outgrow p s = if (s.record r).cellCount < 12 then requestCell p r ((s.record r).cellCount * 128 + 1) s else s := by
  rw [outgrow, storing]
  rfl

theorem isEmpty_eq_false_of_getLast? {α : Type} {l : List α} {x : α} (last : l.getLast? = some x) : l.isEmpty = false := by
  cases l with
  | nil => nomatch last
  | cons y l => rfl

end Sys2Proof.Machine

section

open Sys2Proof Sys2Proof.Machine

/-- Settles O9: the port that may receive, then the record and the cell asked for. -/
theorem frameStartTaken : Obligations.FrameStartTaken := by
  intro s p idle
  have begins : mayReceive p s = true → exec (.frameStart p) s = .next (beginReception p s) := fun may =>
    congrArg Host.Outcome.next (if_pos ⟨idle, may⟩)
  refine ⟨fun carriage held => ?_, fun receives => ?_, fun deaf => ?_⟩
  · rw [begins (mayReceive_iff.2 (.inl ⟨carriage, .inr held⟩))]
    exact congrArg Host.Outcome.next (if_pos ⟨carriage, held⟩)
  · have may : mayReceive p s = true := mayReceive_iff.2 (receives.imp (fun ⟨carriage, up⟩ => ⟨carriage, .inl up⟩) id)
    have unheld : ¬ (isCarriage p = true ∧ (s.port p).state = .held) := fun ⟨carriage, held⟩ => by
      rcases receives with ⟨-, up⟩ | ⟨backbone, -⟩
      · rw [up] at held; nomatch held
      · rw [backbone] at carriage; nomatch carriage
    rw [begins may, beginReception, if_neg unheld]
    refine ⟨fun full => ?_, fun short => ?_, fun r c rest free lowest cells count above => ?_⟩
    · rw [freeRecord_none.2 full]; rfl
    · have refused := cellAllowed_eq_false_iff.2 short
      split
      · rfl
      · rw [refused, if_neg Bool.false_ne_true]; rfl
    · rw [freeRecord_of_lowest free lowest]
      simp only [cellAllowed_of_free cells count above, if_true]
      rw [giveCell_fresh_eq cells count]
      rfl
  · have deafens : mayReceive p s = false := by
      refine Bool.eq_false_iff.2 fun may => ?_
      rcases mayReceive_iff.1 may with ⟨carriage, up⟩ | ⟨backbone, out, link, waits⟩
      · rcases deaf with ⟨-, off⟩ | ⟨-, down⟩ | ⟨backbone, -⟩
        · rw [off] at up; simp at up
        · rw [down] at up; simp at up
        · rw [backbone] at carriage; nomatch carriage
      · rcases deaf with ⟨carriage, -⟩ | ⟨carriage, -⟩ | ⟨-, unlinked | reset | ⟨f, exec, phase⟩⟩
        · rw [backbone] at carriage; nomatch carriage
        · rw [backbone] at carriage; nomatch carriage
        · rw [unlinked] at link; nomatch link
        · exact out reset
        · exact waits f exec phase
    exact congrArg Host.Outcome.next (if_neg fun h => by rw [deafens] at h; nomatch h.2)

/-- Settles O10: the two commands, and the release of a record field by field. -/
theorem cellsRequestedAndReturned : Obligations.CellsRequestedAndReturned := by
  refine ⟨fun s p => ⟨fun not => ⟨?_, ?_⟩, fun r n storing => ⟨?_, fun full => ?_, fun room => ⟨fun short => ?_, ?_⟩⟩⟩, fun s r => ?_⟩
  · exact congrArg Host.Outcome.next (outgrow_of_not_storing not)
  · exact congrArg Host.Outcome.next (tooLong_of_not_storing not)
  · exact congrArg Host.Outcome.next (abandon_storing storing)
  · exact congrArg Host.Outcome.next ((outgrow_storing storing).trans (if_neg (Nat.not_lt.2 full)))
  · refine congrArg Host.Outcome.next ((outgrow_storing storing).trans ?_)
    rw [if_pos room, requestCell, cellAllowed_eq_false_iff.2 short, if_neg Bool.false_ne_true, abandon_storing storing]
  · intro c rest l free count last above
    refine congrArg Host.Outcome.next ((outgrow_storing storing).trans ?_)
    rw [if_pos room, requestCell, cellAllowed_of_free free count above, if_pos rfl, giveCell_eq free count,
      isEmpty_eq_false_of_getLast? last, linkedLast, last]
    rfl
  · have self : (releaseRecord r s).record r = FrameRecord.fresh := Tab.get_set_self _ _ _
    rw [self]
    exact ⟨rfl, rfl, rfl, rfl, rfl, rfl, rfl, rfl, fun r' other => Tab.get_set_ne _ _ (Ne.symm other), fun _ => rfl, rfl, rfl, rfl⟩

end

/-! # The end of a frame -/

namespace Sys2Proof.Machine

open Sys2Proof

/-! ## Bytes in a chain of cells -/

theorem map_fst_zip_take {l : List Nat} {bytes : List Byte} (fits : bytes.length ≤ l.length) :
    (l.zip bytes).map (·.1) = l.take bytes.length := by
  induction l generalizing bytes with
  | nil =>
    rw [List.length_eq_zero_iff.1 (Nat.le_zero.1 fits)]
    rfl
  | cons a l ih =>
    cases bytes with
    | nil => rfl
    | cons b bytes => exact congrArg (a :: ·) (ih (Nat.le_of_succ_le_succ fits))

/-- A byte at an address that no pair names reads as before. -/
theorem read_writeAll_of_notMem {l : List (Nat × Byte)} (distinct : (l.map (·.1)).Nodup) {m : Memory} (wf : Memory.wf m = true)
    {a : Nat} (other : a ∉ l.map (·.1)) : Memory.read (Memory.writeAll m l) a = Memory.read m a := by
  have none : l.find? (fun x => x.1 == a) = none := List.find?_eq_none.2 fun x mem same =>
    other (List.mem_map.2 ⟨x, mem, beq_iff_eq.1 same⟩)
  rw [Memory.read_writeAll l distinct m wf, none]
  rfl

/-- Bytes written at distinct addresses read back in their order. -/
theorem map_read_writeAll_zip {l : List Nat} (distinct : l.Nodup) {bytes : List Byte} (fits : bytes.length ≤ l.length) {m : Memory}
    (wf : Memory.wf m = true) : (l.take bytes.length).map (Memory.read (Memory.writeAll m (l.zip bytes))) = bytes := by
  induction l generalizing bytes m with
  | nil => rw [List.length_eq_zero_iff.1 (Nat.le_zero.1 fits)]; rfl
  | cons a l ih =>
    cases bytes with
    | nil => rfl
    | cons b bytes =>
      obtain ⟨first, distinct⟩ := List.nodup_cons.1 distinct
      have fits : bytes.length ≤ l.length := Nat.le_of_succ_le_succ fits
      have keys := map_fst_zip_take fits
      have wf' := Memory.wf_write m wf a b
      have head : Memory.read (Memory.writeAll (Memory.write m a b) (l.zip bytes)) a = b := by
        rw [read_writeAll_of_notMem (by rw [keys]; exact distinct.sublist (List.take_sublist _ _)) wf'
          (by rw [keys]; exact fun mem => first (List.mem_of_mem_take mem)), Memory.read_write m wf, if_pos rfl]
      show Memory.read (Memory.writeAll (Memory.write m a b) (l.zip bytes)) a ::
        (l.take bytes.length).map (Memory.read (Memory.writeAll (Memory.write m a b) (l.zip bytes))) = _
      rw [head, ih distinct fits wf']

/-! ## The requests still to be made when a frame ends -/

theorem growTo_of_not_storing {p : Port} {n k : Nat} {s : State} (not : ∀ r m, (s.port p).rx ≠ .storing r m) : growTo p n k s = s := by
  cases k with
  | zero => rfl
  | succ k =>
    rw [growTo]
    split
    · next r m storing => exact absurd storing (not r m)
    · rfl

theorem growTo_succ {p : Port} {n k : Nat} {s : State} {r : RecordIx} {m : Nat} (storing : (s.port p).rx = .storing r m) :
    growTo p n (k + 1) s =
      if (s.record r).cellCount * 128 < n ∧ (s.record r).cellCount < 12 then growTo p n k (outgrow p s) else s := by
  rw [growTo, storing]
  rfl

theorem growTo_of_holds {p : Port} {n k : Nat} {s : State} {r : RecordIx} {m : Nat} (storing : (s.port p).rx = .storing r m)
    (holds : 12 ≤ (s.record r).cellCount ∨ n ≤ (s.record r).cellCount * 128) : growTo p n k s = s := by
  cases k with
  | zero => rfl
  | succ k => rw [growTo_succ storing, if_neg (by omega)]

theorem growTo_of_outgrow {p : Port} {n : Nat} {s : State} (same : outgrow p s = s) (k : Nat) : growTo p n k s = s := by
  induction k with
  | zero => rfl
  | succ k ih =>
    rw [growTo]
    split
    · rw [same, ih]; exact ite_self s
    · rfl

/-- A request gives the frame a cell, ends its storing, or leaves nothing for a further one to change. -/
theorem outgrow_progress {p : Port} {s : State} {r : RecordIx} {n : Nat} (storing : (s.port p).rx = .storing r n)
    (room : (s.record r).cellCount < 12) :
    (∀ r' m, ((outgrow p s).port p).rx ≠ .storing r' m) ∨
      ((outgrow p s).port p).rx = .storing r ((s.record r).cellCount * 128 + 1) ∧
        (outgrow p (outgrow p s) = outgrow p s ∨ ((outgrow p s).record r).cellCount = (s.record r).cellCount + 1) := by
  rw [outgrow_storing storing, if_pos room, requestCell]
  cases allowed : cellAllowed p s.mem with
  | false =>
    left
    rw [if_neg Bool.false_ne_true, abandon_storing storing]
    intro r' m
    rw [port_modPort_self]
    nofun
  | true =>
    right
    rw [if_pos rfl]
    refine ⟨by rw [setRx, port_modPort_self], ?_⟩
    cases free : s.mem.free with
    | nil =>
      left
      have storing' : ((setRx p (.storing r ((s.record r).cellCount * 128 + 1)) s).port p).rx =
          .storing r ((s.record r).cellCount * 128 + 1) := by rw [setRx, port_modPort_self]
      rw [giveCell_nil free, outgrow_storing storing']
      refine (if_pos room).trans ((if_pos allowed).trans ?_)
      rw [giveCell_nil (s := setRx p _ s) free, setRx, setRx, modPort_modPort]
      rfl
    | cons c rest =>
      right
      show ((giveCell r s).record r).cellCount = _
      rw [giveCell_record free, if_pos rfl]

theorem growTo_succ_eq {p : Port} {n k : Nat} {s : State}
    (enough : ∀ r m, (s.port p).rx = .storing r m → 12 ≤ k + (s.record r).cellCount) : growTo p n (k + 1) s = growTo p n k s := by
  induction k generalizing s with
  | zero =>
    by_cases storing : ∃ r m, (s.port p).rx = .storing r m
    · obtain ⟨r, m, storing⟩ := storing
      exact growTo_of_holds storing (.inl (by have := enough r m storing; omega))
    · exact growTo_of_not_storing fun r m h => storing ⟨r, m, h⟩
  | succ k ih =>
    by_cases storing : ∃ r m, (s.port p).rx = .storing r m
    · obtain ⟨r, m, storing⟩ := storing
      rw [growTo_succ storing, growTo_succ storing]
      split
      · next more =>
        rcases outgrow_progress storing more.2 with ended | ⟨storing', same | grown⟩
        · rw [growTo_of_not_storing ended, growTo_of_not_storing ended]
        · rw [growTo_of_outgrow same, growTo_of_outgrow same]
        · refine ih fun r' m' h => ?_
          rw [storing'] at h
          cases h
          rw [grown]
          have := enough r m storing
          omega
      · rfl
    · rw [growTo_of_not_storing fun r m h => storing ⟨r, m, h⟩, growTo_of_not_storing fun r m h => storing ⟨r, m, h⟩]

/-- The next request made by itself changes nothing in how the frame ends (01 R2, log 8). -/
theorem growTo_outgrow {p : Port} {n : Nat} {s : State} {r : RecordIx} {m : Nat} (storing : (s.port p).rx = .storing r m)
    (some : 1 ≤ (s.record r).cellCount) (room : (s.record r).cellCount < 12) (longer : (s.record r).cellCount * 128 < n) :
    growTo p n 12 s = growTo p n 12 (outgrow p s) := by
  rw [growTo_succ (k := 11) storing, if_pos ⟨longer, room⟩]
  rcases outgrow_progress storing room with ended | ⟨storing', same | grown⟩
  · rw [growTo_of_not_storing ended, growTo_of_not_storing ended]
  · rw [growTo_of_outgrow same, growTo_of_outgrow same]
  · refine (growTo_succ_eq fun r' m' h => ?_).symm
    rw [storing'] at h
    cases h
    rw [grown]
    omega

/-! ## The end of a frame -/

theorem endsTooSoon_storing {p : Port} {s : State} {r : RecordIx} {m n : Nat} (storing : (s.port p).rx = .storing r m) :
    endsTooSoon p n s = decide (n < m) := by rw [endsTooSoon, storing]

theorem exec_frameEnd_of_arrived {p : Port} {s : State} {bytes : List Byte} (good : Bool)
    (arrived : endsTooSoon p bytes.length s = false) :
    exec (.frameEnd p bytes good) s = .next (settleFrame p bytes good (arriveTo p bytes.length s)) :=
  congrArg Host.Outcome.next (if_neg (by rw [arrived]; nofun))

theorem arriveTo_of_holds {p : Port} {n : Nat} {s : State} {r : RecordIx} {m : Nat} (storing : (s.port p).rx = .storing r m)
    (holds : n ≤ (s.record r).cellCount * 128) (short : n ≤ 1522) : arriveTo p n s = s := by
  unfold arriveTo
  simp only [growTo_of_holds storing (.inr holds)]
  exact if_neg (Nat.not_lt.2 short)

theorem settleFrame_discarding {p : Port} {bytes : List Byte} {good : Bool} {s : State} {why : DiscardReason}
    (discarding : (s.port p).rx = .discarding why) : settleFrame p bytes good s = s.modPort p (fun u =>
      { u with rx := .idle, counters := u.counters.modify (portCounterIx (discardCounter why)) satIncrement }) := by
  rw [settleFrame, discarding]
  exact modPort_modPort _ _ _ _

theorem settleFrame_storing {p : Port} {bytes : List Byte} {good : Bool} {s : State} {r : RecordIx} {m : Nat}
    (storing : (s.port p).rx = .storing r m) : settleFrame p bytes good s =
      if bytes.length < 64 then countPort p .rxShort (releaseRecord r (setRx p .idle s))
      else if (!good) = true then countPort p .rxCheck (releaseRecord r (setRx p .idle s))
      else if isGroup (readHeader bytes).src = true then countPort p .rxBadsrc (releaseRecord r (setRx p .idle s))
      else if (s.port p).intake.length < 2 then joinIntake p r bytes (setRx p .idle s)
      else countPort p .rxOverrun (releaseRecord r (setRx p .idle s)) := by
  rw [settleFrame, storing]
  rfl

theorem countPort_released {p : Port} {r : RecordIx} {s : State} (c : PortCounter) :
    countPort p c (releaseRecord r (setRx p .idle s)) = (releaseRecord r s).modPort p (fun u =>
      { u with rx := .idle, counters := u.counters.modify (portCounterIx c) satIncrement }) :=
  modPort_modPort (releaseRecord r s) p (fun u => { u with rx := .idle })
    (fun u => { u with counters := u.counters.modify (portCounterIx c) satIncrement })

theorem joinIntake_eq {p : Port} {r : RecordIx} {bytes : List Byte} {s : State} : joinIntake p r bytes (setRx p .idle s) = { s with
    ports := s.ports.modify p (fun u => { u with
      rx := .idle, intake := u.intake ++ [r]
      counters := u.counters.modify (portCounterIx .rxFrames) satIncrement })
    mem := { s.mem with
      bytes := Memory.writeAll s.mem.bytes ((cellAddresses (cellsOf s.mem r)).zip bytes)
      records := s.mem.records.modify r (fun x => { x with
        stage := .deciding, length := bytes.length, ingress := p, arrival := s.time.ms, rehomed := false }) } } := by
  simp only [joinIntake, countPort, State.modPort, State.modRecord, setRx, writeFrame, Tab.modify_modify]

end Sys2Proof.Machine

section

open Sys2Proof Sys2Proof.Machine

/-- Settles O11: what is left of the frame's arrival, then the first case that applies. -/
theorem frameEndTaken : Obligations.FrameEndTaken := by
  refine ⟨fun s p bytes good => ⟨fun why discarding => ?_, fun r n storing arrived holds short fails => ?_⟩,
    fun s p bytes r n storing arrived long short holds single room cells distinct canonical => ?_,
    fun s p bytes good => ⟨fun idle => ?_, fun r n storing => ⟨fun soon => ?_, fun arrived some more longer => ?_,
      fun arrived long holds => ?_⟩⟩⟩
  · have not : ∀ r m, (s.port p).rx ≠ .storing r m := fun r m h => by rw [discarding] at h; nomatch h
    have whole : arriveTo p bytes.length s = s := by
      unfold arriveTo
      simp only [growTo_of_not_storing not, tooLong_of_not_storing not, ite_self]
    rw [exec_frameEnd_of_arrived good (by rw [endsTooSoon, discarding]), whole, settleFrame_discarding discarding]
    cases why <;> rfl
  · rw [exec_frameEnd_of_arrived good (by rw [endsTooSoon_storing storing, decide_eq_false (Nat.not_lt.2 arrived)]),
      arriveTo_of_holds storing holds short, settleFrame_storing storing]
    simp only [countPort_released, readHeader_src, isGroup]
    by_cases tiny : bytes.length < 64
    · rw [if_pos tiny, if_pos tiny]
    · rw [if_neg tiny, if_neg tiny]
      cases good with
      | false => rfl
      | true =>
        rw [if_neg (show ¬ (!true) = true by decide), if_neg (show ¬ true = false by decide)]
        by_cases group : (addrOf ((bytes.drop 6).take 6)).getLsbD 40 = true
        · rw [if_pos group, if_pos group]
        · have full : 2 ≤ (s.port p).intake.length :=
            ((fails.resolve_left tiny).resolve_left (by nofun)).resolve_left group
          rw [if_neg group, if_neg group, if_neg (Nat.not_lt.2 full)]
  · rw [exec_frameEnd_of_arrived true (by rw [endsTooSoon_storing storing, decide_eq_false (Nat.not_lt.2 arrived)]),
      arriveTo_of_holds storing holds short, settleFrame_storing storing, if_neg (Nat.not_lt.2 long),
      if_neg (show ¬ (!true) = true by decide), readHeader_src, isGroup, single, if_neg Bool.false_ne_true, if_pos room, joinIntake_eq]
    have addresses := cellAddresses_nodup _ distinct
    have fits : bytes.length ≤ (cellAddresses (cellsOf s.mem r)).length := by rw [cellAddresses_length, cells]; exact holds
    have keys := map_fst_zip_take fits
    refine ⟨_, rfl, rfl, ?_, Memory.wf_writeAll _ _ canonical, fun a other => ?_⟩
    · refine Eq.trans ?_ (map_read_writeAll_zip addresses fits canonical)
      have chain : ∀ bytes', cellsOf { s.mem with
          bytes := bytes'
          records := s.mem.records.modify r (fun x => { x with
            stage := .deciding, length := bytes.length, ingress := p, arrival := s.time.ms, rehomed := false }) } r =
          cellsOf s.mem r := fun _ => by simp only [cellsOf, Tab.get_modify_self]
      rw [frameBytes, firstBytes, chain]
      simp only [Tab.get_modify_self]
    · exact read_writeAll_of_notMem (by rw [keys]; exact addresses.sublist (List.take_sublist _ _)) canonical (by rw [keys]; exact other)
  · have not : ∀ r m, (s.port p).rx ≠ .storing r m := fun r m h => by rw [idle] at h; nomatch h
    have whole : arriveTo p bytes.length s = s := by
      unfold arriveTo
      simp only [growTo_of_not_storing not, tooLong_of_not_storing not, ite_self]
    rw [exec_frameEnd_of_arrived good (by rw [endsTooSoon, idle]), whole, settleFrame, idle]
  · exact congrArg Host.Outcome.next (if_pos (by rw [endsTooSoon_storing storing]; exact decide_eq_true soon))
  · refine ⟨outgrow p s, rfl, ?_⟩
    have later : endsTooSoon p bytes.length (outgrow p s) = false := by
      rcases outgrow_progress storing more with ended | ⟨storing', -⟩
      · unfold endsTooSoon
        split
        · next r' m h => exact absurd h (ended r' m)
        · rfl
      · rw [endsTooSoon_storing storing', decide_eq_false (by omega)]
    rw [exec_frameEnd_of_arrived good (by rw [endsTooSoon_storing storing, decide_eq_false (Nat.not_lt.2 arrived)]),
      exec_frameEnd_of_arrived good later]
    have grown := growTo_outgrow storing some more longer
    simp only [arriveTo, Config.maxCells, grown]
  · have ended : tooLong p s = (releaseRecord r s).modPort p (fun u => { u with rx := .discarding .long }) := abandon_storing storing
    rw [exec_frameEnd_of_arrived good (by rw [endsTooSoon_storing storing, decide_eq_false (Nat.not_lt.2 arrived)])]
    have whole : arriveTo p bytes.length s = tooLong p s := by
      unfold arriveTo
      simp only [growTo_of_holds storing holds]
      exact if_pos long
    rw [whole, ended, settleFrame_discarding (why := .long) (by rw [port_modPort_self]), modPort_modPort]
    rfl

end

/-! # The arbiter, and what is done with a frame of each kind -/

namespace Sys2Proof.Machine

open Sys2Proof

/-! ## What a decision keeps -/

theorem Inner.arb {s t : State} (h : Inner s t) : t.arb = s.arb := by
  cases h with
  | still h => exact h.bounds.2.2.1
  | giveCell => simp
  | release => rfl
  | write => rfl
  | record => rfl
  | queue => rfl
  | tx => rfl
  | held => rfl

theorem Inners.arb {s t : State} (h : Inners s t) : t.arb = s.arb := by
  induction h with
  | refl => rfl
  | tail _ step ih => exact step.arb.trans ih

theorem Inners.intake {s t : State} (h : Inners s t) (p : Port) : (t.port p).intake = (s.port p).intake := by
  have view := congrArg PortUnit.intake (inners_view h p)
  exact view

/-! ## The arbiter -/

theorem hasWaiting_iff {s : State} {p : Port} : hasWaiting s p = true ↔ (s.port p).intake ≠ [] := by
  unfold hasWaiting
  cases (s.port p).intake <;> simp

/-- The place of a carriage port in the round from the one after `last` (01 R8). -/
def turn (last p : Port) : Nat := (p.val + 55 - last.val) % 56

theorem pairwise_carriagePorts : carriagePorts.Pairwise (· < ·) := (List.pairwise_lt_finRange 58).filter _

theorem carriageOrder_pairwise {last : Port} (carriage : 2 ≤ last.val) :
    (carriageOrder last).Pairwise (fun p q => turn last p < turn last q) := by
  have small : ∀ p ∈ carriagePorts, 2 ≤ p.val := fun p mem => of_decide_eq_true (mem_carriagePorts.1 mem)
  refine List.pairwise_append.2 ⟨?_, ?_, ?_⟩
  · refine (pairwise_carriagePorts.filter _).imp_of_mem fun {p q} hp hq less => ?_
    have after : last.val < p.val := of_decide_eq_true (List.mem_filter.1 hp).2
    have less : p.val < q.val := less
    unfold turn
    omega
  · refine (pairwise_carriagePorts.filter _).imp_of_mem fun {p q} hp hq less => ?_
    have upto : q.val ≤ last.val := of_decide_eq_true (List.mem_filter.1 hq).2
    have first := small p (List.mem_filter.1 hp).1
    have less : p.val < q.val := less
    unfold turn
    omega
  · intro p hp q hq
    have after : last.val < p.val := of_decide_eq_true (List.mem_filter.1 hp).2
    have upto : q.val ≤ last.val := of_decide_eq_true (List.mem_filter.1 hq).2
    have first := small q (List.mem_filter.1 hq).1
    unfold turn
    omega

theorem mem_carriageOrder {last p : Port} : p ∈ carriageOrder last ↔ isCarriage p = true := by
  rw [carriageOrder, List.mem_append, List.mem_filter, List.mem_filter, mem_carriagePorts, ← and_or_left, decide_eq_true_eq,
    decide_eq_true_eq]
  exact and_iff_left (lt_or_ge last p)

/-- In a list in rising order of a key the first element that satisfies a test is the one with the least key. -/
theorem find?_eq_some_of_least {α : Type} {key : α → Nat} {test : α → Bool} {l : List α} (sorted : l.Pairwise (fun x y => key x < key y))
    {x : α} (mem : x ∈ l) (holds : test x = true) (least : ∀ y ∈ l, test y = true → key x ≤ key y) : l.find? test = some x := by
  induction l with
  | nil => cases mem
  | cons y l ih =>
    obtain ⟨first, sorted⟩ := List.pairwise_cons.1 sorted
    rcases List.mem_cons.1 mem with rfl | later
    · exact List.find?_cons_of_pos holds
    · have fails : test y ≠ true := fun h => absurd (least y List.mem_cons_self h) (Nat.not_le.2 (first x later))
      rw [List.find?_cons_of_neg fails]
      exact ih sorted later fun z hz => least z (List.mem_cons_of_mem _ hz)

theorem hasWaiting_sides {s : State} (fore : hasWaiting s 0 = false) (aft : hasWaiting s 1 = false) (b : Side) :
    hasWaiting s (sidePort b) = false := by
  cases b
  · exact fore
  · exact aft

theorem arbitrate_other {s : State} (waits : hasWaiting s (sidePort (otherSide s.arb.lastBackbone)) = true) :
    arbitrate s = some (sidePort (otherSide s.arb.lastBackbone), { s.arb with lastBackbone := otherSide s.arb.lastBackbone }) :=
  if_pos waits

theorem arbitrate_same {s : State} (none : hasWaiting s (sidePort (otherSide s.arb.lastBackbone)) = false)
    (waits : hasWaiting s (sidePort s.arb.lastBackbone) = true) : arbitrate s = some (sidePort s.arb.lastBackbone, s.arb) :=
  (if_neg (by rw [none]; nofun)).trans (if_pos waits)

theorem arbitrate_carriage {s : State} (none : ∀ b, hasWaiting s (sidePort b) = false) :
    arbitrate s = ((carriageOrder s.arb.lastCarriage).find? (hasWaiting s)).map (fun p => (p, { s.arb with lastCarriage := p })) :=
  (if_neg (by rw [none]; nofun)).trans (if_neg (by rw [none]; nofun))

/-! ## The take -/

/-- The state in which a frame taken from a port is decided: the port is the last served, and the frame has left its place. -/
def takenFrom (s : State) (p : Port) (a : Arbiter) (rest : List RecordIx) : State :=
  ({ s with arb := a } : State).modPort p (fun u => { u with intake := rest })

theorem exec_takeFrame_of_waiting {s : State} {p : Port} {a : Arbiter} {r : RecordIx} {rest : List RecordIx}
    (chosen : arbitrate s = some (p, a)) (waiting : (s.port p).intake = r :: rest) :
    exec .takeFrame s = .next (decideFrame p r (takenFrom s p a rest)) := by
  refine congrArg Host.Outcome.next ?_
  rw [takeOldest, chosen]
  simp only [waiting]
  rfl

theorem state_takenFrom {s : State} {p : Port} {a : Arbiter} {rest : List RecordIx} :
    ((takenFrom s p a rest).port p).state = (s.port p).state := by rw [takenFrom, port_modPort_self]; rfl

theorem decideFrame_side {b : Side} {r : RecordIx} {s : State} : decideFrame (sidePort b) r s = (match s.line.part with
    | .service => decideBackbone b r s
    | .transit => decideTransit b r s
    | .reset => releaseRecord r s) := by
  unfold decideFrame
  rw [portClass_side]
  cases s.line.part <;> rfl

/-- A carriage frame of a port that is OFF or DOWN, or outside SERVICE, is not decided (01 R10). -/
theorem decideFrame_undecided {p : Port} {r : RecordIx} {s : State} (carriage : isCarriage p = true)
    (stopped : s.line.part ≠ .service ∨ isUpOrHeld (s.port p).state = false) : decideFrame p r s = releaseRecord r s := by
  unfold decideFrame
  split
  · next b h _ => exact absurd h (portClass_carriage p carriage b)
  · next b h _ => exact absurd h (portClass_carriage p carriage b)
  · rfl
  · next service _ => exact if_neg (by rw [stopped.resolve_left (not_not.2 service)]; nofun)
  · rfl

end Sys2Proof.Machine

section

open Sys2Proof Sys2Proof.Machine

/-- Settles O12: the two backbone cases, and the first waiting port in the order of the round. -/
theorem arbiterChoosesPort : Obligations.ArbiterChoosesPort := by
  refine ⟨rfl, fun s => ⟨fun p => hasWaiting_iff, fun p a r rest chosen waiting => ?_, ?_, ?_, ?_, fun none => ?_⟩⟩
  · refine ⟨_, exec_takeFrame_of_waiting chosen waiting, ?_, ?_⟩
    · rw [Inners.arb (inners_decideFrame _ p r)]; rfl
    · rw [Inners.intake (inners_decideFrame _ p r), takenFrom, port_modPort_self]
  · rintro b rfl waits
    exact arbitrate_other waits
  · rintro b rfl none waits
    exact arbitrate_same none waits
  · intro fore aft served p carriage waits least
    rw [arbitrate_carriage (hasWaiting_sides fore aft), find?_eq_some_of_least (carriageOrder_pairwise served)
      (mem_carriageOrder.2 carriage) waits fun q mem => least q (mem_carriageOrder.1 mem)]
    rfl
  · have idle : arbitrate s = Option.none := by
      rw [arbitrate_carriage fun b => none _, List.find?_eq_none.2 fun q _ => by rw [none]; nofun]
      rfl
    exact congrArg Host.Outcome.next (by rw [takeOldest, idle])

end

/-! # Frames of each kind -/

namespace Sys2Proof.Machine

open Sys2Proof

theorem decideCarriage_management {p : Port} {r : RecordIx} {s : State}
    (management : (readHeader (frameBytes s.mem r)).etype.toNat = 0x9A47) :
    decideCarriage p r s = .error (countGlobal .mgmtFromCarriage s) := if_pos management

/-- The decision on a carriage frame that is no management frame, from the source lookup on (01 R11). -/
theorem decideCarriage_of_other {p : Port} {r : RecordIx} {s : State}
    (other : (readHeader (frameBytes s.mem r)).etype.toNat ≠ 0x9A47) : decideCarriage p r s =
      (sourceEntry (readHeader (frameBytes s.mem r)).src p s >>= fun found => do
        let t ← testBarred found.1 found.2
        let u ← attachStep found.1 p t
        match lookup (markSeen found.1 u).table (readHeader (frameBytes s.mem r)).dst with
        | some d => neighbour found.1 d r (markSeen found.1 u)
        | none => upstream found.1 (classify .up (readHeader (frameBytes s.mem r)).dst (readHeader (frameBytes s.mem r))
            (markSeen found.1 u).cls) r (markSeen found.1 u)) := if_neg other

/-- A through frame offered to a port that has no link (01 R20). -/
theorem throughOffer_unlinked {b : Side} {r : RecordIx} {s : State} (unlinked : (s.port (sidePort b)).link = false) :
    throughOffer b r s = .error (countGlobal .throughDrops s) := if_pos (by rw [unlinked]; rfl)

theorem queueAdmits_through {b : Side} {n : Nat} {s : State} (link : (s.port (sidePort b)).link = true) :
    queueAdmits (.through b) n s = true ↔ (s.port (sidePort b)).flush = none ∧
      (s.queue (.through b)).tally + n ≤ (s.queue (.through b)).limit := by
  unfold queueAdmits portTakes
  rw [show queuePort (.through b) = sidePort b from rfl, isCarriage_sidePort, if_neg Bool.false_ne_true, link]
  simp

theorem throughOffer_admitted {b : Side} {r : RecordIx} {s : State} (link : (s.port (sidePort b)).link = true)
    (admits : queueAdmits (.through b) (s.record r).cellCount s = true) :
    throughOffer b r s = .ok (setClass r .through none (enqueue (.through b) r s)) :=
  (if_neg (by rw [link]; nofun)).trans (if_pos admits)

theorem throughOffer_refused {b : Side} {r : RecordIx} {s : State} (link : (s.port (sidePort b)).link = true)
    (refused : queueAdmits (.through b) (s.record r).cellCount s = false) :
    throughOffer b r s = .error (countDrop (.through b) s) :=
  (if_neg (by rw [link]; nofun)).trans (if_neg (by rw [refused]; nofun))

theorem decideManagement_unmatched {b : Side} {r : RecordIx} {s : State}
    (unmatched : targetMatches s.line (readMgmtHeader (frameBytes s.mem r)) = false) :
    decideManagement b r s = settleVerdict r (throughOffer (otherSide b) r s) := if_neg (by rw [unmatched]; nofun)

/-- In TRANSIT a backbone frame that is not for this part is through traffic (01 R20, R21). -/
theorem decideTransit_through {b : Side} {r : RecordIx} {s : State}
    (foreign : isManagement (readHeader (frameBytes s.mem r)) = true →
      targetMatches s.line (readMgmtHeader (frameBytes s.mem r)) = false) :
    decideTransit b r s = settleVerdict r (throughOffer (otherSide b) r s) := by
  unfold decideTransit
  split
  · next management => exact decideManagement_unmatched (foreign management)
  · rfl

/-- The take of a frame from a UP or HELD carriage port in SERVICE (01 R11). -/
theorem exec_takeFrame_carriage {s : State} {p : Port} {a : Arbiter} {r : RecordIx} {rest : List RecordIx}
    (chosen : arbitrate s = some (p, a)) (waiting : (s.port p).intake = r :: rest) (carriage : isCarriage p = true)
    (service : s.line.part = .service) (up : isUpOrHeld (s.port p).state = true) :
    exec .takeFrame s = .next (settleVerdict r (decideCarriage p r (takenFrom s p a rest))) := by
  rw [exec_takeFrame_of_waiting chosen waiting,
    decideFrame_carriage (s := takenFrom s p a rest) carriage r service (by rw [state_takenFrom]; exact up)]

theorem sourceEntry_settings {x : Addr} {p : Port} {s t : State} {i : StationIx} (found : sourceEntry x p s = .ok (i, t)) :
    t.cls = s.cls ∧ t.time = s.time := by
  unfold sourceEntry at found
  split at found
  · cases found; exact ⟨rfl, rfl⟩
  · split at found
    · cases found; simp
    · cases found

theorem attachStep_settings {i : StationIx} {p : Port} {s t : State} (attached : attachStep i p s = .ok t) :
    t.cls = s.cls ∧ t.time = s.time := by
  have kept : attachTo i p s = t → t.cls = s.cls ∧ t.time = s.time := fun h => by rw [← h]; simp
  unfold attachStep at attached
  split at attached
  · split at attached
    · cases attached
    · exact kept (Except.ok.inj attached)
  · split at attached
    · rw [Except.ok.inj attached]; exact ⟨rfl, rfl⟩
    · split at attached
      · cases attached
      · split at attached
        · cases attached
        · split at attached
          · cases attached
          · exact kept (Except.ok.inj attached)

theorem sidePort_otherSide_ne (b : Side) : sidePort (otherSide b) ≠ sidePort b := by cases b <;> decide

theorem port_takenFrom_other {s : State} {b : Side} {a : Arbiter} {rest : List RecordIx} :
    (takenFrom s (sidePort b) a rest).port (sidePort (otherSide b)) = s.port (sidePort (otherSide b)) := by
  rw [takenFrom, port_modPort_ne _ _ (sidePort_otherSide_ne b).symm]
  rfl

/-- A frame from the backbone in SERVICE that is neither of the management type nor from a station of the table (01 R18 to R20). -/
theorem decideBackbone_of_foreign {b : Side} {r : RecordIx} {s : State} (plain : isManagement (readHeader (frameBytes s.mem r)) = false)
    (foreign : lookup s.table (readHeader (frameBytes s.mem r)).src = none) : decideBackbone b r s =
      if isGroup (readHeader (frameBytes s.mem r)).dst then replicate b r s
      else match lookup s.table (readHeader (frameBytes s.mem r)).dst with
        | some d => settleVerdict r (downstream d (readHeader (frameBytes s.mem r)) r s)
        | none => settleVerdict r (throughOffer (otherSide b) r s) :=
  (if_neg (by rw [plain]; nofun)).trans ((if_neg (by rw [foreign]; nofun)).trans rfl)

end Sys2Proof.Machine

section

open Sys2Proof Sys2Proof.Machine

/-- Settles O13: the carriage frames not decided, the frames of TRANSIT, the carriage frames of SERVICE and the other backbone frames. -/
theorem frameTakenByKind : Obligations.FrameTakenByKind := by
  refine ⟨fun s p a r rest chosen carriage waiting => ⟨fun stopped => ?_, fun service up management => ?_⟩,
    fun s b a r rest chosen waiting transit foreign => ?_, fun s p a r rest chosen carriage waiting service up other => ?_,
    fun s b a r rest chosen waiting => ?_⟩
  · rw [exec_takeFrame_of_waiting chosen waiting, decideFrame_undecided carriage]
    · rfl
    · refine stopped.imp id fun state => ?_
      rw [state_takenFrom]
      rcases state with off | down
      · rw [off]; rfl
      · rw [down]; rfl
  · rw [exec_takeFrame_carriage chosen waiting carriage service up,
      decideCarriage_management (s := takenFrom s p a rest) management]
    rfl
  · intro taken out q
    have taken_eq : taken = takenFrom s (sidePort b) a rest := rfl
    have offered : exec .takeFrame s = .next (settleVerdict r (throughOffer (otherSide b) r taken)) := by
      rw [exec_takeFrame_of_waiting chosen waiting, decideFrame_side, show (takenFrom s (sidePort b) a rest).line.part = _ from transit]
      exact congrArg Host.Outcome.next (decideTransit_through (s := taken) foreign)
    have other : taken.port out = s.port out := port_takenFrom_other
    rw [offered]
    refine ⟨fun unlinked => ?_, fun link => ?_⟩
    · rw [throughOffer_unlinked (by rw [other]; exact unlinked)]
      rfl
    · have linked : (taken.port out).link = true := by rw [other]; exact link
      have admits := queueAdmits_through (n := (s.record r).cellCount) linked
      rw [other] at admits
      refine ⟨fun still room => ?_, fun refused => ?_⟩
      · rw [throughOffer_admitted linked (admits.2 ⟨still, room⟩)]
        refine congrArg Host.Outcome.next ?_
        exact setClass_enqueue q r taken (fun x => { x with cls := some .through, dest := none })
      · rw [throughOffer_refused linked (Bool.eq_false_iff.2 fun h => ?_)]
        · rfl
        · obtain ⟨still, room⟩ := admits.1 h
          exact refused.elim (fun runs => runs still) (fun beyond => absurd room (Nat.not_le.2 beyond))
  · intro h taken
    have decided : exec .takeFrame s = .next (settleVerdict r (decideCarriage p r taken)) :=
      exec_takeFrame_carriage chosen waiting carriage service up
    rw [decided, decideCarriage_of_other (s := taken) other]
    refine ⟨fun t failed => by rw [failed]; rfl, fun i t found => ⟨fun barred => ?_, fun free => ?_⟩⟩
    · rw [found]
      simp only [bind, Except.bind, testBarred, if_pos barred, settleVerdict]
    · have passes : testBarred i t = .ok t := if_neg free
      refine ⟨fun u failed => ?_, fun u attached => ?_⟩
      · rw [found]
        simp only [bind, Except.bind, passes, failed, settleVerdict]
      · intro v
        obtain ⟨cls, time⟩ := sourceEntry_settings found
        obtain ⟨cls', time'⟩ := attachStep_settings attached
        have seen : markSeen i u = v := by rw [markSeen, time', time]
        have classes : v.cls = s.cls := cls'.trans cls
        rw [found]
        simp only [bind, Except.bind, passes, attached, seen, classes]
        refine ⟨fun d known => ?_, fun unknown => ?_⟩
        · rw [show lookup v.table (readHeader (frameBytes taken.mem r)).dst = some d from known]
        · rw [show lookup v.table (readHeader (frameBytes taken.mem r)).dst = none from unknown]
  · intro h taken
    have taken_eq : takenFrom s (sidePort b) a rest = taken := rfl
    rw [exec_takeFrame_of_waiting chosen waiting, taken_eq, decideFrame_side, show taken.line = s.line from rfl]
    refine ⟨fun out management => ?_, fun service plain foreign => ?_⟩
    · cases part : s.line.part with
      | reset => exact absurd part out
      | service => exact congrArg Host.Outcome.next (if_pos management)
      | transit => exact congrArg Host.Outcome.next (if_pos management)
    · rw [service]
      have decides := decideBackbone_of_foreign (b := b) (r := r) (s := taken) plain foreign
      refine ⟨fun group => congrArg Host.Outcome.next (decides.trans (if_pos group)), fun single unknown => ?_⟩
      refine congrArg Host.Outcome.next (decides.trans ((if_neg (by rw [single]; nofun)).trans ?_))
      rw [show lookup taken.table (readHeader (frameBytes taken.mem r)).dst = none from unknown]

end

/-! # Headers and the hand-over of management frames -/

namespace Sys2Proof.Machine

open Sys2Proof

/-! ## Fields at their places -/

theorem take_drop_of_eq {α : Type} {bs pre x rest : List α} {k n : Nat} (bytes : bs = pre ++ (x ++ rest)) (place : pre.length = k)
    (length : x.length = n) : (bs.drop k).take n = x := by
  rw [bytes, List.drop_left' place, List.take_left' length]

theorem field16_of_eq {bs pre rest : List Byte} {k : Nat} {t : BitVec 16} (bytes : bs = pre ++ (beBytes 2 t.toNat ++ rest))
    (place : pre.length = k) : field16 bs k = t := by
  rw [field16, take_drop_of_eq bytes place (beBytes_length 2 _), beNat_beBytes, Nat.mod_eq_of_lt (by exact t.isLt)]
  exact BitVec.ofNat_toNat _ _ |>.trans (BitVec.setWidth_eq t)

theorem byteAt_of_eq {bs pre rest : List Byte} {k n : Nat} (bytes : bs = pre ++ (beBytes 1 n ++ rest)) (place : pre.length = k)
    (small : n < 256) : byteAt bs k = n := by
  rw [byteAt, take_drop_of_eq bytes place (beBytes_length 1 _), beNat_beBytes, Nat.mod_eq_of_lt (by simpa using small)]

theorem addrOf_addrBytes (a : Addr) : addrOf (addrBytes a) = a := by
  rw [addrOf, addrBytes, beNat_beBytes, Nat.mod_eq_of_lt (by exact a.isLt)]
  exact BitVec.ofNat_toNat _ _ |>.trans (BitVec.setWidth_eq a)

theorem addrBytes_length (a : Addr) : (addrBytes a).length = 6 := beBytes_length 6 _

theorem addrOf_of_eq {bs pre rest : List Byte} {k : Nat} {a : Addr} (bytes : bs = pre ++ (addrBytes a ++ rest))
    (place : pre.length = k) : addrOf ((bs.drop k).take 6) = a := by
  rw [take_drop_of_eq bytes place (addrBytes_length a), addrOf_addrBytes]

theorem readHeader_untagged {dst src : Addr} {etype : BitVec 16} {rest : List Byte} (untagged : etype.toNat ≠ 0x8100) :
    readHeader (addrBytes dst ++ (addrBytes src ++ (beBytes 2 etype.toNat ++ rest))) =
      { dst := dst, src := src, etype := etype, tag := none, body := 14 } := by
  have places : (addrBytes dst ++ addrBytes src).length = 12 := by simp [addrBytes_length]
  have type := field16_of_eq (k := 12) (t := etype) (bs := addrBytes dst ++ (addrBytes src ++ (beBytes 2 etype.toNat ++ rest)))
    (by rw [List.append_assoc]) places
  have source := addrOf_of_eq (k := 6) (a := src) rfl (addrBytes_length dst) (rest := beBytes 2 etype.toNat ++ rest)
  have target := addrOf_of_eq (pre := []) (k := 0) (a := dst) rfl rfl (rest := addrBytes src ++ (beBytes 2 etype.toNat ++ rest))
  rw [List.drop_zero] at target
  unfold readHeader
  simp only [type]
  rw [if_neg (by exact untagged), source]
  exact congrArg (fun a => ({ dst := a, src := src, etype := etype, tag := none, body := 14 } : Header)) target

theorem readHeader_tagged {dst src : Addr} {etype tag : BitVec 16} {rest : List Byte} :
    readHeader (addrBytes dst ++ (addrBytes src ++ ([0x81, 0x00] ++ (beBytes 2 tag.toNat ++ (beBytes 2 etype.toNat ++ rest))))) =
      { dst := dst, src := src, etype := etype, tag := some tag, body := 18 } := by
  generalize frame : addrBytes dst ++ (addrBytes src ++ ([0x81, 0x00] ++ (beBytes 2 tag.toNat ++ (beBytes 2 etype.toNat ++ rest)))) = bs
  have marked : field16 bs 12 = 0x8100#16 := field16_of_eq (pre := addrBytes dst ++ addrBytes src)
    (rest := beBytes 2 tag.toNat ++ (beBytes 2 etype.toNat ++ rest)) (by rw [← frame, List.append_assoc]; rfl) (by simp [addrBytes_length])
  have control : field16 bs 14 = tag := field16_of_eq (pre := addrBytes dst ++ (addrBytes src ++ [0x81, 0x00]))
    (rest := beBytes 2 etype.toNat ++ rest) (by rw [← frame]; simp) (by simp [addrBytes_length])
  have type : field16 bs 16 = etype := field16_of_eq (pre := addrBytes dst ++ (addrBytes src ++ ([0x81, 0x00] ++ beBytes 2 tag.toNat)))
    (rest := rest) (by rw [← frame]; simp) (by simp [addrBytes_length])
  have source : addrOf ((bs.drop 6).take 6) = src := addrOf_of_eq frame.symm (addrBytes_length dst)
  have target : addrOf (bs.take 6) = dst := addrOf_of_eq (pre := []) (k := 0) frame.symm rfl
  unfold readHeader
  simp only [marked, control, type, source, target]
  rfl

theorem drop_byte (n k : Nat) (rest : List Byte) : (beBytes 1 n ++ rest).drop (k + 1) = rest.drop k := rfl

theorem drop_pair (n k : Nat) (rest : List Byte) : (beBytes 2 n ++ rest).drop (k + 2) = rest.drop k := rfl

theorem drop_addr (a : Addr) (k : Nat) (rest : List Byte) : (addrBytes a ++ rest).drop (k + 6) = rest.drop k := rfl

theorem beNat_take_byte {n : Nat} (small : n < 256) (rest : List Byte) : beNat ((beBytes 1 n ++ rest).take 1) = n :=
  byteAt_of_eq (pre := []) (k := 0) rfl rfl small

/-- The header of a management body, read at its places (12 R173). -/
theorem readMgmtHeader_of_body {m : MgmtHeader} {bytes rest : List Byte}
    (small : m.version < 256 ∧ m.kind < 256 ∧ m.form < 256 ∧ m.position < 256 ∧ m.count < 256)
    (body : bytes.drop (readHeader bytes).body = beBytes 1 m.version ++ (beBytes 1 m.kind ++ (beBytes 1 m.form ++
      (beBytes 1 m.position ++ (addrBytes m.ident ++ (beBytes 2 m.tag.toNat ++ (beBytes 1 m.count ++ rest))))))) :
    readMgmtHeader bytes = m := by
  obtain ⟨version, kind, form, position, count⟩ := small
  unfold readMgmtHeader
  simp only
  generalize (readHeader bytes).body = b at body
  have first : byteAt bytes b = m.version := by rw [byteAt, body, beNat_take_byte version]
  have second : byteAt bytes (b + 1) = m.kind := by
    rw [byteAt, ← List.drop_drop, body, drop_byte, List.drop_zero, beNat_take_byte kind]
  have third : byteAt bytes (b + 2) = m.form := by
    rw [byteAt, ← List.drop_drop, body, drop_byte, drop_byte, List.drop_zero, beNat_take_byte form]
  have fourth : byteAt bytes (b + 3) = m.position := by
    rw [byteAt, ← List.drop_drop, body, drop_byte, drop_byte, drop_byte, List.drop_zero, beNat_take_byte position]
  have ident : addrOf ((bytes.drop (b + 4)).take 6) = m.ident := by
    rw [← List.drop_drop, body, drop_byte, drop_byte, drop_byte, drop_byte, List.drop_zero, List.take_left' (addrBytes_length _),
      addrOf_addrBytes]
  have tag : field16 bytes (b + 10) = m.tag := by
    rw [field16, ← List.drop_drop, body, drop_byte, drop_byte, drop_byte, drop_byte, drop_addr]
    exact field16_of_eq (pre := []) (k := 0) rfl rfl
  have last : byteAt bytes (b + 12) = m.count := by
    rw [byteAt, ← List.drop_drop, body, drop_byte, drop_byte, drop_byte, drop_byte, drop_addr, drop_pair, List.drop_zero,
      beNat_take_byte count]
  rw [first, second, third, fourth, ident, tag, last]

/-! ## The hand-over -/

theorem targetMatches_iff (l : LineController) (m : MgmtHeader) : targetMatches l m = true ↔
    m.form = 0 ∨ (m.form = 1 ∧ m.position = l.position.val ∧ l.position ≠ 0) ∨ (m.form = 2 ∧ m.ident = l.deviceId) := by
  unfold targetMatches
  split <;> simp_all

end Sys2Proof.Machine

section

open Sys2Proof Sys2Proof.Machine

/-- Settles O14: the target, the two headers, and the hand-over by the kind of the frame and the room of the input queue. -/
theorem managementFrameHanded : Obligations.ManagementFrameHanded := by
  refine ⟨targetMatches_iff, fun h rest untagged body => ?_, fun m bytes rest small body => ?_, fun s b r => ?_⟩
  · obtain ⟨dst, src, etype, tag, place⟩ := h
    cases tag with
    | none =>
      have place : place = 14 := body
      subst place
      simpa using readHeader_untagged (dst := dst) (src := src) (rest := rest) (untagged rfl)
    | some t =>
      have place : place = 18 := body
      subst place
      simpa using readHeader_tagged (dst := dst) (src := src) (etype := etype) (tag := t) (rest := rest)
  · refine readMgmtHeader_of_body (rest := rest) ?_ (by simpa using body)
    simpa using small
  · intro bytes matching handed
    have hands : handOver b r s = handed := by
      unfold handOver
      simp only [readHeader_src]
      rfl
    refine ⟨fun form => ?_, fun all => ?_⟩
    · rw [← hands]
      exact (if_pos matching).trans (if_neg form)
    · rw [← hands]
      exact (if_pos matching).trans (if_pos all)

end

/-! # Learning, attachment and the charge of an allowance -/

namespace Sys2Proof.Machine

open Sys2Proof

/-! ## Attachment -/

theorem seatFull_iff {p : Port} {s : State} : seatFull p s = true ↔ 10 ≤ p.val ∧ (s.port p).seatLimit ≤ (s.port p).seatCount := by
  simp only [seatFull, isSeat, Bool.and_eq_true, decide_eq_true_eq]

theorem attachTo_eq (i : StationIx) (p : Port) (s : State) : attachTo i p s = { s with
    ports := if 10 ≤ p.val then (seatLeft (s.entry i).attachment s.ports).modify p (fun u => { u with seatCount := u.seatCount + 1 })
      else seatLeft (s.entry i).attachment s.ports
    table := { s.table with entries := s.table.entries.modify i (fun e =>
      { e with attachment := some p, recentlyMoved := true, movedAt := s.time.ms }) } } := by
  rw [attachTo, modSeatCount_eq, detachStation_eq]
  simp only [State.modEntry, Tab.modify_modify]

theorem holdOffRunning_iff {i : StationIx} {s : State} : holdOffRunning i s = true ↔
    (s.entry i).recentlyMoved = true ∧ (s.time.ms - (s.entry i).movedAt).toNat < s.roam.holdOff := by
  rw [holdOffRunning, Bool.and_eq_true, decide_eq_true_eq]
  rfl

/-- The flap count after a refused move (05 R84). -/
def flapped (e : StationEntry) : Nat := min 15 (e.flapCount + 1)

/-- A move refused below the flap limit (05 R84). -/
theorem refuseMove_below {i : StationIx} {p : Port} {s : State} (below : flapped (s.entry i) < s.roam.flapLimit) :
    refuseMove i p s = s.modEntry i (fun e => { e with
      flapCount := flapped (s.entry i), counters := e.counters.modify (stationCounterIx .refused) satIncrement }) := by
  have counted : (((countStation i .refused s).modEntry i (fun e => { e with flapCount := min 15 (e.flapCount + 1) })).entry i).flapCount =
      flapped (s.entry i) := by rw [entry_modEntry_self, countStation, entry_modEntry_self]; rfl
  refine (if_neg (by rw [counted]; exact Nat.not_le.2 below)).trans ?_
  rw [countStation, modEntry_modEntry]
  exact modEntry_congr rfl

/-- A move refused at the flap limit pins the station (05 R84). -/
theorem refuseMove_pinning {i : StationIx} {p : Port} {s : State} (reached : s.roam.flapLimit ≤ flapped (s.entry i)) :
    refuseMove i p s = postPinned i p (s.modEntry i (fun e => { e with
      flapCount := flapped (s.entry i), pinned := true
      counters := e.counters.modify (stationCounterIx .refused) satIncrement })) := by
  have counted : (((countStation i .refused s).modEntry i (fun e => { e with flapCount := min 15 (e.flapCount + 1) })).entry i).flapCount =
      flapped (s.entry i) := by rw [entry_modEntry_self, countStation, entry_modEntry_self]; rfl
  refine (if_pos (by rw [counted]; exact reached)).trans ?_
  rw [countStation, modEntry_modEntry, modEntry_modEntry]
  exact congrArg (postPinned i p) (modEntry_congr rfl)

end Sys2Proof.Machine

section

open Sys2Proof Sys2Proof.Machine

/-- Settles O16. -/
theorem sourceLearned : Obligations.SourceLearned := by
  intro s a p
  refine ⟨fun i hit => by rw [sourceEntry, hit], fun miss => ⟨fun i way => ?_, fun full => ?_⟩⟩
  · rw [sourceEntry, miss]
    simp only [way]
    rw [postLearned_eq]
    have address : ((createEntry i a s).entry i).addr = a := by rw [entry_createEntry, if_pos rfl]; rfl
    rw [address]
    simp only [createEntry, State.modEntry, Tab.modify_modify]
    rw [Tab.modify_eq_set]
    rfl
  · rw [sourceEntry, miss]
    simp only [full]
    rfl

/-- Settles O17, case by case of the attachment step. -/
theorem attachmentStepTaken : Obligations.AttachmentStepTaken := by
  intro s i p counted seats full attached
  have fullIff : seatFull p s = true ↔ full := seatFull_iff
  refine ⟨fun own => ?_, fun detached => ⟨fun isFull => ?_, fun room => ?_⟩, fun j other differs => ⟨fun pinned => ?_, fun free => ?_⟩⟩
  · rw [attachStep, own]
    exact if_pos rfl
  · rw [attachStep, detached]
    exact if_pos (fullIff.2 isFull)
  · rw [attachStep, detached]
    simp only [if_neg (mt fullIff.1 room), attachTo_eq, detached]
    rfl
  · rw [attachStep, other]
    simp only [if_neg differs, if_pos pinned]
    rfl
  · intro held flap
    have step : attachStep i p s = if holdOffRunning i s = true then .error (refuseMove i p s)
        else if seatFull p s = true then .error (countStation i .seatLimit s) else .ok (attachTo i p s) := by
      rw [attachStep, other]
      simp only [if_neg differs, free, if_false, Bool.false_eq_true]
    have heldIff : holdOffRunning i s = true ↔ held := holdOffRunning_iff
    rw [step]
    refine ⟨fun running below => ?_, fun running reached => ?_, fun ended isFull => ?_, fun ended room => ?_⟩
    · rw [if_pos (heldIff.2 running), refuseMove_below below]
      rfl
    · rw [if_pos (heldIff.2 running), refuseMove_pinning reached, postPinned_eq]
      have address : ((s.modEntry i (fun e => { e with
          flapCount := flapped (s.entry i), pinned := true
          counters := e.counters.modify (stationCounterIx .refused) satIncrement })).entry i).addr = (s.entry i).addr := by
        rw [entry_modEntry_self]
      rw [address]
      simp only [State.modEntry, Tab.modify_modify]
      rfl
    · rw [if_neg (mt heldIff.1 ended), if_pos (fullIff.2 isFull)]
      rfl
    · rw [if_neg (mt heldIff.1 ended), if_neg (mt fullIff.1 room), attachTo_eq, other]
      rfl

/-- Settles O18. -/
theorem allowanceCharged : Obligations.AllowanceCharged := by
  intro s i g n pays
  have paysIff : (g.counted && (s.entry i).metered && !(s.entry i).spent) = true ↔ pays := by
    simp only [Bool.and_eq_true, Bool.not_eq_true', and_assoc]
    rfl
  refine ⟨fun exempt => if_neg (mt paysIff.1 exempt), fun due covered => ?_, fun due exhausted => ?_⟩
  · exact (if_pos (paysIff.2 due)).trans (if_pos covered)
  · refine (if_pos (paysIff.2 due)).trans ((if_neg (Nat.not_lt.2 exhausted)).trans ?_)
    rw [postSpent_eq, entry_modEntry_self]
    simp only [State.modEntry, Tab.modify_modify]
    rfl

end

/-! # The decision on an upstream frame -/

namespace Sys2Proof.Machine

open Sys2Proof

/-! ## The classifier -/

/-- Agreement with a value wherever a mask has a one (03 R44). -/
theorem and_mask_eq_iff {w : Nat} (a value mask : BitVec w) :
    a &&& mask = value &&& mask ↔ ∀ k, mask.getLsbD k = true → a.getLsbD k = value.getLsbD k := by
  refine ⟨fun same k set => ?_, fun agrees => BitVec.eq_of_getLsbD_eq fun k _ => ?_⟩
  · have bit := congrArg (fun x : BitVec w => x.getLsbD k) same
    simpa only [BitVec.getLsbD_and, set, Bool.and_true] using bit
  · rw [BitVec.getLsbD_and, BitVec.getLsbD_and]
    cases set : mask.getLsbD k with
    | false => rw [Bool.and_false, Bool.and_false]
    | true => rw [agrees k set]

theorem vlanId_toNat (t : BitVec 16) : (vlanId t).toNat = t.toNat % 4096 := by
  rw [vlanId, BitVec.truncate, BitVec.toNat_setWidth]

theorem zoneMatches_iff (z : ZoneEntry) (a : Addr) (h : Header) : zoneMatches z a h = true ↔
    z.valid = true ∧ (∀ k, z.fields.mask.getLsbD k = true → a.getLsbD k = z.fields.value.getLsbD k) ∧
    (∀ t, z.fields.etype = some t → h.etype = t) ∧
    (∀ v, z.fields.vlan = some v → ∃ t, h.tag = some t ∧ t.toNat % 4096 = v.toNat) := by
  have etype : (match z.fields.etype with | none => true | some t => decide (h.etype = t)) = true ↔
      ∀ t, z.fields.etype = some t → h.etype = t := by
    cases z.fields.etype <;> simp
  have vlan : (match z.fields.vlan, h.tag with
      | none, _ => true
      | some _, none => false
      | some v, some t => decide (vlanId t = v)) = true ↔
      ∀ v, z.fields.vlan = some v → ∃ t, h.tag = some t ∧ t.toNat % 4096 = v.toNat := by
    cases z.fields.vlan with
    | none => simp
    | some v =>
      cases h.tag with
      | none => simp
      | some t => simp [← vlanId_toNat, BitVec.toNat_inj]
  unfold zoneMatches
  rw [Bool.and_eq_true, Bool.and_eq_true, Bool.and_eq_true, decide_eq_true_eq, and_mask_eq_iff, and_assoc, and_assoc]
  exact and_congr_right fun _ => and_congr_right fun _ => and_congr etype vlan

theorem takesPart_iff (l : Leg) (d : Direction) : takesPart l d = true ↔ d ≠ (match l with | .up => .down | .down => .up) := by
  cases l <;> cases d <;> decide

theorem queueAdmits_of_takes {q : QueueId} {n : Nat} {s t : State} (queues : t.queues = s.queues)
    (port : ((t.port (queuePort q)).state, (t.port (queuePort q)).link, (t.port (queuePort q)).flush) =
      ((s.port (queuePort q)).state, (s.port (queuePort q)).link, (s.port (queuePort q)).flush)) :
    queueAdmits q n t = queueAdmits q n s := by
  simp only [Prod.mk.injEq] at port
  obtain ⟨state, link, flush⟩ := port
  unfold queueAdmits portTakes State.queue
  rw [queues, state, link, flush]

/-- The take of a frame changes nothing for the admission to a queue (06 R105). -/
theorem queueAdmits_takenFrom (q : QueueId) (n : Nat) (s : State) (p : Port) (a : Arbiter) (rest : List RecordIx) :
    queueAdmits q n (takenFrom s p a rest) = queueAdmits q n s := by
  refine queueAdmits_of_takes rfl ?_
  rw [takenFrom, port_modPort]
  split
  · next same => rw [← same]; rfl
  · rfl

/-- The zone that a frame takes from an entry (03 R45). -/
theorem classify_eq (l : Leg) (a : Addr) (h : Header) (c : Classifier) : classify l a h c =
    match (List.finRange 64).find? (fun i => takesPart l (c.zones.get i).fields.dir && zoneMatches (c.zones.get i) a h) with
    | some i => (c.zones.get i).fields.zone.castLE (by decide)
    | none => 15 := by
  unfold classify
  rw [Tab.toList_eq_map_get, List.find?_map]
  show (match Option.map c.zones.get ((List.finRange 64).find? (fun i =>
    takesPart l (c.zones.get i).fields.dir && zoneMatches (c.zones.get i) a h)) with | some z => _ | none => _) = _
  cases (List.finRange 64).find? (fun i => takesPart l (c.zones.get i).fields.dir && zoneMatches (c.zones.get i) a h) <;> rfl

end Sys2Proof.Machine

section

open Sys2Proof Sys2Proof.Machine

/-- Settles O19: the zone of a frame by the search through the match table, the decision by the up leg of a known source. -/
theorem upstreamFrameDecided : Obligations.UpstreamFrameDecided := by
  refine ⟨zoneMatches_iff, fun l a h c => ?_, ?_⟩
  · intro agrees
    have test : ∀ i, (takesPart l (c.zones.get i).fields.dir && zoneMatches (c.zones.get i) a h) = true ↔ agrees i := fun i => by
      rw [Bool.and_eq_true, takesPart_iff] <;> cases l <;> rfl
    refine ⟨fun i holds first => ?_, fun none => ?_⟩
    · have found := find?_eq_some_of_least (key := fun i : Fin 64 => i.val) (List.pairwise_lt_finRange 64) (List.mem_finRange i)
        ((test i).2 holds) fun j _ agreed => Nat.le_of_not_lt fun less => first j less ((test j).1 agreed)
      rw [classify_eq, found]
      rfl
    · have missing := List.find?_eq_none.2 fun (i : Fin 64) (_ : i ∈ List.finRange 64) agreed => none i ((test i).1 agreed)
      rw [classify_eq, missing]
  · intro s p a r rest i b chosen carriage waiting service up gateway h plain source unbarred attached unknown g n q seen tested taken
      entries dropped
    let heard := markSeen i taken
    have decided : exec .takeFrame s = .next (settleVerdict r (upstream i (classify .up h.dst h s.cls) r heard)) := by
      have found : sourceEntry (readHeader (frameBytes taken.mem r)).src p taken = .ok (i, taken) := by
        rw [sourceEntry, show lookup taken.table (readHeader (frameBytes taken.mem r)).src = some i from source]
      have passes : testBarred i taken = .ok taken := if_neg unbarred
      have stays : attachStep i p taken = .ok taken := by
        rw [attachStep, show (taken.entry i).attachment = some p from attached]
        exact if_pos rfl
      have missing : lookup heard.table (readHeader (frameBytes taken.mem r)).dst = none := by
        refine (lookup_congr _ s.table _ fun j => ?_).trans unknown
        show ((markSeen i taken).entry j).state = (s.entry j).state ∧ ((markSeen i taken).entry j).addr = (s.entry j).addr
        rw [markSeen, entry_modEntry]
        split
        · next same => subst same; exact ⟨rfl, rfl⟩
        · exact ⟨rfl, rfl⟩
      rw [exec_takeFrame_carriage chosen waiting carriage service up, show takenFrom s p a rest = taken from rfl,
        decideCarriage_of_other (s := taken) plain]
      refine congrArg (fun v => Host.Outcome.next (settleVerdict r v)) ?_
      show (sourceEntry (readHeader (frameBytes taken.mem r)).src p taken >>= _) = _
      rw [found]
      simp only [bind, Except.bind, passes, stays]
      rw [show markSeen i taken = heard from rfl, missing] <;> rfl
    have entry : heard.entry i = seen := by
      show (markSeen i taken).entry i = _
      rw [markSeen, entry_modEntry_self]
      rfl
    obtain ⟨unpermitted, policed, passed⟩ := upstream_eq i (classify .up h.dst h s.cls) r heard b gateway
    rw [entry] at unpermitted policed passed
    have written : ∀ e, ({ heard with table := { heard.table with entries := heard.table.entries.set i e } } : State) =
        { taken with table := entries e } := fun e => by
      have once : heard.table.entries.set i e = s.table.entries.set i e := Tab.set_set _ _ _ _
      rw [once]
      rfl
    have admission : queueAdmits q (s.record r).cellCount heard = queueAdmits q (s.record r).cellCount s :=
      queueAdmits_takenFrom q _ s p a rest
    rw [← admission, decided]
    refine ⟨fun none => ?_, fun permitted => ⟨fun pays poor => ?_, fun rich => ⟨fun spent => ?_, fun funded => ⟨fun refused => ?_, fun admits => ?_⟩⟩⟩⟩
    · rw [unpermitted none]
      exact congrArg (fun t => Host.Outcome.next (releaseRecord r t)) (written _)
    · rw [policed permitted pays poor]
      exact congrArg (fun t => Host.Outcome.next (releaseRecord r t)) (written _)
    · rw [(passed permitted rich).1 spent]
      exact congrArg (fun t => Host.Outcome.next (releaseRecord r t)) (written _)
    · rw [((passed permitted rich).2 funded).1 refused]
      exact congrArg (fun t => Host.Outcome.next (releaseRecord r (raise .queueDrop (countDrop q t)))) (written _)
    · rw [((passed permitted rich).2 funded).2 admits]
      refine (congrArg (fun t => Host.Outcome.next (countStation i .upFrames (chargeAllowance g i n
        (setClass r (.grant g.cls) none (enqueue q r t))))) (written _)).trans ?_
      exact congrArg (fun t => Host.Outcome.next (countStation i .upFrames (chargeAllowance g i n t))) (setClass_enqueue q r _ _)

end

/-! # The tests of a decision, as changes of one entry -/

namespace Sys2Proof.Machine

open Sys2Proof

/-- The state with an entry of the table replaced. -/
def placed (s : State) (i : StationIx) (e : StationEntry) : State :=
  { s with table := { s.table with entries := s.table.entries.set i e } }

theorem placed_entry_self (s : State) (i : StationIx) (e : StationEntry) : (placed s i e).entry i = e := Tab.get_set_self _ _ _

theorem placed_entry_ne (s : State) {i j : StationIx} (e : StationEntry) (differs : i ≠ j) : (placed s i e).entry j = s.entry j :=
  Tab.get_set_ne _ _ differs

theorem placed_self (s : State) (i : StationIx) : placed s i (s.entry i) = s := by
  have same : s.table.entries.set i (s.entry i) = s.table.entries := Tab.modify_id s.table.entries i
  unfold placed
  rw [same]

theorem placed_placed (s : State) (i : StationIx) (e f : StationEntry) : placed (placed s i e) i f = placed s i f := by
  simp only [placed, Tab.set_set]

theorem placed_comm (s : State) {i j : StationIx} (e f : StationEntry) (differs : i ≠ j) :
    placed (placed s i e) j f = placed (placed s j f) i e := by
  simp only [placed, Tab.set_comm _ _ _ differs]

theorem modEntry_eq_placed (s : State) (i : StationIx) (f : StationEntry → StationEntry) :
    s.modEntry i f = placed s i (f (s.entry i)) := rfl

/-- An entry with one of its counters risen (08 R140). -/
def StationEntry.counting (c : StationCounter) (e : StationEntry) : StationEntry :=
  { e with counters := e.counters.modify (stationCounterIx c) satIncrement }

theorem countStation_eq_placed (i : StationIx) (c : StationCounter) (s : State) :
    countStation i c s = placed s i ((s.entry i).counting c) := rfl

/-- An entry as a policing test leaves it (04 R67). -/
def testedEntry (g : Grant) (i : StationIx) (s : State) : StationEntry :=
  if g.policed then refilled (s.profile (s.entry i).profile).rates s.time.tick (s.entry i) else s.entry i

/-- The counter of a frame that fails a policing test (04 R67). -/
def policedCounter : Leg → StationCounter
  | .up => .upPoliced
  | .down => .downPoliced

theorem testPolicing_fails {l : Leg} {g : Grant} {i : StationIx} {s : State} (policed : g.policed = true)
    (poor : credit l (testedEntry g i s) < 1) :
    testPolicing l g i s = .error (placed s i ((testedEntry g i s).counting (policedCounter l))) := by
  have tested : refill i s = placed s i (testedEntry g i s) := by rw [testedEntry, if_pos policed]; rfl
  unfold testPolicing
  simp only [policed, if_true]
  rw [tested, placed_entry_self, if_neg (Int.not_le.2 poor), countStation_eq_placed, placed_entry_self, placed_placed]
  cases l <;> rfl

theorem testPolicing_passes {l : Leg} {g : Grant} {i : StationIx} {s : State}
    (rich : g.policed = true → 1 ≤ credit l (testedEntry g i s)) : testPolicing l g i s = .ok (placed s i (testedEntry g i s)) := by
  unfold testPolicing
  by_cases policed : g.policed = true
  · have tested : refill i s = placed s i (testedEntry g i s) := by rw [testedEntry, if_pos policed]; rfl
    simp only [policed, if_true]
    rw [tested, placed_entry_self, if_pos (rich policed)]
  · rw [if_neg policed, testedEntry, if_neg policed, placed_self]

/-- A spent station under a COUNTED grant (04 R71). -/
def spends (g : Grant) (e : StationEntry) : Prop := g.counted = true ∧ e.metered = true ∧ e.spent = true

theorem testAllowance_fails {g : Grant} {i : StationIx} {s : State} (spent : spends g (s.entry i)) :
    testAllowance g i s = .error (placed s i ((s.entry i).counting .spentDrops)) := by
  obtain ⟨counted, metered, spent⟩ := spent
  exact if_pos (by rw [counted, metered, spent]; rfl)

theorem testAllowance_passes {g : Grant} {i : StationIx} {s : State} (funded : ¬ spends g (s.entry i)) : testAllowance g i s = .ok s :=
  if_neg fun h => funded (by simpa only [spends, Bool.and_eq_true, and_assoc] using h)

theorem spends_testedEntry {g h : Grant} {i : StationIx} {s : State} : spends g (testedEntry h i s) ↔ spends g (s.entry i) := by
  unfold testedEntry
  split <;> rfl

theorem testPermit_fails {l : Leg} {g : Grant} {i : StationIx} {s : State} (not : permits l g = false) :
    testPermit l g i s = .error (placed s i ((s.entry i).counting .refused)) := if_neg (by rw [not]; nofun)

theorem testPermit_passes {l : Leg} {g : Grant} {i : StationIx} {s : State} (permitted : permits l g = true) :
    testPermit l g i s = .ok s := if_pos permitted

theorem testBarred_fails {d : StationIx} {s : State} (barred : (s.entry d).state = .barred) :
    testBarred d s = .error (placed s d ((s.entry d).counting .refused)) := if_pos barred

theorem testBarred_passes {d : StationIx} {s : State} (unbarred : (s.entry d).state ≠ .barred) : testBarred d s = .ok s :=
  if_neg unbarred

theorem testAttached_fails {d : StationIx} {s : State} (detached : (s.entry d).attachment = none) :
    testAttached d s = .error (countGlobal .unreachable s) := by rw [testAttached, detached]

theorem testAttached_passes {d : StationIx} {p : Port} {s : State} (attached : (s.entry d).attachment = some p) :
    testAttached d s = .ok p := by rw [testAttached, attached]

/-- An entry after the deduction of its up credit (04 R69). -/
def StationEntry.paidUp (g : Grant) (n : Nat) (e : StationEntry) : StationEntry :=
  if g.policed then { e with upCredit := e.upCredit - (n : Int) } else e

/-- An entry after the deduction of its down credit (04 R69). -/
def StationEntry.paidDown (g : Grant) (n : Nat) (e : StationEntry) : StationEntry :=
  if g.policed then { e with downCredit := e.downCredit - (n : Int) } else e

theorem deductCredit_up (g : Grant) (i : StationIx) (n : Nat) (s : State) :
    deductCredit .up g i n s = placed s i ((s.entry i).paidUp g n) := by
  unfold deductCredit StationEntry.paidUp
  split
  · rfl
  · exact (placed_self s i).symm

theorem deductCredit_down (g : Grant) (i : StationIx) (n : Nat) (s : State) :
    deductCredit .down g i n s = placed s i ((s.entry i).paidDown g n) := by
  unfold deductCredit StationEntry.paidDown
  split
  · rfl
  · exact (placed_self s i).symm

/-- A record admitted to the queue of its station's port (01 R16, 06 R105). -/
def joined (d : StationIx) (q : QueueId) (c : RecordClass) (r : RecordIx) (s : State) : State := { s with
  queues := s.queues.modify (queueIx q) (fun z => { z with records := z.records ++ [r], tally := z.tally + (s.record r).cellCount })
  mem := { s.mem with records := s.mem.records.modify r (fun z =>
    { z with stage := .queued, holders := z.holders + 1, cls := some c, dest := some d }) } }

theorem admitTo_admits {d : StationIx} {p : Port} {g : Grant} {r : RecordIx} {s : State}
    (admits : queueAdmits (stationQueue p g.cls) (s.record r).cellCount s = true) : admitTo d p g r s =
      .ok (placed (joined d (stationQueue p g.cls) (.grant g.cls) r s) d
        { s.entry d with heldCount := (s.entry d).heldCount + 1 }) := by
  refine (if_pos admits).trans ?_
  rw [setClass, setClass_enqueue]
  rfl

theorem admitTo_refuses {d : StationIx} {p : Port} {g : Grant} {r : RecordIx} {s : State}
    (refused : queueAdmits (stationQueue p g.cls) (s.record r).cellCount s = false) :
    admitTo d p g r s = .error (countDrop (stationQueue p g.cls) s) := if_neg (by rw [refused]; nofun)

end Sys2Proof.Machine

/-! # The decision on a neighbour frame -/

namespace Sys2Proof.Machine

open Sys2Proof

/-- What follows the policing tests of a neighbour frame (01 R15, R16). -/
def neighbourAdmission (i d : StationIx) (p : Port) (g h : Grant) (n : Nat) (r : RecordIx) (s : State) : Verdict := do
  let s ← testAllowance g i s
  let s ← testAllowance h d s
  let s ← admitTo d p h r s
  let s := deductCredit .down h d n (deductCredit .up g i n s)
  let s := chargeAllowance h d n (chargeAllowance g i n s)
  .ok (countStation d .downFrames (countStation i .upFrames s))

/-- What follows the tests of a neighbour frame that refill nothing (01 R14, R15). -/
def neighbourPolicing (i d : StationIx) (p : Port) (g h : Grant) (n : Nat) (r : RecordIx) (s : State) : Verdict := do
  let s ← testPolicing .up g i s
  let s ← testPolicing .down h d s
  neighbourAdmission i d p g h n r s

/-- The grant of zone 14, the zone of neighbour frames (01 R14). -/
def ownGrant (i : StationIx) (s : State) : Grant := (s.profile (s.entry i).profile).grants.get 14

theorem neighbour_eq (i d : StationIx) (r : RecordIx) (s : State) : neighbour i d r s = (do
    let s' ← testPermit .up (ownGrant i s) i s
    let s' ← testBarred d s'
    let s' ← testPermit .down (ownGrant d s) d s'
    let p ← testAttached d s'
    neighbourPolicing i d p (ownGrant i s) (ownGrant d s) (s.record r).length r s') := rfl

theorem neighbour_unpermitted {i d : StationIx} {r : RecordIx} {s : State} (not : (ownGrant i s).upPermit = false) :
    neighbour i d r s = .error (placed s i ((s.entry i).counting .refused)) := by
  rw [neighbour_eq, testPermit_fails (l := .up) not]
  rfl

theorem neighbour_refused {i d : StationIx} {r : RecordIx} {s : State} (permitted : (ownGrant i s).upPermit = true)
    (refused : (s.entry d).state = .barred ∨ (ownGrant d s).downPermit = false) :
    neighbour i d r s = .error (placed s d ((s.entry d).counting .refused)) := by
  rw [neighbour_eq, testPermit_passes (l := .up) permitted]
  by_cases barred : (s.entry d).state = .barred
  · simp only [bind, Except.bind, testBarred_fails barred]
  · simp only [bind, Except.bind, testBarred_passes barred, testPermit_fails (l := .down) (refused.resolve_left barred)]

section

variable {i d : StationIx} {r : RecordIx} {s : State} (permitted : (ownGrant i s).upPermit = true)
  (unbarred : (s.entry d).state ≠ .barred) (allowed : (ownGrant d s).downPermit = true)

include permitted unbarred allowed

theorem neighbour_detached (detached : (s.entry d).attachment = none) :
    neighbour i d r s = .error (countGlobal .unreachable s) := by
  rw [neighbour_eq, testPermit_passes (l := .up) permitted]
  simp only [bind, Except.bind, testBarred_passes unbarred, testPermit_passes (l := .down) allowed, testAttached_fails detached]

theorem neighbour_policed {p : Port} (attached : (s.entry d).attachment = some p) : neighbour i d r s =
    neighbourPolicing i d p (ownGrant i s) (ownGrant d s) (s.record r).length r s := by
  rw [neighbour_eq, testPermit_passes (l := .up) permitted]
  simp only [bind, Except.bind, testBarred_passes unbarred, testPermit_passes (l := .down) allowed, testAttached_passes attached]

end

section

variable {i d : StationIx} {p : Port} {g h : Grant} {n : Nat} {r : RecordIx} {s : State}

theorem neighbourPolicing_up_fails (policed : g.policed = true) (poor : (testedEntry g i s).upCredit < 1) :
    neighbourPolicing i d p g h n r s = .error (placed s i ((testedEntry g i s).counting .upPoliced)) := by
  unfold neighbourPolicing
  rw [testPolicing_fails (l := .up) policed poor]
  rfl

theorem neighbourPolicing_down_fails (rich : g.policed = true → 1 ≤ (testedEntry g i s).upCredit) (policed : h.policed = true)
    (poor : (testedEntry h d (placed s i (testedEntry g i s))).downCredit < 1) : neighbourPolicing i d p g h n r s =
      .error (placed (placed s i (testedEntry g i s)) d
        ((testedEntry h d (placed s i (testedEntry g i s))).counting .downPoliced)) := by
  unfold neighbourPolicing
  rw [testPolicing_passes (l := .up) rich]
  simp only [bind, Except.bind]
  rw [testPolicing_fails (l := .down) policed poor]
  rfl

theorem neighbourPolicing_passes (rich : g.policed = true → 1 ≤ (testedEntry g i s).upCredit)
    (rich' : h.policed = true → 1 ≤ (testedEntry h d (placed s i (testedEntry g i s))).downCredit) :
    neighbourPolicing i d p g h n r s = neighbourAdmission i d p g h n r
      (placed (placed s i (testedEntry g i s)) d (testedEntry h d (placed s i (testedEntry g i s)))) := by
  unfold neighbourPolicing
  rw [testPolicing_passes (l := .up) rich]
  simp only [bind, Except.bind]
  rw [testPolicing_passes (l := .down) rich']

theorem neighbourAdmission_up_spent (spent : spends g (s.entry i)) :
    neighbourAdmission i d p g h n r s = .error (placed s i ((s.entry i).counting .spentDrops)) := by
  unfold neighbourAdmission
  rw [testAllowance_fails spent]
  rfl

theorem neighbourAdmission_down_spent (funded : ¬ spends g (s.entry i)) (spent : spends h (s.entry d)) :
    neighbourAdmission i d p g h n r s = .error (placed s d ((s.entry d).counting .spentDrops)) := by
  unfold neighbourAdmission
  rw [testAllowance_passes funded]
  simp only [bind, Except.bind, testAllowance_fails spent]

variable (funded : ¬ spends g (s.entry i)) (funded' : ¬ spends h (s.entry d))

include funded funded'

theorem neighbourAdmission_refused (refused : queueAdmits (stationQueue p h.cls) (s.record r).cellCount s = false) :
    neighbourAdmission i d p g h n r s = .error (countDrop (stationQueue p h.cls) s) := by
  unfold neighbourAdmission
  rw [testAllowance_passes funded]
  simp only [bind, Except.bind, testAllowance_passes funded', admitTo_refuses refused]

theorem neighbourAdmission_admitted (admits : queueAdmits (stationQueue p h.cls) (s.record r).cellCount s = true) :
    neighbourAdmission i d p g h n r s = .ok (countStation d .downFrames (countStation i .upFrames (chargeAllowance h d n
      (chargeAllowance g i n (deductCredit .down h d n (deductCredit .up g i n
        (placed (joined d (stationQueue p h.cls) (.grant h.cls) r s) d
          { s.entry d with heldCount := (s.entry d).heldCount + 1 }))))))) := by
  unfold neighbourAdmission
  rw [testAllowance_passes funded]
  simp only [bind, Except.bind, testAllowance_passes funded', admitTo_admits admits]

end

/-! ## Two stations -/

/-- The state with two entries of the table replaced. -/
def bothPlaced (s : State) (i d : StationIx) (e f : StationEntry) : State := placed (placed s i e) d f

theorem testedEntry_placed_ne {g : Grant} {i d : StationIx} {s : State} (e : StationEntry) (differs : i ≠ d) :
    testedEntry g d (placed s i e) = testedEntry g d s := by
  unfold testedEntry
  rw [placed_entry_ne s e differs]
  rfl

theorem bothPlaced_of_first (s : State) {i d : StationIx} (e : StationEntry) (differs : i ≠ d) :
    placed s i e = bothPlaced s i d e (s.entry d) := by
  have same : (placed s i e).entry d = s.entry d := placed_entry_ne s e differs
  rw [bothPlaced, ← same, placed_self]

theorem bothPlaced_of_second (s : State) (i d : StationIx) (f : StationEntry) : placed s d f = bothPlaced s i d (s.entry i) f := by
  rw [bothPlaced, placed_self]

theorem bothPlaced_entry_first (s : State) {i d : StationIx} (e f : StationEntry) (differs : i ≠ d) :
    (bothPlaced s i d e f).entry i = e := by
  rw [bothPlaced, placed_entry_ne _ _ (Ne.symm differs), placed_entry_self]

theorem bothPlaced_entry_second (s : State) (i d : StationIx) (e f : StationEntry) : (bothPlaced s i d e f).entry d = f :=
  placed_entry_self _ _ _

theorem placed_bothPlaced_first (s : State) {i d : StationIx} (e f e' : StationEntry) (differs : i ≠ d) :
    placed (bothPlaced s i d e f) i e' = bothPlaced s i d e' f := by
  rw [bothPlaced, placed_comm _ _ _ (Ne.symm differs), placed_placed]
  rfl

theorem placed_bothPlaced_second (s : State) (i d : StationIx) (e f f' : StationEntry) :
    placed (bothPlaced s i d e f) d f' = bothPlaced s i d e f' := placed_placed _ _ _ _

end Sys2Proof.Machine

/-! # Neighbour frames: two stations, and a station's own frames -/

namespace Sys2Proof.Machine

open Sys2Proof

section

variable {i d : StationIx} (differs : i ≠ d) {s : State} {g h : Grant} {n : Nat} {p : Port} {r : RecordIx}

include differs

/-- The state after the two policing tests of a neighbour frame (04 R67). -/
theorem policed_bothPlaced : placed (placed s i (testedEntry g i s)) d (testedEntry h d (placed s i (testedEntry g i s))) =
    bothPlaced s i d (testedEntry g i s) (testedEntry h d s) := by
  rw [testedEntry_placed_ne _ differs]
  rfl

/-- The commit of a neighbour frame before the charges of the allowances (04 R69). -/
theorem deducted_bothPlaced (x y : StationEntry) :
    deductCredit .down h d n (deductCredit .up g i n (placed (joined d (stationQueue p h.cls) (.grant h.cls) r (bothPlaced s i d x y)) d
      { (bothPlaced s i d x y).entry d with heldCount := ((bothPlaced s i d x y).entry d).heldCount + 1 })) =
    bothPlaced (joined d (stationQueue p h.cls) (.grant h.cls) r s) i d
      (x.paidUp g n) (StationEntry.paidDown h n { y with heldCount := y.heldCount + 1 }) := by
  have first : joined d (stationQueue p h.cls) (.grant h.cls) r (bothPlaced s i d x y) =
      bothPlaced (joined d (stationQueue p h.cls) (.grant h.cls) r s) i d x y := rfl
  rw [bothPlaced_entry_second, first, placed_bothPlaced_second, deductCredit_up, bothPlaced_entry_first _ _ _ differs,
    placed_bothPlaced_first _ _ _ _ differs, deductCredit_down, bothPlaced_entry_second, placed_bothPlaced_second]

end

/-! ## A station's own frame -/

theorem refilled_refilled (r : Rates) (t : Stamp) (e : StationEntry) : refilled r t (refilled r t e) = refilled r t e := by
  have none : Stamp.since t t = 0 := by rw [Stamp.since, BitVec.sub_self]; rfl
  unfold refilled
  simp only [none, Nat.mul_zero, Int.natCast_zero, Int.add_zero]
  rw [Int.min_eq_right (Int.min_le_left _ _), Int.min_eq_right (Int.min_le_left _ _)]

theorem testedEntry_testedEntry (g : Grant) (i : StationIx) (s : State) :
    testedEntry g i (placed s i (testedEntry g i s)) = testedEntry g i s := by
  have profile : (testedEntry g i s).profile = (s.entry i).profile := by
    unfold testedEntry
    split <;> rfl
  by_cases policed : g.policed = true
  · have outer : testedEntry g i (placed s i (testedEntry g i s)) =
        refilled (s.profile (testedEntry g i s).profile).rates s.time.tick (testedEntry g i s) := by
      unfold testedEntry
      rw [if_pos policed, placed_entry_self]
      rfl
    rw [outer, profile]
    unfold testedEntry
    rw [if_pos policed, refilled_refilled]
  · unfold testedEntry
    rw [if_neg policed, if_neg policed, placed_entry_self]

theorem policed_placed {g : Grant} {i : StationIx} {s : State} :
    placed (placed s i (testedEntry g i s)) i (testedEntry g i (placed s i (testedEntry g i s))) = placed s i (testedEntry g i s) := by
  rw [testedEntry_testedEntry, placed_placed]

end Sys2Proof.Machine

section

open Sys2Proof Sys2Proof.Machine

/-- Settles O20: the tests in their order, each by what it makes of the entries of the two stations, or of the one. -/
theorem neighbourFrameDecided : Obligations.NeighbourFrameDecided := by
  refine ⟨fun s i d r differs => ?_, fun s i r => ?_⟩
  · intro g h n x y both counting spent
    refine ⟨fun none => ?_, fun permitted => ⟨fun refused => ?_, fun unbarred allowed => ⟨fun detached => ?_, fun p attached => ?_⟩⟩⟩
    · rw [neighbour_unpermitted none, bothPlaced_of_first s _ differs]
      rfl
    · rw [neighbour_refused permitted refused, bothPlaced_of_second s i d]
      rfl
    · exact neighbour_detached permitted unbarred allowed detached
    · rw [neighbour_policed permitted unbarred allowed attached]
      have later : ∀ e, testedEntry (ownGrant d s) d (placed s i e) = y := fun e => testedEntry_placed_ne e differs
      refine ⟨fun policed poor => ?_, fun rich => ⟨fun policed poor => ?_, fun rich' => ?_⟩⟩
      · rw [neighbourPolicing_up_fails (g := ownGrant i s) policed poor, bothPlaced_of_first s _ differs]
        rfl
      · rw [neighbourPolicing_down_fails (g := ownGrant i s) (h := ownGrant d s) rich policed (by rw [later]; exact poor), later]
        rfl
      · rw [neighbourPolicing_passes (g := ownGrant i s) (h := ownGrant d s) rich (by rw [later]; exact rich'), policed_bothPlaced differs]
        have source : (bothPlaced s i d (testedEntry (ownGrant i s) i s) (testedEntry (ownGrant d s) d s)).entry i = x :=
          bothPlaced_entry_first s _ _ differs
        have target : (bothPlaced s i d (testedEntry (ownGrant i s) i s) (testedEntry (ownGrant d s) d s)).entry d = y :=
          bothPlaced_entry_second s i d _ _
        have spendsSource : spends (ownGrant i s) x ↔ spent g (s.entry i) := spends_testedEntry
        have spendsTarget : spends (ownGrant d s) y ↔ spent h (s.entry d) := spends_testedEntry
        refine ⟨fun spentSource => ?_, fun funded spentTarget => ?_, fun funded funded' => ⟨fun refused => ?_, fun admits => ?_⟩⟩
        · rw [neighbourAdmission_up_spent (by rw [source]; exact spendsSource.2 spentSource), source,
            placed_bothPlaced_first _ _ _ _ differs]
          rfl
        · rw [neighbourAdmission_down_spent (by rw [source]; exact mt spendsSource.1 funded)
            (by rw [target]; exact spendsTarget.2 spentTarget), target, placed_bothPlaced_second]
          rfl
        · rw [neighbourAdmission_refused (h := ownGrant d s) (s := bothPlaced s i d (testedEntry (ownGrant i s) i s) (testedEntry (ownGrant d s) d s))
            (by rw [source]; exact mt spendsSource.1 funded)
            (by rw [target]; exact mt spendsTarget.1 funded') refused]
          rfl
        · rw [neighbourAdmission_admitted (h := ownGrant d s) (s := bothPlaced s i d (testedEntry (ownGrant i s) i s) (testedEntry (ownGrant d s) d s))
            (by rw [source]; exact mt spendsSource.1 funded)
            (by rw [target]; exact mt spendsTarget.1 funded') admits, deducted_bothPlaced differs]
          rfl
  · intro g n x own dropped
    refine ⟨fun refused => ?_, fun permitted unbarred allowed => ⟨fun detached => ?_, fun p attached => ?_⟩⟩
    · by_cases none : (ownGrant i s).upPermit = false
      · exact neighbour_unpermitted none
      · exact neighbour_refused (Bool.of_not_eq_false none) (refused.resolve_left none)
    · exact neighbour_detached permitted unbarred allowed detached
    · rw [neighbour_policed permitted unbarred allowed attached]
      have again : testedEntry (ownGrant i s) i (placed s i (testedEntry (ownGrant i s) i s)) = x := testedEntry_testedEntry _ _ _
      refine ⟨fun policed poor => neighbourPolicing_up_fails policed poor, fun policed rich poor => ?_, fun rich => ?_⟩
      · rw [neighbourPolicing_down_fails (g := ownGrant i s) (h := ownGrant i s) (fun _ => rich) policed (by rw [again]; exact poor), again, placed_placed]
        rfl
      · intro spent q
        rw [neighbourPolicing_passes (g := ownGrant i s) (h := ownGrant i s) (fun policed => (rich policed).1) (by rw [again]; exact fun policed => (rich policed).2),
          policed_placed]
        have entry : (placed s i (testedEntry (ownGrant i s) i s)).entry i = x := placed_entry_self _ _ _
        have spendsOwn : spends (ownGrant i s) x ↔ spent := spends_testedEntry
        refine ⟨fun isSpent => ?_, fun funded refused => ?_, fun funded admits => ?_⟩
        · rw [neighbourAdmission_up_spent (by rw [entry]; exact spendsOwn.2 isSpent), entry, placed_placed]
          rfl
        · have open' : ¬ spends (ownGrant i s) ((placed s i (testedEntry (ownGrant i s) i s)).entry i) := by
            rw [entry]; exact mt spendsOwn.1 funded
          rw [neighbourAdmission_refused (h := ownGrant i s) (s := placed s i (testedEntry (ownGrant i s) i s))
            open' open' refused]
          rfl
        · have open' : ¬ spends (ownGrant i s) ((placed s i (testedEntry (ownGrant i s) i s)).entry i) := by
            rw [entry]; exact mt spendsOwn.1 funded
          rw [neighbourAdmission_admitted (h := ownGrant i s) (s := placed s i (testedEntry (ownGrant i s) i s))
            open' open' admits, entry]
          have first : joined i q (.grant g.cls) r (placed s i x) = placed (joined i q (.grant g.cls) r s) i x := rfl
          have paid : StationEntry.paidDown g n (StationEntry.paidUp g n { x with heldCount := x.heldCount + 1 }) =
              { x with
                upCredit := if g.policed then x.upCredit - (n : Int) else x.upCredit
                downCredit := if g.policed then x.downCredit - (n : Int) else x.downCredit
                heldCount := x.heldCount + 1 } := by
            unfold StationEntry.paidDown StationEntry.paidUp
            cases g.policed <;> rfl
          have deducted : deductCredit .down g i n (deductCredit .up g i n (placed (joined i q (.grant g.cls) r (placed s i x)) i
              { x with heldCount := x.heldCount + 1 })) = placed (joined i q (.grant g.cls) r s) i
                (StationEntry.paidDown g n (StationEntry.paidUp g n { x with heldCount := x.heldCount + 1 })) := by
            rw [first, placed_placed, deductCredit_up, placed_entry_self, placed_placed, deductCredit_down, placed_entry_self,
              placed_placed]
          refine congrArg (fun t => Except.ok (countStation i .downFrames (countStation i .upFrames (chargeAllowance g i n
            (chargeAllowance g i n t))))) (deducted.trans ?_)
          rw [paid]
          rfl

end

/-! # The decision on a downstream frame -/

namespace Sys2Proof.Machine

open Sys2Proof

theorem queueAdmits_iff (s : State) (q : QueueId) (cells : Nat) : queueAdmits q cells s = true ↔
    (isCarriage (queuePort q) = true → (s.port (queuePort q)).state = .up ∨ (s.port (queuePort q)).state = .held) ∧
    (isCarriage (queuePort q) = false → (s.port (queuePort q)).link = true) ∧
    (s.port (queuePort q)).flush = none ∧ (s.queue q).tally + cells ≤ (s.queue q).limit := by
  unfold queueAdmits portTakes
  cases isCarriage (queuePort q) <;> simp [and_assoc]

/-- The grant of a downstream frame: of the zone of its source address (01 R19). -/
def downGrant (d : StationIx) (h : Header) (s : State) : Grant :=
  (s.profile (s.entry d).profile).grants.get (classify .down h.src h s.cls)

/-- What follows the policing test of a downstream frame (01 R19). -/
def downstreamAdmission (d : StationIx) (p : Port) (g : Grant) (n : Nat) (r : RecordIx) (s : State) : Verdict := do
  let s ← testAllowance g d s
  let s ← admitTo d p g r s
  .ok (countStation d .downFrames (chargeAllowance g d n (deductCredit .down g d n s)))

theorem downstream_barred {d : StationIx} {h : Header} {r : RecordIx} {s : State} (barred : (s.entry d).state = .barred) :
    downstream d h r s = .error (placed s d ((s.entry d).counting .refused)) := by
  unfold downstream
  rw [testBarred_fails barred]
  rfl

theorem downstream_detached {d : StationIx} {h : Header} {r : RecordIx} {s : State} (unbarred : (s.entry d).state ≠ .barred)
    (detached : (s.entry d).attachment = none) : downstream d h r s = .error (countGlobal .unreachable s) := by
  unfold downstream
  rw [testBarred_passes unbarred]
  simp only [bind, Except.bind, testAttached_fails detached]

theorem downstream_attached {d : StationIx} {p : Port} {h : Header} {r : RecordIx} {s : State}
    (unbarred : (s.entry d).state ≠ .barred) (attached : (s.entry d).attachment = some p) : downstream d h r s = (do
      let s' ← testPermit .down (downGrant d h s) d s
      let s' ← testPolicing .down (downGrant d h s) d s'
      downstreamAdmission d p (downGrant d h s) (s.record r).length r s') := by
  unfold downstream
  rw [testBarred_passes unbarred]
  simp only [bind, Except.bind, testAttached_passes attached]
  rfl

section

variable {d : StationIx} {p : Port} {h : Header} {r : RecordIx} {s : State} (unbarred : (s.entry d).state ≠ .barred)
  (attached : (s.entry d).attachment = some p)

include unbarred attached

theorem downstream_unpermitted (not : (downGrant d h s).downPermit = false) :
    downstream d h r s = .error (placed s d ((s.entry d).counting .refused)) := by
  rw [downstream_attached unbarred attached, testPermit_fails (l := .down) not]
  rfl

variable (permitted : (downGrant d h s).downPermit = true)

include permitted

theorem downstream_policed (policed : (downGrant d h s).policed = true) (poor : (testedEntry (downGrant d h s) d s).downCredit < 1) :
    downstream d h r s = .error (placed s d ((testedEntry (downGrant d h s) d s).counting .downPoliced)) := by
  rw [downstream_attached unbarred attached, testPermit_passes (l := .down) permitted]
  simp only [bind, Except.bind]
  rw [testPolicing_fails (l := .down) policed poor]
  rfl

theorem downstream_tested (rich : (downGrant d h s).policed = true → 1 ≤ (testedEntry (downGrant d h s) d s).downCredit) :
    downstream d h r s = downstreamAdmission d p (downGrant d h s) (s.record r).length r
      (placed s d (testedEntry (downGrant d h s) d s)) := by
  rw [downstream_attached unbarred attached, testPermit_passes (l := .down) permitted]
  simp only [bind, Except.bind]
  rw [testPolicing_passes (l := .down) rich]

end

theorem downstreamAdmission_spent {d : StationIx} {p : Port} {g : Grant} {n : Nat} {r : RecordIx} {s : State}
    (spent : spends g (s.entry d)) :
    downstreamAdmission d p g n r s = .error (placed s d ((s.entry d).counting .spentDrops)) := by
  unfold downstreamAdmission
  rw [testAllowance_fails spent]
  rfl

theorem downstreamAdmission_refused {d : StationIx} {p : Port} {g : Grant} {n : Nat} {r : RecordIx} {s : State}
    (funded : ¬ spends g (s.entry d)) (refused : queueAdmits (stationQueue p g.cls) (s.record r).cellCount s = false) :
    downstreamAdmission d p g n r s = .error (countDrop (stationQueue p g.cls) s) := by
  unfold downstreamAdmission
  rw [testAllowance_passes funded]
  simp only [bind, Except.bind, admitTo_refuses refused]

theorem downstreamAdmission_admitted {d : StationIx} {p : Port} {g : Grant} {n : Nat} {r : RecordIx} {s : State}
    (funded : ¬ spends g (s.entry d)) (admits : queueAdmits (stationQueue p g.cls) (s.record r).cellCount s = true) :
    downstreamAdmission d p g n r s = .ok (countStation d .downFrames (chargeAllowance g d n
      (placed (joined d (stationQueue p g.cls) (.grant g.cls) r s) d
        (StationEntry.paidDown g n { s.entry d with heldCount := (s.entry d).heldCount + 1 })))) := by
  unfold downstreamAdmission
  rw [testAllowance_passes funded]
  simp only [bind, Except.bind, admitTo_admits admits]
  rw [deductCredit_down, placed_entry_self, placed_placed]

end Sys2Proof.Machine

section

open Sys2Proof Sys2Proof.Machine

/-- Settles O21: the queue of a port, the admission, and the tests of a downstream frame in their order. -/
theorem downstreamFrameDecided : Obligations.DownstreamFrameDecided := by
  refine ⟨fun k c p place => ?_, fun k c p place => ?_, queueAdmits_iff, fun s b a r rest chosen waiting service => ?_⟩
  · have port : p = queuePort (.seat k) := Fin.ext place
    rw [stationQueue, port, portClass_seatPort]
  · have port : p = queuePort (.normal k) := Fin.ext place
    rw [stationQueue, port, portClass_radioPort]
  · intro h plain taken released
    have decided : exec .takeFrame s = .next (decideBackbone b r taken) := by
      rw [exec_takeFrame_of_waiting chosen waiting, decideFrame_side, show (takenFrom s (sidePort b) a rest).line.part = _ from service]
      rfl
    rw [decided]
    refine ⟨fun known => ?_, fun foreign single d found => ?_⟩
    · have isLocal : (lookup taken.table (readHeader (frameBytes taken.mem r)).src).isSome = true := by
        rw [Option.isSome_iff_ne_none]; exact known
      exact congrArg Host.Outcome.next ((if_neg (by rw [show isManagement (readHeader (frameBytes taken.mem r)) = _ from plain]; nofun)).trans
        (if_pos isLocal))
    · intro g n y station dropped
      have decides : decideBackbone b r taken = settleVerdict r (downstream d h r taken) := by
        rw [decideBackbone_of_foreign (s := taken) plain foreign,
          show isGroup (readHeader (frameBytes taken.mem r)).dst = false from single, if_neg Bool.false_ne_true,
          show lookup taken.table (readHeader (frameBytes taken.mem r)).dst = some d from found] <;> rfl
      rw [decides]
      refine ⟨fun barred => ?_, fun unbarred => ⟨fun detached => ?_, fun p attached => ⟨fun not => ?_, fun permitted policed poor => ?_,
        fun permitted rich => ⟨fun spent => ?_, fun funded => ⟨fun refused => ?_, fun admits => ?_⟩⟩⟩⟩⟩
      · rw [downstream_barred (s := taken) barred]
        rfl
      · rw [downstream_detached (s := taken) unbarred detached]
        rfl
      · rw [downstream_unpermitted (s := taken) unbarred attached not]
        rfl
      · rw [downstream_policed (s := taken) unbarred attached permitted policed poor]
        rfl
      all_goals rw [downstream_tested (s := taken) unbarred attached permitted rich]
      · rw [downstreamAdmission_spent]
        · rw [placed_entry_self, placed_placed]; rfl
        · rw [placed_entry_self]
          exact spends_testedEntry.2 spent
      · rw [downstreamAdmission_refused]
        · rfl
        · rw [placed_entry_self]
          exact mt spends_testedEntry.1 funded
        · exact refused
      · rw [downstreamAdmission_admitted]
        · rw [placed_entry_self]
          exact congrArg (fun t => Host.Outcome.next (countStation d .downFrames (chargeAllowance g d n t)))
            (placed_placed (joined d (stationQueue p g.cls) (.grant g.cls) r taken) d y
              (StationEntry.paidDown g n { y with heldCount := y.heldCount + 1 }))
        · rw [placed_entry_self]
          exact mt spends_testedEntry.1 funded
        · exact admits

end

/-! # The re-home check of a head -/

namespace Sys2Proof.Machine

open Sys2Proof

theorem unlist_carriage {q : QueueId} (carriage : isCarriage (queuePort q) = true) (r : RecordIx) (s : State) :
    unlist q r s = { s with queues := (unlist q r s).queues, ports := (unlist q r s).ports } := by
  have emptied : ∀ t : State, queueEmptied q t = { t with ports := (queueEmptied q t).ports } := fun t => by
    cases q with
    | normal k => rfl
    | priority k => rfl
    | seat k => rfl
    | through b => rw [show queuePort (.through b) = sidePort b from rfl, isCarriage_sidePort] at carriage; cases carriage
    | cls b c => rw [show queuePort (.cls b c) = sidePort b from rfl, isCarriage_sidePort] at carriage; cases carriage
  unfold unlist
  simp only
  split
  · rw [emptied]
    rfl
  · rfl

section

variable {q : QueueId} {r : RecordIx} {s : State}

theorem rehomeCheck_foreign (dest : (s.record r).dest = none) : rehomeCheck q r s = .send := by
  simp only [rehomeCheck, dest]

variable {i : StationIx} (dest : (s.record r).dest = some i)

include dest

theorem rehomeCheck_barred (barred : (s.entry i).state = .barred) :
    rehomeCheck q r s = .gone (leaveQueue q r (countStation i .refused s)) := by
  simp only [rehomeCheck, dest, barred, if_true]

variable (unbarred : (s.entry i).state ≠ .barred)

include unbarred

theorem rehomeCheck_detached (detached : (s.entry i).attachment = none) :
    rehomeCheck q r s = .gone (leaveQueue q r (countGlobal .unreachable s)) := by
  simp only [rehomeCheck, dest, unbarred, if_false, detached]

theorem rehomeCheck_home (home : (s.entry i).attachment = some (queuePort q)) : rehomeCheck q r s = .send := by
  simp only [rehomeCheck, dest, unbarred, if_false, home, if_true]

variable {p : Port} (attached : (s.entry i).attachment = some p) (elsewhere : p ≠ queuePort q) {c : Fin 4}
  (grant : (s.record r).cls = some (.grant c))

include attached elsewhere grant

theorem rehomeCheck_elsewhere : rehomeCheck q r s =
    if (s.record r).rehomed = false ∧ (s.time.ms - (s.record r).arrival).toNat ≤ s.roam.rehomeLimit ∧
      queueAdmits (stationQueue p c) (s.record r).cellCount s = true
    then .gone (rehomeMove q (stationQueue p c) r s) else .gone (leaveQueue q r (countGlobal .staleDrops s)) := by
  simp only [rehomeCheck, dest, unbarred, if_false, attached, elsewhere, rehomeClass, grant, Bool.and_eq_true, Bool.not_eq_true',
    decide_eq_true_eq, and_assoc]
  rfl

end

theorem rehomeMove_queues (q q' : QueueId) (r : RecordIx) (s : State) : (rehomeMove q q' r s).queues =
    (unlist q r s).queues.modify (queueIx q') (fun x => { x with
      records := x.records ++ [r], tally := x.tally + (s.record r).cellCount }) := rfl

theorem rehomeMove_ports (q q' : QueueId) (r : RecordIx) (s : State) : (rehomeMove q q' r s).ports = (unlist q r s).ports := rfl

theorem rehomeMove_carriage {q : QueueId} (carriage : isCarriage (queuePort q) = true) (q' : QueueId) (r : RecordIx) (s : State) :
    rehomeMove q q' r s = { s with
      queues := (rehomeMove q q' r s).queues
      ports := (rehomeMove q q' r s).ports
      mem := { s.mem with records := s.mem.records.modify r (fun x => { x with rehomed := true }) }
      globals := s.globals.modify (globalCounterIx .rehomed) satIncrement } := by
  rw [rehomeMove_queues, rehomeMove_ports]
  unfold rehomeMove
  rw [unlist_carriage carriage]
  rfl

end Sys2Proof.Machine

section

open Sys2Proof Sys2Proof.Machine

/-- Settles O24: the branches of the check, and what a move to another port's queue changes. -/
theorem headMeetsRehomeCheck : Obligations.HeadMeetsRehomeCheck := by
  intro s q r l carriage head
  refine ⟨rehomeCheck_foreign, fun i dest => ⟨rehomeCheck_barred dest, fun unbarred => ⟨rehomeCheck_detached dest unbarred,
    rehomeCheck_home dest unbarred, fun p c attached elsewhere _ grant => ?_⟩⟩⟩
  intro q' moves
  have check := rehomeCheck_elsewhere dest unbarred attached elsewhere grant
  refine ⟨fun stays => check.trans (if_neg stays), fun holds => ⟨_, check.trans (if_pos holds), ?_, ?_, fun k other other' => ?_,
    fun x => ?_, rehomeMove_carriage carriage q' r s⟩⟩
  all_goals have erased : (s.queue q).records.erase r = l := by rw [head, List.erase_cons_head]
  all_goals have apart : q' ≠ q := fun same => elsewhere (by rw [← same, queuePort_stationQueue])
  · rw [queue_of_queues (rehomeMove_queues q q' r s), if_neg apart, unlist_queue, if_pos rfl, erased]
  · rw [queue_of_queues (rehomeMove_queues q q' r s), if_pos rfl, unlist_queue, if_neg (Ne.symm apart)]
  · rw [queue_of_queues (rehomeMove_queues q q' r s), if_neg (Ne.symm other'), unlist_queue, if_neg (Ne.symm other)]
  · rw [State.port, rehomeMove_ports]
    refine (unlist_port q r s x).trans ?_
    rw [erased]
    by_cases emptied : x = queuePort q ∧ l = [] ∧ ∃ k, q = .normal k
    · obtain ⟨rfl, rfl, normal⟩ := emptied
      rw [if_pos ⟨rfl, normal, rfl⟩, if_pos ⟨rfl, rfl, normal⟩]
    · rw [if_neg fun h => emptied ⟨h.2.2.symm, h.1, h.2.1⟩, if_neg emptied]

end

/-! # The choice of a backbone port -/

namespace Sys2Proof.Machine

open Sys2Proof

theorem portSide_sidePort (b : Side) : portSide (sidePort b) = some b := by cases b <;> rfl

theorem readyToChoose_side {b : Side} {s : State} : readyToChoose (sidePort b) s = true ↔
    (s.port (sidePort b)).tx = .idle ∧ s.line.part ≠ .reset ∧ (s.port (sidePort b)).link = true ∧
      (s.port (sidePort b)).flush = none := by
  simp [readyToChoose, mayTransmit, isCarriage_sidePort, running_iff, and_assoc]

theorem choose_side {b : Side} {s : State} (ready : readyToChoose (sidePort b) s = true) :
    choose (sidePort b) s = backboneChoice b s := by
  simp only [choose, ready, if_true, portSide_sidePort]

theorem backboneChoice_slot {b : Side} {s : State} {f : List Byte} (slot : (s.side b).slot = some f) :
    backboneChoice b s = s.modPort (sidePort b) (fun u => { u with tx := .sendingSlot 0 }) := by
  simp only [backboneChoice, slot, Option.isSome_some, if_true]

theorem backboneChoice_first {b : Side} {s : State} {r : RecordIx} {l : List RecordIx} (slot : (s.side b).slot = none)
    (head : (s.queue (.cls b 0)).records = r :: l) :
    backboneChoice b s = s.modPort (sidePort b) (fun u => { u with tx := .sending r (.cls b 0) 0 }) := by
  simp only [backboneChoice, slot, Option.isSome_none, Bool.false_eq_true, if_false, head]
  rfl

theorem drrWaiting_iff {b : Side} {s : State} : drrWaiting b s = true ↔ ∃ d, (s.queue (drrQueue b d)).records ≠ [] := by
  constructor
  · intro waiting
    obtain ⟨d, -, listed⟩ := List.any_eq_true.1 waiting
    exact ⟨d, fun empty => by simp [queueEmpty, empty] at listed⟩
  · rintro ⟨d, listed⟩
    refine List.any_eq_true.2 ⟨d, by cases d <;> decide, ?_⟩
    simpa [queueEmpty] using listed

theorem backboneChoice_nothing {b : Side} {s : State} (slot : (s.side b).slot = none)
    (empty : ∀ q, queuePort q = sidePort b → (s.queue q).records = []) : backboneChoice b s = s := by
  have idle : ¬ drrWaiting b s = true := fun waiting => by
    obtain ⟨d, listed⟩ := drrWaiting_iff.1 waiting
    exact listed (empty _ (queuePort_drrQueue b d))
  simp only [backboneChoice, slot, Option.isSome_none, Bool.false_eq_true, if_false, empty (.cls b 0) rfl, idle]

theorem guardAfter_drrQueue (b : Side) (d : DrrQueue) (s : State) (g : Nat) : guardAfter (drrQueue b d) s g = g := by
  cases d <;> rfl

theorem backboneChoice_drr {b : Side} {s : State} (slot : (s.side b).slot = none) (first : (s.queue (.cls b 0)).records = [])
    (waiting : ∃ d, (s.queue (drrQueue b d)).records ≠ []) {d : DrrQueue} {r : RecordIx} {y : BackboneTx}
    (sent : drrChoice b s 128 (s.side b) = some (d, r, y)) : backboneChoice b s =
      (s.modSide b (fun _ => y)).modPort (sidePort b) (fun u => { u with tx := .sending r (drrQueue b d) 0 }) := by
  simp only [backboneChoice, slot, Option.isSome_none, Bool.false_eq_true, if_false, first, drrWaiting_iff.2 waiting, if_true, sent]
  simp only [startRecord, guardAfter_drrQueue]

/-! ## Deficit round robin -/

theorem drrChoice_congr {b : Side} {s t : State} (queues : t.queues = s.queues) (mem : t.mem = s.mem) (n : Nat) (x : BackboneTx) :
    drrChoice b t n x = drrChoice b s n x := by
  have queue : ∀ q, t.queue q = s.queue q := fun q => by rw [State.queue, queues]; rfl
  have record : ∀ r, t.record r = s.record r := fun r => by rw [State.record, mem]; rfl
  induction n generalizing x with
  | zero => rfl
  | succ n ih =>
    cases head : (s.queue (drrQueue b x.pointer)).records with
    | nil => rw [drrChoice_nil head, drrChoice_nil ((congrArg Queue.records (queue _)).trans head), ih]
    | cons r l => rw [drrChoice_cons head, drrChoice_cons ((congrArg Queue.records (queue _)).trans head), record, ih]

/-- More looks at queues choose the same. -/
theorem drrChoice_succ {b : Side} {s : State} {n : Nat} {x : BackboneTx} {v : DrrQueue × RecordIx × BackboneTx}
    (sent : drrChoice b s n x = some v) : drrChoice b s (n + 1) x = some v := by
  induction n generalizing x with
  | zero => cases sent
  | succ n ih =>
    cases head : (s.queue (drrQueue b x.pointer)).records with
    | nil =>
      rw [drrChoice_nil head] at sent ⊢
      exact ih sent
    | cons r l =>
      rw [drrChoice_cons head] at sent ⊢
      split at sent
      · next fits => exact (if_pos fits).trans sent
      · next long => exact (if_neg long).trans (ih sent)

/-- What a choice leaves of its port: the visit at the sending queue is open, and no quantum changes. -/
theorem drrChoice_leaves {b : Side} {s : State} {n : Nat} {x y : BackboneTx} {d : DrrQueue} {r : RecordIx}
    (sent : drrChoice b s n x = some (d, r, y)) : y.pointer = d ∧ y.visitOpen = true ∧ y.quantum = x.quantum := by
  have opened : ∀ x : BackboneTx, x.opened.pointer = x.pointer ∧ x.opened.visitOpen = true ∧ x.opened.quantum = x.quantum := fun x => by
    unfold BackboneTx.opened
    split
    · next o => exact ⟨rfl, o, rfl⟩
    · exact ⟨rfl, rfl, rfl⟩
  induction n generalizing x with
  | zero => cases sent
  | succ n ih =>
    cases head : (s.queue (drrQueue b x.pointer)).records with
    | nil => exact ih (x := x.movedOn) ((drrChoice_nil head n).symm.trans sent)
    | cons r' l =>
      rw [drrChoice_cons head] at sent
      split at sent
      · cases sent
        exact opened x
      · obtain ⟨pointer, visit, quantum⟩ := ih sent
        exact ⟨pointer, visit, quantum.trans (opened x).2.2⟩

/-- The moves of the pointer from one queue to another. -/
def drrDistance (e d : DrrQueue) : Nat := (drrIx d - drrIx e).val

theorem drrDistance_self (d : DrrQueue) : drrDistance d d = 0 ∧ drrDistance (drrNext d) d = 3 := by cases d <;> decide

theorem drrDistance_next {e d : DrrQueue} (apart : e ≠ d) : drrDistance (drrNext e) d + 1 = drrDistance e d := by
  cases e <;> cases d <;> revert apart <;> decide

theorem drrDistance_le (e d : DrrQueue) : drrDistance e d ≤ 3 := by cases e <;> cases d <;> decide

theorem drrIx_injective {e d : DrrQueue} (apart : e ≠ d) : drrIx e ≠ drrIx d := by
  cases e <;> cases d <;> revert apart <;> decide

theorem opened_deficit_of_shut {x : BackboneTx} (shut : x.visitOpen = false) (e : DrrQueue) : x.opened.deficit.get (drrIx e) =
    x.deficit.get (drrIx e) + if e = x.pointer then x.quantum.get (drrIx e) else 0 := by
  unfold BackboneTx.opened
  rw [shut, if_neg Bool.false_ne_true]
  by_cases here : e = x.pointer
  · subst here
    rw [if_pos rfl]
    exact Tab.get_set_self _ _ _
  · rw [if_neg here]
    exact Tab.get_set_ne _ _ (drrIx_injective (Ne.symm here))

section

variable {b : Side} {s : State} (short : ∀ r, (s.record r).length ≤ 1522) {d : DrrQueue}
  (listed : (s.queue (drrQueue b d)).records ≠ [])

include short listed

/-- The choice sends, at the latest on the visit that brings the deficit of `d` to the longest length: each round of four moves adds at
least 64 to it. -/
theorem drrChoice_sends_of_shut {n k : Nat} {x : BackboneTx} (quanta : ∀ d, 64 ≤ x.quantum.get (drrIx d)) (shut : x.visitOpen = false)
    (rounds : 1522 ≤ x.deficit.get (drrIx d) + 64 * (k + 1)) (fuel : drrDistance x.pointer d + 4 * k < n) :
    ∃ v, drrChoice b s n x = some v := by
  induction n generalizing x k with
  | zero => omega
  | succ n ih =>
    have quantum := quanta d
    obtain ⟨here, back⟩ := drrDistance_self d
    cases head : (s.queue (drrQueue b x.pointer)).records with
    | nil =>
      have apart : x.pointer ≠ d := fun same => listed (by rw [← same]; exact head)
      have closer := drrDistance_next apart
      rw [drrChoice_nil head]
      exact ih (x := x.movedOn) (k := k) quanta rfl rounds (by show drrDistance (drrNext x.pointer) d + 4 * k < n; omega)
    | cons r l =>
      have deficit := opened_deficit_of_shut shut
      have quanta' : ∀ e, 64 ≤ x.opened.movedOn.quantum.get (drrIx e) := by
        unfold BackboneTx.opened
        split <;> exact quanta
      have pointer : x.opened.movedOn.pointer = drrNext x.pointer := by
        unfold BackboneTx.opened
        split <;> rfl
      rw [drrChoice_cons head]
      split
      · exact ⟨_, rfl⟩
      · next long =>
        by_cases same : x.pointer = d
        · have raised := deficit d
          rw [if_pos same.symm] at raised
          rw [same] at long fuel pointer
          have needed := short r
          refine ih (x := x.opened.movedOn) (k := k - 1) quanta' rfl ?_ ?_
          · show 1522 ≤ x.opened.deficit.get (drrIx d) + 64 * (k - 1 + 1)
            omega
          · rw [pointer, back]
            omega
        · have kept := deficit d
          rw [if_neg (Ne.symm same)] at kept
          have closer := drrDistance_next same
          refine ih (x := x.opened.movedOn) (k := k) quanta' rfl ?_ ?_
          · show 1522 ≤ x.opened.deficit.get (drrIx d) + 64 * (k + 1)
            omega
          · rw [pointer]
            omega

theorem drrChoice_sends {x : BackboneTx} (quanta : ∀ d, 64 ≤ x.quantum.get (drrIx d)) : ∃ v, drrChoice b s 127 x = some v := by
  have shut_sends : ∀ y : BackboneTx, (∀ d, 64 ≤ y.quantum.get (drrIx d)) → y.visitOpen = false → ∃ v, drrChoice b s 126 y = some v :=
    fun y quanta shut => by
      have near := drrDistance_le y.pointer d
      exact drrChoice_sends_of_shut short listed (k := 23) quanta shut (by omega) (by omega)
  cases head : (s.queue (drrQueue b x.pointer)).records with
  | nil =>
    rw [drrChoice_nil head]
    exact shut_sends x.movedOn quanta rfl
  | cons r l =>
    rw [drrChoice_cons head]
    split
    · exact ⟨_, rfl⟩
    · refine shut_sends x.opened.movedOn ?_ rfl
      unfold BackboneTx.opened
      split <;> exact quanta

end

theorem modSide_congr {s : State} {b : Side} {f g : BackboneTx → BackboneTx} (same : f (s.side b) = g (s.side b)) :
    s.modSide b f = s.modSide b g := by
  cases b
  · exact congrArg (fun x => { s with fore := x }) same
  · exact congrArg (fun x => { s with aft := x }) same

theorem modSide_modSide (s : State) (b : Side) (f g : BackboneTx → BackboneTx) :
    (s.modSide b f).modSide b g = s.modSide b (fun x => g (f x)) := by cases b <;> rfl

/-- A choice that goes on from another state of the port ends as the choice from that state. -/
theorem choose_modSide {s : State} {b : Side} (ready : readyToChoose (sidePort b) s = true) (slot : (s.side b).slot = none)
    (first : (s.queue (.cls b 0)).records = []) (waiting : ∃ d, (s.queue (drrQueue b d)).records ≠ []) {f : BackboneTx → BackboneTx}
    (slotless : (f (s.side b)).slot = none) {v : DrrQueue × RecordIx × BackboneTx} (before : drrChoice b s 128 (s.side b) = some v)
    (after : drrChoice b s 128 (f (s.side b)) = some v) : choose (sidePort b) s = choose (sidePort b) (s.modSide b f) := by
  obtain ⟨d, r, y⟩ := v
  have ready' : readyToChoose (sidePort b) (s.modSide b f) = true := readyToChoose_side.2 (by
    rw [modSide_port, modSide_line]; exact readyToChoose_side.1 ready)
  rw [choose_side ready, choose_side ready', backboneChoice_drr slot first waiting before,
    backboneChoice_drr (s := s.modSide b f) (by rw [side_modSide_self]; exact slotless) (by rw [modSide_queue]; exact first)
      (by simp only [modSide_queue]; exact waiting)
      (by rw [side_modSide_self, drrChoice_congr (modSide_queues _ _ _) (modSide_mem _ _ _)]; exact after), modSide_modSide]

end Sys2Proof.Machine

section

open Sys2Proof Sys2Proof.Machine

/-- Settles O26: the branches of the choice before deficit round robin. -/
theorem backboneChoiceTaken : Obligations.BackboneChoiceTaken := by
  intro s b p ready
  simp only [exec_transmitChoice]
  refine ⟨fun unready => ?_, fun slot empty => ?_, fun isReady f slot => ?_, fun isReady slot r l head => ?_⟩
  · rw [choose_of_not_ready fun h => unready (readyToChoose_side.1 h)]
  · by_cases isReady : readyToChoose p s = true
    · rw [choose_side isReady, backboneChoice_nothing slot empty]
    · rw [choose_of_not_ready isReady]
  · rw [choose_side (readyToChoose_side.2 isReady), backboneChoice_slot slot]
    rfl
  · rw [choose_side (readyToChoose_side.2 isReady), backboneChoice_first slot head]
    rfl

/-- Settles O27: the moves of deficit round robin, and that a choice of at most 128 looks sends. -/
theorem deficitRoundRobinSends : Obligations.DeficitRoundRobinSends := by
  intro s b p x idle run link quiet slot first quanta short waiting i opened
  have ready : readyToChoose p s = true := readyToChoose_side.2 ⟨idle, run, link, quiet⟩
  obtain ⟨d, listed⟩ := waiting
  have sends : ∀ y : BackboneTx, (∀ d, 64 ≤ y.quantum.get (drrIx d)) → ∃ v, drrChoice b s 127 y = some v := fun y => drrChoice_sends short listed
  have chosen : ∀ d r y, drrChoice b s 128 x = some (d, r, y) → choose p s =
      (s.modSide b (fun _ => y)).modPort p (fun u => { u with tx := .sending r (drrQueue b d) 0 }) := fun d' r y sent => by
    rw [choose_side ready, backboneChoice_drr slot first ⟨d, listed⟩ sent]
  have openedDeficit : x.opened.deficit.get i = opened := by
    simp only [BackboneTx.opened, opened, i]
    split
    · rfl
    · exact Tab.get_set_self _ _ _
  have openedEq : x.opened = { x with visitOpen := true, deficit := x.deficit.set i opened } := by
    simp only [BackboneTx.opened, opened, i]
    split
    · next o => rw [Tab.set_get, ← o]
    · rfl
  simp only [exec_transmitChoice]
  refine ⟨fun empty => ?_, fun r l head => ⟨fun fits => ?_, fun long => ?_⟩, ?_⟩
  · obtain ⟨v, sent⟩ := sends x.movedOn quanta
    exact congrArg Host.Outcome.next (choose_modSide
      (f := fun y => { y with visitOpen := false, pointer := drrNext x.pointer }) ready slot first ⟨d, listed⟩ slot
      ((drrChoice_nil empty _).trans sent) (drrChoice_succ sent))
  · have sent := drrChoice_cons head 127
    rw [openedDeficit, if_pos fits] at sent
    rw [chosen _ _ _ sent]
    refine congrArg (fun t : State => Host.Outcome.next (t.modPort p _)) (modSide_congr ?_)
    show x.opened.charged i _ = _
    rw [openedEq, BackboneTx.charged, Tab.get_set_self, Tab.set_set]
  · obtain ⟨v, sent⟩ := sends x.opened.movedOn (by rw [openedEq]; exact quanta)
    rw [choose_modSide (v := v) (f := fun y => y.opened.movedOn) ready slot first ⟨d, listed⟩ (by
      show x.opened.slot = none
      rw [openedEq]; exact slot) ?_ (drrChoice_succ sent)]
    · refine congrArg (fun t : State => Host.Outcome.next (choose p t)) (modSide_congr ?_)
      show x.opened.movedOn = _
      rw [openedEq]
      rfl
    · rw [drrChoice_cons head, openedDeficit, if_neg (Nat.not_le_of_lt long)]
      exact sent
  · obtain ⟨⟨d', r, y⟩, sent⟩ := sends x quanta
    have more := drrChoice_succ sent
    obtain ⟨pointer, visit, quantum⟩ := drrChoice_leaves more
    obtain ⟨l, head⟩ := List.head?_eq_some_iff.1 (drrChoice_head more)
    exact ⟨d', r, l, y, head, pointer, visit, quantum, congrArg Host.Outcome.next (chosen d' r y more)⟩

end

/-! # The end of a transmission -/

namespace Sys2Proof.Machine

open Sys2Proof

theorem complete_of_sends {p : Port} {s : State} (sends : (s.port p).tx ≠ .idle) (link : (s.port p).link = true) :
    complete p s = endTransmission p (countPort p .txFrames s) := if_pos ⟨sends, link⟩

theorem complete_of_not {p : Port} {s : State} (not : (s.port p).tx = .idle ∨ (s.port p).link = false) : complete p s = s :=
  if_neg fun ⟨sends, link⟩ => not.elim sends fun down => by rw [down] at link; cases link

theorem endTransmission_queued {p : Port} {s : State} {r : RecordIx} {q : QueueId} {n : Nat} (tx : (s.port p).tx = .sending r q n) :
    endTransmission p s = (leaveQueue q r s).modPort p (fun u => { u with tx := .idle }) := by
  simp only [endTransmission, tx]

theorem endTransmission_slot {b : Side} {s : State} {n : Nat} (tx : (s.port (sidePort b)).tx = .sendingSlot n) :
    endTransmission (sidePort b) s = (emptySlot b s).modPort (sidePort b) (fun u => { u with tx := .idle }) := by
  simp only [endTransmission, tx, portSide_sidePort]

end Sys2Proof.Machine

section

open Sys2Proof Sys2Proof.Machine

/-- Settles O28: the frame is counted, then the transmission ends. -/
theorem transmissionCompleted : Obligations.TransmissionCompleted := by
  intro s p sent
  have tx : (sent.port p).tx = (s.port p).tx := by simp only [sent, State.port, Tab.get_modify_self]
  refine ⟨fun not => congrArg Host.Outcome.next (complete_of_not not), fun link => ⟨fun r q n queued => ?_, fun b n side slot => ?_⟩⟩
  · have done := (complete_of_sends (by rw [queued]; nofun) link).trans (endTransmission_queued (s := sent) (tx.trans queued))
    exact congrArg Host.Outcome.next done
  · subst side
    have done := (complete_of_sends (by rw [slot]; nofun) link).trans (endTransmission_slot (s := sent) (tx.trans slot))
    refine congrArg Host.Outcome.next (done.trans ?_)
    rw [emptySlot_eq]
    cases b <;> simp only [State.modSide, State.modPort, sent, Tab.modify_modify]

end

/-! # A walk's visit to a queue -/

namespace Sys2Proof.Machine

open Sys2Proof

/-- What no departure changes, none of them changes. -/
theorem leaveAll_keeps {β : Type} {view : State → β} {q : QueueId} (kept : ∀ r s, view (leaveQueue q r s) = view s) (l : List RecordIx)
    (s : State) : view (leaveAll q l s) = view s := by
  induction l generalizing s with
  | nil => rfl
  | cons r l ih => exact (ih (leaveQueue q r s)).trans (kept r s)

theorem leaveAll_record {q : QueueId} {l : List RecordIx} (once : l.Nodup) (s : State) (r : RecordIx) : (leaveAll q l s).record r =
    if r ∈ l then
      if (s.record r).holders ≤ 1 then FrameRecord.fresh else { s.record r with holders := (s.record r).holders - 1 }
    else s.record r := by
  induction l generalizing s with
  | nil => simp [leaveAll]
  | cons a l ih =>
    obtain ⟨notIn, once⟩ := List.nodup_cons.1 once
    rw [leaveAll_cons, ih once, leaveQueue_record]
    by_cases same : a = r
    · subst same
      simp [notIn]
    · simp [same, Ne.symm same]

/-- The records that have yet to leave are as they were. -/
theorem leaveQueue_record_rest {q : QueueId} {a : RecordIx} {l : List RecordIx} (notIn : a ∉ l) (s : State) :
    ∀ r ∈ l, (leaveQueue q a s).record r = s.record r := fun r listed => by
  rw [leaveQueue_record, if_neg (ne_of_mem_of_not_mem listed notIn).symm]

theorem leaveAll_queue {q : QueueId} {l : List RecordIx} (once : l.Nodup) (s : State) : (leaveAll q l s).queue q =
    { s.queue q with
      records := (s.queue q).records.diff l
      tally := (s.queue q).tally - (l.map (fun r => (s.record r).cellCount)).sum } := by
  induction l generalizing s with
  | nil => rfl
  | cons a l ih =>
    obtain ⟨notIn, once⟩ := List.nodup_cons.1 once
    have cells : l.map (fun r => ((leaveQueue q a s).record r).cellCount) = l.map (fun r => (s.record r).cellCount) :=
      List.map_congr_left fun r listed => by rw [leaveQueue_record_rest notIn s r listed]
    rw [leaveAll_cons, ih once, cells, leaveQueue_queue, unlist_queue, if_pos rfl, List.diff_cons, List.map_cons, List.sum_cons,
      Nat.sub_sub]

theorem leaveAll_queue_ne {q q' : QueueId} (other : q' ≠ q) (l : List RecordIx) (s : State) :
    (leaveAll q l s).queue q' = s.queue q' :=
  leaveAll_keeps (view := fun t => t.queue q') (fun r t => by rw [leaveQueue_queue, unlist_queue, if_neg (Ne.symm other)]) l s

theorem finishItem_not_awaiting {i : StationIx} {s : State} (idle : awaitsRelease i s ≠ true) (st : Status) (data : List Byte) :
    awaitsRelease i (finishItem st data s) ≠ true := by
  unfold finishItem
  split
  · exact idle
  · split
    · exact idle
    · rintro awaited
      obtain ⟨g, exec, phase⟩ := awaitsRelease_iff.1 awaited
      cases exec
      simp only at phase
      split at phase <;> cases phase

theorem leaveQueue_not_awaiting {q : QueueId} {s : State} {i : StationIx} (idle : awaitsRelease i s ≠ true) (r : RecordIx) :
    awaitsRelease i (leaveQueue q r s) ≠ true := by
  cases dest : (s.record r).dest with
  | none =>
    rw [awaitsRelease_congr (leaveQueue_of_none dest).2]
    exact idle
  | some d =>
    by_cases freed : awaitsRelease d s = true ∧ (s.entry d).heldCount ≤ 1
    · rw [awaitsRelease_congr ((leaveQueue_mgmt dest).trans (if_pos freed))]
      exact finishItem_not_awaiting idle _ _
    · rw [awaitsRelease_congr ((leaveQueue_mgmt dest).trans (if_neg freed))]
      exact idle

theorem leaveQueue_entry_of_idle {q : QueueId} {s : State} {i : StationIx} (idle : awaitsRelease i s ≠ true) (r : RecordIx) :
    (leaveQueue q r s).entry i = { s.entry i with
      heldCount := (s.entry i).heldCount - (decide ((s.record r).dest = some i)).toNat } := by
  cases dest : (s.record r).dest with
  | none => rw [State.entry, (leaveQueue_of_none dest).1]; rfl
  | some d =>
    rw [leaveQueue_entry dest]
    by_cases same : d = i
    · subst same
      rw [if_pos rfl, if_neg fun freed => idle freed.1, decide_eq_true rfl]
      rfl
    · rw [if_neg same, decide_eq_false fun h => same (Option.some.inj h)]
      rfl

/-- The held count of a station whose entry no RELEASE waits for falls by the records that named it. -/
theorem leaveAll_entry {q : QueueId} {l : List RecordIx} (once : l.Nodup) {s : State} {i : StationIx} (idle : awaitsRelease i s ≠ true) :
    (leaveAll q l s).entry i = { s.entry i with
      heldCount := (s.entry i).heldCount - l.countP (fun r => decide ((s.record r).dest = some i)) } := by
  induction l generalizing s with
  | nil => rfl
  | cons a l ih =>
    obtain ⟨notIn, once⟩ := List.nodup_cons.1 once
    have rest : l.countP (fun r => decide (((leaveQueue q a s).record r).dest = some i)) =
        l.countP (fun r => decide ((s.record r).dest = some i)) :=
      List.countP_congr fun r listed => by rw [leaveQueue_record_rest notIn s r listed]
    rw [leaveAll_cons, ih once (leaveQueue_not_awaiting idle a), rest, leaveQueue_entry_of_idle idle, Nat.sub_sub, List.countP_cons]
    cases decide ((s.record a).dest = some i) <;> simp [Nat.add_comm]

/-- What a departure keeps of a port unit: everything but the guard count and the station count. -/
theorem leaveAll_port (q : QueueId) (l : List RecordIx) (s : State) (p : Port) :
    let t := leaveAll q l s
    (t.port p).counters = (s.port p).counters ∧ (t.port p).tx = (s.port p).tx ∧ (t.port p).link = (s.port p).link ∧
      (t.port p).intake = (s.port p).intake ∧ (t.port p).flush = (s.port p).flush := by
  have kept := leaveAll_keeps (q := q) (view := fun t : State =>
      ((t.port p).counters, (t.port p).tx, (t.port p).link, (t.port p).intake, (t.port p).flush))
    (fun r t => by rw [leaveQueue_port, unlist_port]) l s
  simpa only [Prod.mk.injEq] using kept

end Sys2Proof.Machine

section

open Sys2Proof Sys2Proof.Machine

/-- Settles O33: the records picked leave one after the other. -/
theorem walkVisitRemovesRecords : Obligations.WalkVisitRemovesRecords := by
  intro s q picks once leaves t
  have once' : ((s.queue q).records.filter leaves).Nodup := once.filter leaves
  have left : t = leaveAll q ((s.queue q).records.filter leaves) s := sweepQueue_eq picks q s
  have record := leaveAll_record (q := q) once' s
  obtain ⟨-, line, -, -, -, -, purge, notice, globals⟩ := leaveAll_frame q ((s.queue q).records.filter leaves) s
  clear_value t
  subst left
  refine ⟨?_, fun q' other => leaveAll_queue_ne other _ s, fun r listed goes last => ?_, fun r listed goes more => ?_, fun r stays => ?_,
    fun i unawaited => leaveAll_entry once' fun awaited => ?_, fun p => leaveAll_port q _ s p, globals, notice,
    leaveAll_keeps (view := fun t => t.table.reports) (leaveQueue_reports q) _ s, purge, line⟩
  · have stay : (s.queue q).records.diff ((s.queue q).records.filter leaves) = (s.queue q).records.filter (fun r => !leaves r) := by
      rw [once.sdiff_eq_filter]
      refine List.filter_congr fun r listed => ?_
      simp [List.mem_filter, listed]
    rw [leaveAll_queue once', stay]
  · rw [record, if_pos (List.mem_filter.2 ⟨listed, goes⟩), if_pos last]
    rfl
  · rw [record, if_pos (List.mem_filter.2 ⟨listed, goes⟩), if_neg (Nat.not_le_of_lt more)]
  · rw [record, if_neg]
    rintro picked
    obtain ⟨listed, goes⟩ := List.mem_filter.1 picked
    rcases stays with unlisted | kept
    · exact unlisted listed
    · rw [kept] at goes; cases goes
  · obtain ⟨f, exec, phase⟩ := awaitsRelease_iff.1 awaited
    exact unawaited f exec phase

end

/-! # The visits of the walks -/

namespace Sys2Proof.Machine

open Sys2Proof

/-- Records released one after the other. -/
def releaseAll (l : List RecordIx) (s : State) : State := l.foldl (fun t r => releaseRecord r t) s

theorem releaseAll_shape (l : List RecordIx) (s : State) : releaseAll l s = { s with mem := { s.mem with
    free := (releaseAll l s).mem.free, freeCount := (releaseAll l s).mem.freeCount, records := (releaseAll l s).mem.records } } := by
  induction l generalizing s with
  | nil => rfl
  | cons a l ih => exact ih (releaseRecord a s)

theorem releaseAll_record (l : List RecordIx) (s : State) (r : RecordIx) :
    (releaseAll l s).record r = if r ∈ l then FrameRecord.fresh else s.record r := by
  induction l generalizing s with
  | nil => exact (if_neg List.not_mem_nil).symm
  | cons a l ih =>
    refine (ih (releaseRecord a s)).trans ?_
    rw [record_releaseRecord]
    by_cases same : a = r
    · subst same
      simp
    · simp [same, Ne.symm same]

/-- The cells of records that are released once join the free cell list in the order of the releases. -/
theorem releaseAll_free {l : List RecordIx} (once : l.Nodup) (s : State) :
    (releaseAll l s).mem.free = s.mem.free ++ l.flatMap (cellsOf s.mem) ∧
    (releaseAll l s).mem.freeCount = s.mem.freeCount + (l.flatMap (cellsOf s.mem)).length := by
  induction l generalizing s with
  | nil => exact ⟨(List.append_nil _).symm, rfl⟩
  | cons a l ih =>
    obtain ⟨notIn, once⟩ := List.nodup_cons.1 once
    have cells : l.flatMap (cellsOf (releaseRecord a s).mem) = l.flatMap (cellsOf s.mem) :=
      List.flatMap_congr fun r listed => by rw [cellsOf_releaseRecord, if_neg (ne_of_mem_of_not_mem listed notIn)]
    obtain ⟨free, count⟩ := ih once (releaseRecord a s)
    rw [cells] at free count
    refine ⟨free.trans ?_, count.trans ?_⟩
    · rw [List.flatMap_cons, ← List.append_assoc]
      rfl
    · rw [List.flatMap_cons, List.length_append, ← Nat.add_assoc]
      rfl

theorem flushVisit_intake {p : Port} {s : State} (first : (s.port p).flush = some 0) : flushVisit p s =
    (releaseAll (s.port p).intake s).modPort p (fun u => { u with intake := [], flush := some 1 }) := by
  unfold flushVisit flushIntake
  rw [first]
  exact modPort_modPort _ _ _ _

theorem flushVisit_queue {p : Port} {s : State} {k : Nat} {q : QueueId} (walk : (s.port p).flush = some (k + 1))
    (next : (portQueues p)[k]? = some q) :
    flushVisit p s = (sweepQueue (fun _ => true) q s).modPort p (fun u => { u with flush := some (k + 2) }) := by
  simp only [flushVisit, walk, next]

theorem flushVisit_past {p : Port} {s : State} {k : Nat} (walk : (s.port p).flush = some (k + 1))
    (past : (portQueues p)[k]? = none) : flushVisit p s = s := by
  simp only [flushVisit, walk, past]

theorem flushVisit_none {p : Port} {s : State} (none : (s.port p).flush = none) : flushVisit p s = s := by
  simp only [flushVisit, none]

theorem portQueues_side (b : Side) : portQueues (sidePort b) = [.through b, .cls b 0, .cls b 1, .cls b 2, .cls b 3] := by
  rw [portQueues, portClass_side]

theorem portQueues_radioPort (k : Fin 8) : portQueues (queuePort (.normal k)) = [.priority k, .normal k] := by
  rw [portQueues, portClass_radioPort]

theorem portQueues_seatPort (k : Fin 48) : portQueues (queuePort (.seat k)) = [.seat k] := by
  rw [portQueues, portClass_seatPort]

theorem purgeVisit_next {s : State} {w : PurgeWalk} {q : QueueId} (walk : s.purge = some w)
    (next : carriageQueues[w.visits]? = some q) : purgeVisit s =
      { sweepQueue (fun x => decide (x.dest = some w.station)) q s with purge := some { w with visits := w.visits + 1 } } := by
  simp only [purgeVisit, walk, next]

theorem purgeVisit_past {s : State} {w : PurgeWalk} (walk : s.purge = some w) (past : carriageQueues[w.visits]? = none) :
    purgeVisit s = s := by
  simp only [purgeVisit, walk, past]

theorem classVisit_some {s : State} {b : Side} {k : Fin 4} (walk : (s.side b).classFlush = some k.val) : classVisit b s =
    (sweepQueue (fun _ => true) (.cls b k) s).modSide b (fun x => { x with classFlush := some (k.val + 1) }) := by
  simp only [classVisit, walk, k.isLt, dif_pos]

theorem classVisit_idle {s : State} {b : Side} (idle : (s.side b).classFlush = none ∨ (s.side b).classFlush = some 4) :
    classVisit b s = s := by
  rcases idle with none | last
  · simp only [classVisit, none]
  · simp only [classVisit, last]
    rfl

theorem carriageQueues_length : carriageQueues.length = 64 := by decide

end Sys2Proof.Machine

section

open Sys2Proof Sys2Proof.Machine

/-- Settles O34: the order of the queues, and each visit as its walk stands. -/
theorem walkVisitsTaken : Obligations.WalkVisitsTaken := by
  intro s
  refine ⟨carriageQueues_length, by decide, by decide, fun w q walk next => ?_, fun done => ?_, fun p first once => ?_,
    fun p k q walk next => ?_, portQueues_side, portQueues_radioPort, portQueues_seatPort, fun p done => ?_, fun b k walk => ?_,
    fun b done => ?_⟩
  · exact congrArg Host.Outcome.next (purgeVisit_next walk next)
  · refine congrArg Host.Outcome.next ?_
    rcases done with none | ⟨w, walk, last⟩
    · simp only [purgeVisit, none]
    · exact purgeVisit_past walk (List.getElem?_eq_none (by rw [carriageQueues_length]; exact last))
  · refine ⟨_, congrArg Host.Outcome.next (flushVisit_intake first), ?_, (releaseAll_free once s).1, releaseAll_record _ s⟩
    exact congrArg (fun t : State => t.modPort p (fun u => { u with intake := [], flush := some 1 })) (releaseAll_shape _ s)
  · exact congrArg Host.Outcome.next (flushVisit_queue walk next)
  · refine congrArg Host.Outcome.next ?_
    rcases done with none | last
    · exact flushVisit_none none
    · exact flushVisit_past last (List.getElem?_length _)
  · exact congrArg Host.Outcome.next (classVisit_some walk)
  · exact congrArg Host.Outcome.next (classVisit_idle done)

end

/-! # The ends of the walks -/

namespace Sys2Proof.Machine

open Sys2Proof

theorem purgeEnd_early {s : State} {w : PurgeWalk} (walk : s.purge = some w) (early : w.visits < 64) : purgeEnd s = s := by
  simp only [purgeEnd, walk, carriageQueues_length, Nat.not_le_of_lt early, if_false]

theorem purgeEnd_last {s : State} {w : PurgeWalk} (walk : s.purge = some w) (last : 64 ≤ w.visits) :
    purgeEnd s = purgeFinish { s with purge := none } := by
  simp only [purgeEnd, walk, carriageQueues_length, last, if_true]

section

variable {s : State} {f : ExecFrame} (exec : s.mgmt.exec = some f)

theorem purgeFinish_unawaited (unawaited : ∀ f, s.mgmt.exec = some f → ∀ i, f.phase ≠ .barWalk i ∧ f.phase ≠ .releaseWalk i) :
    purgeFinish s = s := by
  unfold purgeFinish
  split
  · rfl
  · next f exec =>
    have not := unawaited f exec
    split
    · next i phase => exact absurd phase (not i).1
    · next i phase => exact absurd phase (not i).2
    · rfl

include exec

theorem purgeFinish_bar {i : StationIx} (phase : f.phase = .barWalk i) : purgeFinish s = finishItem .done (beBytes 2 i.val) s := by
  simp only [purgeFinish, exec, phase]

theorem purgeFinish_release {i : StationIx} (phase : f.phase = .releaseWalk i) :
    purgeFinish s = freeReleased i { s with mgmt := { s.mgmt with exec := some { f with phase := .releaseWait i } } } := by
  simp only [purgeFinish, exec, phase, waitItem, State.modMgmt, Option.map_some]

theorem walkFinish_portOff {q : Port} {c : Bool} (phase : f.phase = .portOff q c) (p : Option Port) :
    walkFinish p s = if p = some q then finishItem (doneStatus c) [] s else s := by
  simp only [walkFinish, exec, phase]

theorem walkFinish_portReset {q : Port} (phase : f.phase = .portReset q) (p : Option Port) : walkFinish p s =
    if p = some q then finishItem .done [] (if isCarriage q = true ∧ s.line.part = .service then evaluatePort q s else s) else s := by
  simp only [walkFinish, exec, phase]

theorem walkFinish_standDown (phase : f.phase = .standDown) (p : Option Port) :
    walkFinish p s = if standDownOver s = true then finishItem .done [] s else s := by
  simp only [walkFinish, exec, phase]

theorem walkFinish_other (off : ∀ q c, f.phase ≠ .portOff q c) (reset : ∀ q, f.phase ≠ .portReset q) (down : f.phase ≠ .standDown)
    (p : Option Port) : walkFinish p s = s := by
  unfold walkFinish
  rw [exec]
  cases phase : f.phase with
  | portOff q c => exact absurd phase (off q c)
  | portReset q => exact absurd phase (reset q)
  | standDown => exact absurd phase down
  | _ => simp only [phase]

omit exec in
theorem walkFinish_none (none : s.mgmt.exec = none) (p : Option Port) : walkFinish p s = s := by
  simp only [walkFinish, none]

end

theorem standDownOver_iff {s : State} : standDownOver s = true ↔
    (∀ p, isCarriage p = true → (s.port p).flush = none) ∧ s.fore.classFlush = none ∧ s.aft.classFlush = none := by
  simp [standDownOver, mem_carriagePorts, and_assoc]

theorem portQueues_length (p : Port) : (portQueues p).length + 1 = if p.val < 2 then 6 else if p.val < 10 then 3 else 2 := by
  unfold portQueues portClass
  by_cases fore : p.val = 0
  · simp [fore]
  · by_cases aft : p.val = 1
    · simp [aft]
    · have carriage : ¬ p.val < 2 := by omega
      by_cases radio : p.val < 10
      · simp [fore, aft, carriage, radio]
      · simp [fore, aft, carriage, radio]

theorem flushEnd_early {p : Port} {s : State} {k : Nat} (walk : (s.port p).flush = some k) (early : k < (portQueues p).length + 1) :
    flushEnd p s = s := by
  simp only [flushEnd, walk, Nat.not_le_of_lt early, if_false]

theorem flushEnd_last {p : Port} {s : State} {k : Nat} (walk : (s.port p).flush = some k) (last : (portQueues p).length + 1 ≤ k) :
    flushEnd p s = walkFinish (some p) (s.modPort p (fun u => { u with flush := none })) := by
  simp only [flushEnd, walk, last, if_true]

theorem standDownOver_flushEnded {p : Port} {s : State} :
    standDownOver (s.modPort p (fun u => { u with flush := none })) = true ↔
      (∀ q : Port, isCarriage q = true → q ≠ p → (s.port q).flush = none) ∧ s.fore.classFlush = none ∧ s.aft.classFlush = none := by
  have port : ∀ q, ((s.modPort p (fun u => { u with flush := none })).port q).flush = none ↔ (q ≠ p → (s.port q).flush = none) :=
    fun q => by
      by_cases same : q = p
      · subst same
        simp
      · rw [port_modPort_ne _ _ (Ne.symm same)]
        simp [same]
  simp only [standDownOver_iff, port]
  rfl

theorem classEnd_early {b : Side} {s : State} {k : Nat} (walk : (s.side b).classFlush = some k) (early : k < 4) :
    classEnd b s = s := by
  simp only [classEnd, walk, Nat.not_le_of_lt early, if_false]

theorem classEnd_last {b : Side} {s : State} {k : Nat} (walk : (s.side b).classFlush = some k) (last : 4 ≤ k) :
    classEnd b s = walkFinish none (s.modSide b (fun x => { x with classFlush := none })) := by
  simp only [classEnd, walk, last, if_true]

theorem standDownOver_classEnded {b : Side} {s : State} :
    standDownOver (s.modSide b (fun x => { x with classFlush := none })) = true ↔
      (∀ q : Port, isCarriage q = true → (s.port q).flush = none) ∧ (s.side (otherSide b)).classFlush = none := by
  rw [standDownOver_iff]
  simp only [modSide_port]
  cases b <;> simp [State.modSide, State.side, otherSide]

/-- The item that a class flush finishes is a STAND_DOWN. -/
theorem walkFinish_class (s : State) : walkFinish none s =
    if (∃ f, s.mgmt.exec = some f ∧ f.phase = .standDown) ∧ standDownOver s = true then finishItem .done [] s else s := by
  cases exec : s.mgmt.exec with
  | none => rw [walkFinish_none exec, if_neg (by simp)]
  | some f =>
    by_cases down : f.phase = .standDown
    · rw [walkFinish_standDown exec down]
      simp [down]
    · rw [if_neg (by simp [down])]
      unfold walkFinish
      rw [exec]
      simp only
      split
      · exact if_neg nofun
      · exact if_neg nofun
      · next phase => exact absurd phase down
      · rfl

end Sys2Proof.Machine

section

open Sys2Proof Sys2Proof.Machine

/-- Settles O35: each walk's end by the phase of the item in execution. -/
theorem walkEndsTaken : Obligations.WalkEndsTaken := by
  intro s
  refine ⟨fun w walk early => congrArg Host.Outcome.next (purgeEnd_early walk early), fun none => ?_, fun w walk last => ?_,
    fun p none => ?_, fun p k walk => ?_, fun b none => ?_, fun b k walk => ?_⟩
  · exact congrArg Host.Outcome.next (by simp only [purgeEnd, none])
  · intro t
    have ended : exec .purgeWalkEnd s = .next (purgeFinish t) := congrArg Host.Outcome.next (purgeEnd_last walk last)
    rw [ended]
    refine ⟨fun unawaited => ?_, fun f i begun phase => ?_, fun f i begun phase => ?_⟩
    · rw [purgeFinish_unawaited (s := t) unawaited]
    · rw [purgeFinish_bar (s := t) begun phase]
    · intro u
      rw [purgeFinish_release (s := t) begun phase]
      refine ⟨fun held => ?_, fun held => ?_⟩
      · exact congrArg Host.Outcome.next (freeReleased_of_awaited (s := u) (awaitsRelease_iff.2 ⟨_, rfl, rfl⟩) held)
      · exact congrArg Host.Outcome.next (freeReleased_of_not (s := u) fun both => held both.2)
  · exact congrArg Host.Outcome.next (by simp only [flushEnd, none])
  · intro last t ended
    have length : (portQueues p).length + 1 = last := portQueues_length p
    have stands : standDownOver t = true ↔ ended := standDownOver_flushEnded
    have walks : last ≤ k → exec (.flushWalkEnd p) s = .next (walkFinish (some p) t) := fun done =>
      congrArg Host.Outcome.next (flushEnd_last walk (length.trans_le done))
    refine ⟨fun early => congrArg Host.Outcome.next (flushEnd_early walk (length.symm ▸ early)), fun done none => ?_,
      fun done f begun => ⟨fun q c phase => ?_, fun q phase => ?_, fun phase => ⟨fun stood => ?_, fun running => ?_⟩,
        fun off reset down => ?_⟩⟩
    all_goals rw [walks done]
    · rw [walkFinish_none (s := t) none]
    · rw [walkFinish_portOff (s := t) begun phase]
      simp only [Option.some.injEq, eq_comm (a := p)]
      rfl
    · rw [walkFinish_portReset (s := t) begun phase]
      by_cases same : q = p
      · subst same
        simp only [if_true]
        rfl
      · rw [if_neg same, if_neg fun h => same (Option.some.inj h).symm]
    · rw [walkFinish_standDown (s := t) begun phase, if_pos (stands.2 stood)]
    · rw [walkFinish_standDown (s := t) begun phase, if_neg (mt stands.1 running)]
    · rw [walkFinish_other (s := t) begun off reset down]
  · exact congrArg Host.Outcome.next (by simp only [classEnd, none])
  · intro t ended
    have mgmt : t.mgmt = s.mgmt := modSide_mgmt _ _ _
    have class_end : 4 ≤ k → exec (.classFlushEnd b) s = .next (if (∃ f, s.mgmt.exec = some f ∧ f.phase = .standDown) ∧ ended then
        finishItem .done [] t else t) := fun last => by
      refine congrArg Host.Outcome.next ((classEnd_last walk last).trans ((walkFinish_class t).trans ?_))
      simp only [mgmt, t, standDownOver_classEnded]
      rfl
    refine ⟨fun early => congrArg Host.Outcome.next (classEnd_early walk early), fun last down stood => ?_, fun last not => ?_⟩
    · rw [class_end last, if_pos ⟨down, stood⟩]
    · rw [class_end last, if_neg]
      rintro ⟨⟨f, begun, down⟩, stood⟩
      exact not.elim (fun none => none f begun down) fun runs => runs stood

end

/-! # The evaluation of a carriage port -/

namespace Sys2Proof.Machine

open Sys2Proof

/-- The unit of a carriage port that stops: OFF, nothing in reception, its flush walk running (08 R132). -/
def PortUnit.turnedOff (p : Port) (u : PortUnit) : PortUnit :=
  { u with
    state := .off, rx := .idle, flush := some (u.flush.getD 0)
    seatCount := if isSeat p && isUpOrHeld u.state then 0 else u.seatCount }

/-- The entries once the stations of a port are detached, where they are (05 R91). -/
def unattached (p : Port) (detaches : Bool) (entries : Tab StationEntry 512) : Tab StationEntry 512 :=
  if detaches then entries.mapAll (fun e => if e.attachment = some p then { e with attachment := none } else e) else entries

theorem get_unattached (p : Port) (detaches : Bool) (entries : Tab StationEntry 512) (i : StationIx) :
    (unattached p detaches entries).get i =
      if detaches = true ∧ (entries.get i).attachment = some p then { entries.get i with attachment := none } else entries.get i := by
  unfold unattached
  by_cases h : detaches = true
  · simp [h, Tab.get_mapAll]
  · simp [h]

/-- Where a port's stations are detached, and where they are not, but for its units: the same fields are set (08 R132). -/
theorem detachedIf_eq (p : Port) (detaches : Bool) (s : State) : (if detaches = true then detachPort p s else s) = { s with
    ports := s.ports.modify p (fun u => { u with seatCount := if isSeat p && detaches then 0 else u.seatCount })
    table := { s.table with entries := unattached p detaches s.table.entries } } := by
  cases detaches with
  | true =>
    refine (detachPort_eq p s).trans ?_
    simp only [Bool.and_true]
    rfl
  | false =>
    simp only [Bool.and_false, Bool.false_eq_true, if_false, unattached]
    exact (modPort_of_fixed (s := s) (p := p) (f := fun u => { u with seatCount := u.seatCount }) rfl).symm

theorem withdrawn_modPort {g : PortUnit → PortUnit} (rx : ∀ u, (g u).rx = u.rx) (p : Port) (s : State) :
    withdrawn p (s.modPort p g) = (withdrawn p s).modPort p g := by
  have same : ((s.modPort p g).port p).rx = (s.port p).rx := by rw [port_modPort_self, rx]
  unfold withdrawn
  rw [same]
  split <;> rfl

theorem withdrawn_eq (p : Port) (s : State) : withdrawn p s = { s with mem := (withdrawn p s).mem } := by
  unfold withdrawn
  split <;> rfl

/-- A port with another state becomes OFF (08 R132). -/
theorem changePort_off {p : Port} {s : State} (other : (s.port p).state ≠ .off) : changePort p .off s = { withdrawn p s with
    ports := s.ports.modify p (PortUnit.turnedOff p)
    table := { s.table with entries := unattached p (isUpOrHeld (s.port p).state) s.table.entries } } := by
  have begun : changePort p .off s = startFlush p (if isUpOrHeld (s.port p).state = true
      then detachPort p (abandonReception p (s.modPort p (fun u => { u with state := .off })))
      else abandonReception p (s.modPort p (fun u => { u with state := .off }))) := if_neg other
  rw [begun, abandonReception_eq, withdrawn_modPort (g := fun u => { u with state := .off }) (fun _ => rfl), modPort_modPort,
    detachedIf_eq, startFlush_eq, withdrawn_eq]
  simp only [State.modPort, Tab.modify_modify]
  refine congrArg (fun ports => ({ s with
    mem := (withdrawn p s).mem, ports := ports
    table := { s.table with entries := unattached p (isUpOrHeld (s.port p).state) s.table.entries } } : State)) ?_
  exact Tab.modify_congr rfl

theorem changePort_same {p : Port} {s : State} {st : PortState} (same : (s.port p).state = st) : changePort p st s = s := if_pos same

theorem changePort_plain {p : Port} {s : State} {st : PortState} (other : (s.port p).state ≠ st) (plain : st = .up ∨ st = .down) :
    changePort p st s = s.modPort p (fun u => { u with state := st }) := by
  unfold changePort
  simp only [other, if_false]
  rcases plain with rfl | rfl <;> rfl

theorem changePort_held {p : Port} {s : State} (other : (s.port p).state ≠ .held) :
    changePort p .held s = abandon p (.discarding .held) (s.modPort p (fun u => { u with state := .held })) := if_neg other

theorem changePort_held_storing {p : Port} {s : State} (other : (s.port p).state ≠ .held) {r : RecordIx} {n : Nat}
    (storing : (s.port p).rx = .storing r n) :
    changePort p .held s = (releaseRecord r s).modPort p (fun u => { u with state := .held, rx := .discarding .held }) := by
  rw [changePort_held other, abandon_storing (by rw [port_modPort_self]; exact storing)]
  exact modPort_modPort (releaseRecord r s) p (fun u => { u with state := .held }) (fun u => { u with rx := .discarding .held })

theorem changePort_held_quiet {p : Port} {s : State} (other : (s.port p).state ≠ .held)
    (quiet : ∀ r n, (s.port p).rx ≠ .storing r n) : changePort p .held s = s.modPort p (fun u => { u with state := .held }) := by
  rw [changePort_held other, abandon]
  split
  · next r n storing =>
    rw [port_modPort_self] at storing
    exact absurd storing (quiet r n)
  · rfl

theorem withdrawn_storing {p : Port} {s : State} {r : RecordIx} {n : Nat} (storing : (s.port p).rx = .storing r n) :
    withdrawn p s = releaseRecord r s := by
  simp only [withdrawn, storing]

theorem withdrawn_quiet {p : Port} {s : State} (quiet : ∀ r n, (s.port p).rx ≠ .storing r n) : withdrawn p s = s := by
  unfold withdrawn
  split
  · next r n storing => exact absurd storing (quiet r n)
  · rfl

theorem evaluatedState_eq (u : PortUnit) : evaluatedState u =
    if u.enable = false then .off else if u.link = false then .down else if u.hold then .held else .up := by
  simp only [evaluatedState, Bool.not_eq_true']

end Sys2Proof.Machine

section

open Sys2Proof Sys2Proof.Machine

/-- Settles O48: each change of state by the state changed to. -/
theorem carriagePortEvaluated : Obligations.CarriagePortEvaluated := by
  intro s p carriage calm up held u st t
  have evaluated : t = changePort p st s := congrArg (fun x => changePort p x s) (evaluatedState_eq u)
  clear_value t st
  subst evaluated
  refine ⟨changePort_same, fun other => ⟨?_, ?_, changePort_plain other⟩⟩
  · rintro rfl
    have off := changePort_off other
    have mem : (changePort p .off s).mem = (withdrawn p s).mem := by rw [off]
    refine ⟨?_, fun i => ?_, fun q differs => ?_, fun r n storing => ?_, fun quiet => ?_, ?_⟩
    · rw [off]
      exact port_modPort_self s p _
    · rw [off]
      exact get_unattached p _ _ i
    · rw [off]
      exact port_modPort_ne s _ (Ne.symm differs)
    · rw [mem, withdrawn_storing storing]
    · rw [mem, withdrawn_quiet quiet]
    · rw [off, withdrawn_eq]
  · rintro rfl
    exact ⟨fun r n storing => changePort_held_storing other storing, changePort_held_quiet other⟩

end

/-! # Readers of parameters

What each step of a parser reads, and that what was written is read back (12 R173). -/

namespace Sys2Proof

/-! ## Enumerated values -/

theorem onOff_eq_some {v : Nat} {b : Bool} : onOff v = some b ↔ v = onOffCode b := by
  constructor
  · intro h
    unfold onOff at h
    split at h <;> cases h <;> rfl
  · rintro rfl
    cases b <;> rfl

theorem sideOf_eq_some {v : Nat} {b : Side} : sideOf v = some b ↔ v = sideCode (some b) := by
  constructor
  · intro h
    unfold sideOf at h
    split at h <;> cases h <;> rfl
  · rintro rfl
    cases b <;> rfl

theorem directionOf_eq_some {v : Nat} {d : Direction} : directionOf v = some d ↔ v = directionCode d := by
  constructor
  · intro h
    unfold directionOf at h
    split at h <;> cases h <;> rfl
  · rintro rfl
    cases d <;> rfl

theorem modeOf_eq_some {v : Nat} {m : NoticeMode} : modeOf v = some m ↔ v = modeCode m := by
  constructor
  · intro h
    unfold modeOf at h
    split at h <;> cases h <;> rfl
  · rintro rfl
    cases m <;> rfl

theorem queueKindOf_eq_some {v : Nat} {k : QueueKind} : queueKindOf v = some k ↔ v = queueKindCode k := by
  constructor
  · intro h
    unfold queueKindOf at h
    split at h <;> cases h <;> rfl
  · rintro rfl
    cases k <;> rfl

theorem onOffCode_lt (b : Bool) : onOffCode b < 256 ^ 1 := by cases b <;> decide

theorem queueKindCode_lt (k : QueueKind) : queueKindCode k < 256 ^ 1 := by cases k <;> decide

theorem modeCode_lt (m : NoticeMode) : modeCode m < 256 ^ 1 := by cases m <;> decide

theorem directionCode_lt (d : Direction) : directionCode d < 256 ^ 1 := by cases d <;> decide

theorem sideCode_lt (b : Side) : sideCode (some b) < 256 ^ 1 := by cases b <;> decide

/-- An optional setting of an enumeration is the code of what it stands for. -/
theorem optionally_eq_some_of_code {α : Type} {f : Nat → Option α} {code : α → Nat} (reads : ∀ {v y}, f v = some y ↔ v = code y)
    {o : Option Nat} {x : Option α} : optionally f o = some x ↔ o = x.map code := by
  rw [optionally_eq_some]
  cases x with
  | none => simp
  | some y => simp [reads]

/-! ## Fields -/

theorem takeIf_eq_some' {b : Bool} {k : Nat} {o : Option Nat} {bs rest : List Byte} : takeIf b k bs = some (o, rest) ↔
    o.isSome = b ∧ (∀ v, o = some v → v < 256 ^ k) ∧ bs = ifPresent k o ++ rest := by
  rw [takeIf_eq_some]
  cases o <;> rfl

/-- The bits of a number are those of its presence byte. -/
theorem eq_presence_testBits {m n : Nat} (lt : m < 2 ^ n) : m = presence ((List.range n).map m.testBit) := by
  refine (eq_presence_iff (by simpa using lt)).2 fun k small => ?_
  simp only [List.length_map, List.length_range] at small
  simp [List.getD_eq_getElem?_getD, small]

/-- A list that is counted where its mark is set. -/
theorem takeMarked_eq_some {α : Type} {f : List Byte → Option (α × List Byte)} {P : α → Prop} {enc : α → List Byte}
    (hf : ∀ bs x rest, f bs = some (x, rest) ↔ P x ∧ bs = enc x ++ rest) {hi : Nat} (byte : hi < 256) {b : Bool}
    {bs rest : List Byte} {l : List α} : (if b = true then takeCounted 1 hi f bs else some ([], bs)) = some (l, rest) ↔
      (!l.isEmpty) = b ∧ l.length ≤ hi ∧ (∀ x ∈ l, P x) ∧
        bs = (if l.isEmpty then [] else beBytes 1 l.length ++ l.flatMap enc) ++ rest := by
  cases b with
  | false =>
    cases l with
    | nil => simp
    | cons x l => simp
  | true =>
    rw [if_pos rfl, takeCounted_eq_some hf]
    cases l with
    | nil => simp
    | cons x l =>
      simp only [List.isEmpty_cons, Bool.not_false, Bool.false_eq_true, if_false, true_and]
      constructor
      · rintro ⟨-, few, -, each, bytes⟩
        exact ⟨few, each, bytes⟩
      · rintro ⟨few, each, bytes⟩
        exact ⟨Nat.succ_pos _, few, by omega, each, bytes⟩

/-! ## The steps of a parser -/

section

variable {α β : Type} {y : β}

/-- Whether a part is marked or not, it is read and the rest goes on. -/
theorem bind_of_ite {present : Prop} [Decidable present] {read absent : Option α} {next : α → Option β} :
    (if present then read.bind next else absent.bind next) = some y ↔
      ∃ x, (if present then read else absent) = some x ∧ next x = some y := by
  rw [← apply_ite (Option.bind · next), Option.bind_eq_some_iff]

theorem field_bind {k : Nat} {bs : List Byte} {next : Nat × List Byte → Option β} : (takeField k bs).bind next = some y ↔
    ∃ v rest, (v < 256 ^ k ∧ bs = beBytes k v ++ rest) ∧ next (v, rest) = some y := by
  simp only [Option.bind_eq_some_iff, Prod.exists, takeField_eq_some]

theorem fieldIf_bind {b : Bool} {k : Nat} {bs : List Byte} {next : Option Nat × List Byte → Option β} :
    (takeIf b k bs).bind next = some y ↔
      ∃ o rest, (o.isSome = b ∧ (∀ v, o = some v → v < 256 ^ k) ∧ bs = ifPresent k o ++ rest) ∧ next (o, rest) = some y := by
  simp only [Option.bind_eq_some_iff, Prod.exists, takeIf_eq_some']

theorem index_bind {n v : Nat} {next : Fin n → Option β} : (ixOf n v).bind next = some y ↔ ∃ i : Fin n, v = i.val ∧ next i = some y := by
  simp only [Option.bind_eq_some_iff, ixOf_eq_some]

theorem code_bind {f : Nat → Option α} {code : α → Nat} (reads : ∀ {v x}, f v = some x ↔ v = code x) {v : Nat} {next : α → Option β} :
    (f v).bind next = some y ↔ ∃ x, v = code x ∧ next x = some y := by
  simp only [Option.bind_eq_some_iff, reads]

theorem optionally_bind {f : Nat → Option α} {code : α → Nat} (reads : ∀ {v x}, f v = some x ↔ v = code x) {o : Option Nat}
    {next : Option α → Option β} : (optionally f o).bind next = some y ↔ ∃ x, o = x.map code ∧ next x = some y := by
  simp only [Option.bind_eq_some_iff, optionally_eq_some_of_code reads]

theorem end_bind {x : α} {bs : List Byte} {next : α → Option β} : (atEnd (x, bs)).bind next = some y ↔ bs = [] ∧ next x = some y := by
  simp only [Option.bind_eq_some_iff, atEnd_eq_some, and_assoc, exists_and_left, exists_eq_left']

end

end Sys2Proof

/-! # The parameters of SET_PORT and SET_QUEUE -/

namespace Sys2Proof

theorem takeLimit_eq_some (bs : List Byte) (x : QueueKind × Nat) (rest : List Byte) : takeLimit bs = some (x, rest) ↔
    x.2 < 256 ^ 2 ∧ bs = (beBytes 1 (queueKindCode x.1) ++ beBytes 2 x.2) ++ rest := by
  obtain ⟨k, v⟩ := x
  constructor
  · intro parsed
    obtain ⟨_, _, ⟨-, e0⟩, parsed⟩ := field_bind.1 parsed
    obtain ⟨_, e1, parsed⟩ := (code_bind queueKindOf_eq_some).1 parsed
    obtain ⟨_, _, ⟨fits, e2⟩, parsed⟩ := field_bind.1 parsed
    cases parsed
    exact ⟨fits, by rw [e0, e1, e2, List.append_assoc]⟩
  · rintro ⟨fits, rfl⟩
    rw [List.append_assoc, takeLimit]
    refine field_bind.2 ⟨_, _, ⟨queueKindCode_lt k, rfl⟩, ?_⟩
    refine (code_bind queueKindOf_eq_some).2 ⟨k, rfl, ?_⟩
    exact field_bind.2 ⟨_, _, ⟨fits, rfl⟩, rfl⟩

theorem backbone_of_queueExists {p : Port} {k : QueueKind} (has : queueExists p k = true) (backbone : p.val < 2) :
    k ∈ [QueueKind.through, .class0, .class1, .class2, .class3] := by
  revert has
  cases k <;> simp [queueExists] <;> omega

theorem carriage_of_queueExists {p : Port} {k : QueueKind} (has : queueExists p k = true) (carriage : ¬ p.val < 2) :
    k ∈ [QueueKind.priority, .normal, .seat] := by
  revert has
  cases k <;> simp [queueExists] <;> omega

/-- The kinds of the queues that a port has are at most five. -/
theorem length_le_of_queueExists {p : Port} {l : List QueueKind} (exist : ∀ k ∈ l, queueExists p k = true) (once : l.Nodup) :
    l.length ≤ 5 := by
  have inside : ∀ kinds : List QueueKind, (∀ k ∈ l, k ∈ kinds) → kinds.length ≤ 5 → l.length ≤ 5 := fun kinds sub few =>
    (once.subperm sub).length_le.trans few
  by_cases backbone : p.val < 2
  · exact inside _ (fun k listed => backbone_of_queueExists (exist k listed) backbone) (Nat.le_refl 5)
  · exact inside _ (fun k listed => carriage_of_queueExists (exist k listed) backbone) (by decide)

theorem PortWrite.few_of_valid {w : PortWrite} (h : w.valid = true) : w.limits.length ≤ 5 := by
  simp only [PortWrite.valid, noRepeat, Bool.and_eq_true, decide_eq_true_eq, List.all_eq_true] at h
  obtain ⟨⟨-, exist⟩, once⟩ := h
  have kinds := length_le_of_queueExists (l := w.limits.map (·.1)) (p := w.port)
    (fun k listed => by obtain ⟨x, named, rfl⟩ := List.mem_map.1 listed; exact exist x named) once
  rwa [List.length_map] at kinds

/-- SET_PORT is read exactly from the bytes of a write that its port allows (08 R137). -/
theorem parsePortWrite_eq_some {bs : List Byte} {w : PortWrite} : parsePortWrite bs = some w ↔
    w.valid = true ∧ (∀ v, w.seatLimit = some v → v < 256 ^ 1) ∧ (∀ x ∈ w.limits, x.2 < 256 ^ 2) ∧ bs = encodePortWrite w := by
  constructor
  · intro parsed
    obtain ⟨_, _, ⟨-, e0⟩, parsed⟩ := field_bind.1 parsed
    obtain ⟨port, e1, parsed⟩ := index_bind.1 parsed
    obtain ⟨m, _, ⟨-, e2⟩, parsed⟩ := field_bind.1 parsed
    obtain ⟨small, parsed⟩ := Option.ite_none_left_eq_some.1 parsed
    obtain ⟨_, _, ⟨b0, -, e3⟩, parsed⟩ := fieldIf_bind.1 parsed
    obtain ⟨enable, e4, parsed⟩ := (optionally_bind onOff_eq_some).1 parsed
    obtain ⟨_, _, ⟨b1, -, e5⟩, parsed⟩ := fieldIf_bind.1 parsed
    obtain ⟨hold, e6, parsed⟩ := (optionally_bind onOff_eq_some).1 parsed
    obtain ⟨_, _, ⟨b2, -, e7⟩, parsed⟩ := fieldIf_bind.1 parsed
    obtain ⟨flood, e8, parsed⟩ := (optionally_bind onOff_eq_some).1 parsed
    obtain ⟨seat, _, ⟨b3, fits, e9⟩, parsed⟩ := fieldIf_bind.1 parsed
    obtain ⟨⟨limits, _⟩, counted, parsed⟩ := bind_of_ite.1 parsed
    obtain ⟨b4, -, each, e10⟩ := (takeMarked_eq_some takeLimit_eq_some (by decide)).1 counted
    obtain ⟨e11, parsed⟩ := end_bind.1 parsed
    obtain ⟨valid, same⟩ := Option.ite_none_right_eq_some.1 parsed
    cases same
    have marks : m = presence [enable.isSome, hold.isSome, flood.isSome, seat.isSome, !limits.isEmpty] := by
      rw [← Option.isSome_map (f := onOffCode), ← e4, b0, ← Option.isSome_map (f := onOffCode), ← e6, b1,
        ← Option.isSome_map (f := onOffCode), ← e8, b2, b3, b4]
      exact eq_presence_testBits (n := 5) (Nat.lt_of_not_le small)
    refine ⟨valid, fits, each, ?_⟩
    simp only [e0, e1, e2, e3, e4, e5, e6, e7, e8, e9, e10, e11, encodePortWrite, ← marks, List.append_assoc, List.append_nil]
  · rintro ⟨valid, fits, each, rfl⟩
    have few := PortWrite.few_of_valid valid
    obtain ⟨port, enable, hold, flood, seat, limits⟩ := w
    simp only [encodePortWrite, List.append_assoc, parsePortWrite]
    generalize marks : presence [enable.isSome, hold.isSome, flood.isSome, seat.isSome, !limits.isEmpty] = m
    have small : m < 32 := by rw [← marks]; exact presence_lt _
    have bits : ∀ k, m.testBit k = [enable.isSome, hold.isSome, flood.isSome, seat.isSome, !limits.isEmpty].getD k false := fun k => by
      rw [← marks]; exact presence_testBit _ k
    have codes : ∀ (o : Option Bool) (v : Nat), o.map onOffCode = some v → v < 256 ^ 1 := fun o v coded => by
      obtain ⟨b, -, rfl⟩ := Option.map_eq_some_iff.1 coded
      exact onOffCode_lt b
    refine field_bind.2 ⟨port.val, _, ⟨by omega, rfl⟩, ?_⟩
    refine index_bind.2 ⟨port, rfl, ?_⟩
    refine field_bind.2 ⟨m, _, ⟨by omega, rfl⟩, ?_⟩
    refine Option.ite_none_left_eq_some.2 ⟨Nat.not_le_of_lt small, ?_⟩
    refine fieldIf_bind.2 ⟨_, _, ⟨(Option.isSome_map ..).trans (bits 0).symm, codes enable, rfl⟩, (optionally_bind onOff_eq_some).2 ⟨enable, rfl, ?_⟩⟩
    refine fieldIf_bind.2 ⟨_, _, ⟨(Option.isSome_map ..).trans (bits 1).symm, codes hold, rfl⟩, (optionally_bind onOff_eq_some).2 ⟨hold, rfl, ?_⟩⟩
    refine fieldIf_bind.2 ⟨_, _, ⟨(Option.isSome_map ..).trans (bits 2).symm, codes flood, rfl⟩, (optionally_bind onOff_eq_some).2 ⟨flood, rfl, ?_⟩⟩
    refine fieldIf_bind.2 ⟨seat, _, ⟨(bits 3).symm, fits, rfl⟩, ?_⟩
    refine bind_of_ite.2 ⟨(limits, []), (takeMarked_eq_some takeLimit_eq_some (by decide)).2
      ⟨(bits 4).symm, few, each, (List.append_nil _).symm⟩, ?_⟩
    exact end_bind.2 ⟨rfl, if_pos valid⟩

end Sys2Proof

/-! # SET_PORT and RESET_PORT -/

namespace Sys2Proof

theorem PortWrite.nodup_of_valid {w : PortWrite} (h : w.valid = true) : (w.limits.map (·.1)).Nodup := by
  simp only [PortWrite.valid, noRepeat, Bool.and_eq_true, decide_eq_true_eq] at h
  exact h.2

end Sys2Proof

namespace Sys2Proof.Machine

open Sys2Proof

/-! ## Queue limits -/

theorem queueNamed_injective {p : Port} {k k' : QueueKind} {q : QueueId} (named : queueNamed p k = some q)
    (named' : queueNamed p k' = some q) : k = k' := by
  unfold queueNamed at named named'
  cases class_p : portClass p <;> cases k <;> simp only [class_p, reduceCtorEq, Option.some.injEq] at named <;> subst named <;>
    cases k' <;> simp_all

theorem writeNamedLimit_queue (p : Port) (s : State) (x : QueueKind × Nat) (q : QueueId) : (writeNamedLimit p s x).queue q =
    if queueNamed p x.1 = some q then { s.queue q with limit := min 2048 x.2 } else s.queue q := by
  unfold writeNamedLimit
  cases named : queueNamed p x.1 with
  | none => rfl
  | some q' =>
    refine (queue_modQueue s q' q _).trans ?_
    by_cases same : q' = q
    · subst same
      simp [clampTo, Config.queueLimitMax]
    · simp [same]

theorem writeLimits_shape (p : Port) (l : List (QueueKind × Nat)) (s : State) :
    l.foldl (writeNamedLimit p) s = { s with queues := (l.foldl (writeNamedLimit p) s).queues } := by
  induction l generalizing s with
  | nil => rfl
  | cons x l ih =>
    have one : writeNamedLimit p s x = { s with queues := (writeNamedLimit p s x).queues } := by
      unfold writeNamedLimit
      split <;> rfl
    exact (ih (writeNamedLimit p s x)).trans
      (congrArg (fun t : State => { t with queues := (l.foldl (writeNamedLimit p) (writeNamedLimit p s x)).queues }) one)

theorem writeLimits_other {p : Port} {l : List (QueueKind × Nat)} {q : QueueId} (unnamed : ∀ x ∈ l, queueNamed p x.1 ≠ some q)
    (s : State) : (l.foldl (writeNamedLimit p) s).queue q = s.queue q := by
  induction l generalizing s with
  | nil => rfl
  | cons x l ih =>
    obtain ⟨here, later⟩ := List.forall_mem_cons.1 unnamed
    refine (ih later (writeNamedLimit p s x)).trans ?_
    rw [writeNamedLimit_queue, if_neg here]

theorem writeLimits_named {p : Port} {l : List (QueueKind × Nat)} (once : (l.map (·.1)).Nodup) {x : QueueKind × Nat} (listed : x ∈ l)
    {q : QueueId} (named : queueNamed p x.1 = some q) (s : State) :
    (l.foldl (writeNamedLimit p) s).queue q = { s.queue q with limit := min 2048 x.2 } := by
  induction l generalizing s with
  | nil => cases listed
  | cons y l ih =>
    obtain ⟨notIn, once⟩ := List.nodup_cons.1 once
    rcases List.mem_cons.1 listed with rfl | later
    · refine (writeLimits_other (fun y listed' named' => notIn ?_) (writeNamedLimit p s x)).trans ?_
      · exact List.mem_map.2 ⟨y, listed', queueNamed_injective named' named⟩
      · rw [writeNamedLimit_queue, if_pos named]
    · refine (ih once later (writeNamedLimit p s y)).trans ?_
      have other : queueNamed p y.1 ≠ some q := fun named' =>
        notIn (List.mem_map.2 ⟨x, later, queueNamed_injective named named'⟩)
      rw [writeNamedLimit_queue, if_neg other]

/-! ## SET_PORT -/

theorem portWritten_shape (w : PortWrite) (s : State) : portWritten w s = { s with
    ports := s.ports.modify w.port (fun u => { u with
      enable := w.enable.getD u.enable, hold := w.hold.getD u.hold, flood := w.flood.getD u.flood
      seatLimit := (w.seatLimit.map (fun v => max 1 (min 4 v))).getD u.seatLimit })
    queues := (portWritten w s).queues } := by
  unfold portWritten
  refine (writeLimits_shape _ _ _).trans ?_
  simp only [written_eq_getD]
  rfl

theorem portClamped_iff (w : PortWrite) : portClamped w = true ↔
    (∃ v, w.seatLimit = some v ∧ (v < 1 ∨ 4 < v)) ∨ ∃ x ∈ w.limits, 2048 < x.2 := by
  rw [portClamped, Bool.or_eq_true, wasOutside_eq_true_iff, List.any_eq_true]
  simp [outside_eq_true_iff, Config.queueLimitMax]

theorem exec_setPort {s : State} {ps : List Byte} {w : PortWrite} (item : ItemIs s 0x15 ps) (parsed : parsePortWrite ps = some w) :
    exec .setPort s = .next (applyEffect s (setPortEffect w s)) :=
  congrArg Host.Outcome.next (runItem_of_parsed item (hasCode_ofNat (by decide) _) parsed)

theorem exec_resetPort {s : State} {ps : List Byte} {p : Port} (item : ItemIs s 0x16 ps) (parsed : parseIndex 58 ps = some p) :
    exec .resetPort s = .next (applyEffect s (resetPortEffect p s)) :=
  congrArg Host.Outcome.next (runItem_of_parsed item (hasCode_ofNat (by decide) _) parsed)

/-- An item that is done answers DONE, or DONE_CLAMPED where a value was brought into range (10 R160). -/
theorem applyEffect_done {clamped : Bool} {P : Prop} (iff : clamped = true ↔ P) (s t : State) (data : List Byte) :
    (P → applyEffect s (.done t data clamped) = finishItem .doneClamped data t) ∧
    (¬ P → applyEffect s (.done t data clamped) = finishItem .done data t) := by
  refine ⟨fun holds => ?_, fun fails => ?_⟩
  · rw [iff.2 holds]
    rfl
  · rw [Bool.eq_false_iff.2 (mt iff.1 fails)]
    rfl

/-! ## RESET_PORT -/

/-- A carriage port that receives nothing while OFF stops, whatever its state was (08 R132, R139). -/
theorem startFlush_changePort_off {p : Port} {s : State} (calm : isUpOrHeld (s.port p).state = false → (s.port p).rx = .idle) :
    startFlush p (changePort p .off s) = { withdrawn p s with
      ports := s.ports.modify p (PortUnit.turnedOff p)
      table := { s.table with entries := unattached p (isUpOrHeld (s.port p).state) s.table.entries } } := by
  rw [startFlush_eq]
  by_cases off : (s.port p).state = .off
  · have idle : (s.port p).rx = .idle := calm (by rw [off]; rfl)
    rw [changePort_same off, withdrawn_quiet (by rw [idle]; nofun), off]
    refine modPort_congr ?_
    unfold PortUnit.turnedOff
    generalize s.port p = u at off idle
    obtain ⟨⟩ := u
    cases off
    cases idle
    simp [isUpOrHeld]
  · rw [changePort_off off]
    refine congrArg (fun ports => ({ withdrawn p s with
      ports := ports
      table := { s.table with entries := unattached p (isUpOrHeld (s.port p).state) s.table.entries } } : State)) ?_
    refine (Tab.modify_modify _ _ _ _).trans (Tab.modify_congr ?_)
    rfl

theorem startFlush_abandonReception (p : Port) (s : State) : startFlush p (abandonReception p s) = { withdrawn p s with
    ports := s.ports.modify p (fun u => { u with rx := .idle, flush := some (u.flush.getD 0) }) } := by
  rw [abandonReception_eq, startFlush_eq, modPort_modPort, withdrawn_eq]
  rfl

theorem isSeat_of_backbone {p : Port} (backbone : isCarriage p = false) : isSeat p = false := by
  simp only [isCarriage, isSeat, decide_eq_false_iff_not] at backbone ⊢
  omega

end Sys2Proof.Machine

section

open Sys2Proof Sys2Proof.Machine

/-- Settles O49: what is written, then what the evaluation of a carriage port in SERVICE adds. -/
theorem portSet : Obligations.PortSet := by
  intro s ps w item parsed p clamped
  rw [exec_setPort item parsed]
  have iff : portClamped w = true ↔ clamped := portClamped_iff w
  refine ⟨fun busy => ?_, fun free => ⟨portWritten w s, portWritten_shape w s, fun x listed q named => ?_, fun q unnamed => ?_,
    fun plain => ?_, fun carriage service => ?_⟩⟩
  · rw [setPortEffect, if_pos (Option.isSome_iff_ne_none.2 busy)]
    rfl
  · exact writeLimits_named (PortWrite.nodup_of_valid (parsePortWrite_eq_some.1 parsed).1) listed named _
  · exact writeLimits_other unnamed _
  · have effect : setPortEffect w s = .done (portWritten w s) [] (portClamped w) := by
      unfold setPortEffect
      rw [if_neg (by rw [free]; nofun)]
      refine if_neg fun serves => ?_
      rcases plain with backbone | out
      · rw [show isCarriage w.port = false from backbone] at serves
        nomatch serves.1
      · exact out serves.2
    obtain ⟨yes, no⟩ := applyEffect_done iff s (portWritten w s) []
    rw [effect]
    exact ⟨fun c => congrArg Host.Outcome.next (yes c), fun c => congrArg Host.Outcome.next (no c)⟩
  · intro e
    have state : ((portWritten w s).port p).state = (s.port p).state := by
      rw [portWritten_shape]
      simp only [State.port, p, Tab.get_modify_self]
    have effect : setPortEffect w s = if (s.port p).state ≠ .off ∧ (e.port p).state = .off
        then .wait e (.portOff p (portClamped w)) else .done e [] (portClamped w) := by
      unfold setPortEffect
      rw [if_neg (by rw [free]; nofun), if_pos ⟨carriage, service⟩, state]
    rw [effect]
    refine ⟨fun done => ?_, fun on turned => ⟨portClamped w, iff, ?_⟩⟩
    · obtain ⟨yes, no⟩ := applyEffect_done iff s e []
      rw [if_neg fun both => done.elim both.1 fun stays => stays both.2]
      exact ⟨fun c => congrArg Host.Outcome.next (yes c), fun c => congrArg Host.Outcome.next (no c)⟩
    · have mgmt : e.mgmt = s.mgmt := by
        simp only [e, evaluatePort_frame]
        rw [portWritten_shape]
      rw [if_pos ⟨on, turned⟩]
      simp only [applyEffect, waitItem, State.modMgmt, mgmt]

/-- Settles O50: the port stops, and its item waits for the flush walk. -/
theorem portReset : Obligations.PortReset := by
  intro s ps p item parsed calm
  rw [exec_resetPort item parsed]
  have allows : isCarriage p = false ∨ s.line.part = .service → ¬ (isCarriage p = true ∧ s.line.part ≠ .service) := by
    rintro (backbone | service) ⟨carriage, out⟩
    · rw [backbone] at carriage
      cases carriage
    · exact out service
  refine ⟨fun carriage out => ?_, fun allowed => ⟨fun busy => ?_, fun free => ?_⟩⟩
  · rw [resetPortEffect, if_pos ⟨carriage, out⟩]
    rfl
  all_goals have may := allows allowed
  · rw [resetPortEffect, if_neg may, if_pos (Option.isSome_iff_ne_none.2 busy)]
    rfl
  · have unflushed : ¬ (s.port p).flush.isSome = true := by rw [free]; nofun
    have mem : ∀ m, m = (withdrawn p s).mem → (∀ r n, (s.port p).rx = .storing r n → m = (releaseRecord r s).mem) ∧
        ((∀ r n, (s.port p).rx ≠ .storing r n) → m = s.mem) := fun m same =>
      ⟨fun r n storing => by rw [same, withdrawn_storing storing], fun quiet => by rw [same, withdrawn_quiet quiet]⟩
    cases kind : isCarriage p with
    | true =>
      have effect : resetPortEffect p s = .wait { withdrawn p s with
          ports := s.ports.modify p (PortUnit.turnedOff p)
          table := { s.table with entries := unattached p (isUpOrHeld (s.port p).state) s.table.entries } } (.portReset p) := by
        rw [resetPortEffect, if_neg may, if_neg unflushed, if_pos kind, startFlush_changePort_off (calm kind)]
      rw [effect, withdrawn_eq]
      obtain ⟨storing, quiet⟩ := mem _ rfl
      refine ⟨_, rfl, ?_, fun q other => ?_, fun i => ?_, storing, quiet, rfl⟩
      · refine (port_modPort_self s p _).trans ?_
        rw [PortUnit.turnedOff, free]
        rfl
      · exact port_modPort_ne s _ (Ne.symm other)
      · refine (get_unattached p _ _ i).trans ?_
        simp only [true_and]
        rfl
    | false =>
      have effect : resetPortEffect p s = .wait { withdrawn p s with
          ports := s.ports.modify p (fun u => { u with rx := .idle, flush := some (u.flush.getD 0) }) } (.portReset p) := by
        rw [resetPortEffect, if_neg may, if_neg unflushed, if_neg (by rw [kind]; nofun), startFlush_abandonReception]
      rw [effect, withdrawn_eq]
      obtain ⟨storing, quiet⟩ := mem _ rfl
      refine ⟨_, rfl, ?_, fun q other => ?_, fun i => ?_, storing, quiet, rfl⟩
      · refine (port_modPort_self s p _).trans ?_
        rw [free, isSeat_of_backbone kind]
        rfl
      · exact port_modPort_ne s _ (Ne.symm other)
      · simp only [Bool.false_eq_true, false_and, if_false]
        rfl

end

/-! # The items of the line controller -/

namespace Sys2Proof.Machine

open Sys2Proof

/-! ## START -/

/-- An OFF port that receives nothing takes the state of its settings and link, and nothing else (08 R132). -/
theorem evaluatePort_of_off {p : Port} {s : State} (off : (s.port p).state = .off) (idle : (s.port p).rx = .idle) :
    evaluatePort p s = s.modPort p (fun u => { u with state := evaluatedState u }) := by
  refine Eq.trans ?_ (modPort_congr (f := fun u => { u with state := evaluatedState (s.port p) }) rfl)
  unfold evaluatePort
  cases st : evaluatedState (s.port p) with
  | off =>
    rw [changePort_same off]
    refine (modPort_of_fixed ?_).symm
    rw [← off]
  | held => rw [changePort_held_quiet (by rw [off]; nofun) (by rw [idle]; nofun)]
  | up => rw [changePort_plain (by rw [off]; nofun) (.inl rfl)]
  | down => rw [changePort_plain (by rw [off]; nofun) (.inr rfl)]

theorem evaluatePorts_of_off {l : List Port} (once : l.Nodup) {s : State}
    (off : ∀ p ∈ l, (s.port p).state = .off ∧ (s.port p).rx = .idle) : l.foldl (fun t p => evaluatePort p t) s =
      { s with ports := l.foldl (fun ports p => ports.modify p (fun u : PortUnit => { u with state := evaluatedState u })) s.ports } := by
  induction l generalizing s with
  | nil => rfl
  | cons p l ih =>
    obtain ⟨notIn, once⟩ := List.nodup_cons.1 once
    obtain ⟨here, later⟩ := List.forall_mem_cons.1 off
    rw [List.foldl_cons, evaluatePort_of_off here.1 here.2, ih once fun q listed => ?_]
    · rfl
    · rw [port_modPort_ne _ _ (ne_of_mem_of_not_mem listed notIn).symm]
      exact later q listed

/-! ## STAND_DOWN -/

/-- The record of the frame in reception at a port. -/
def PortUnit.receiving (u : PortUnit) : List RecordIx :=
  match u.rx with
  | .storing r _ => [r]
  | _ => []

/-- The records of the frames that STAND_DOWN takes from a port: in reception, and behind a walk past the intake (01 R7, log 27). -/
def PortUnit.returned (u : PortUnit) : List RecordIx :=
  u.receiving ++ if flushPastIntake u then u.intake else []

/-- The unit of a carriage port stood down (09 R153). -/
def PortUnit.stoodOff (p : Port) (u : PortUnit) : PortUnit :=
  { u.turnedOff p with intake := if flushPastIntake u then [] else u.intake }

theorem releaseAll_append (l l' : List RecordIx) (s : State) : releaseAll (l ++ l') s = releaseAll l' (releaseAll l s) :=
  List.foldl_append

/-- What is released does not depend on the ports and the entries. -/
theorem releaseAll_dressed (l : List RecordIx) (s : State) (ports : Tab PortUnit 58) (table : StationTable) :
    releaseAll l { s with ports := ports, table := table } = { releaseAll l s with ports := ports, table := table } := by
  induction l generalizing s with
  | nil => rfl
  | cons r l ih => exact ih (releaseRecord r s)

theorem releaseAll_mem_congr (l : List RecordIx) {s t : State} (mem : t.mem = s.mem) : (releaseAll l t).mem = (releaseAll l s).mem := by
  induction l generalizing s t with
  | nil => exact mem
  | cons r l ih => exact ih (s := releaseRecord r s) (t := releaseRecord r t) (by unfold releaseRecord; rw [mem])

theorem releaseAll_eq_mem (l : List RecordIx) (s : State) : releaseAll l s = { s with mem := (releaseAll l s).mem } := by
  induction l generalizing s with
  | nil => rfl
  | cons r l ih => exact ih (releaseRecord r s)

theorem releaseAll_ports (l : List RecordIx) (s : State) : (releaseAll l s).ports = s.ports := by rw [releaseAll_shape]

theorem withdrawn_releaseAll (p : Port) (s : State) : withdrawn p s = releaseAll (s.port p).receiving s := by
  unfold withdrawn PortUnit.receiving
  cases (s.port p).rx <;> rfl

theorem flushPastIntake_turnedOff (p : Port) (u : PortUnit) : flushPastIntake (u.turnedOff p) = flushPastIntake u := by
  unfold flushPastIntake PortUnit.turnedOff
  cases u.flush with
  | none => rfl
  | some k => rfl

theorem flushLateIntake_eq (p : Port) (s : State) : flushLateIntake p s =
    (releaseAll (if flushPastIntake (s.port p) then (s.port p).intake else []) s).modPort p
      (fun u => { u with intake := if flushPastIntake (s.port p) then [] else u.intake }) := by
  unfold flushLateIntake flushIntake
  split
  · rfl
  · exact (modPort_of_fixed rfl).symm

/-- STAND_DOWN at a carriage port that receives nothing while OFF (09 R153). -/
theorem standPortDown_eq {p : Port} {s : State} (calm : isUpOrHeld (s.port p).state = false → (s.port p).rx = .idle) :
    standPortDown p s = { releaseAll (s.port p).returned s with
      ports := s.ports.modify p (PortUnit.stoodOff p)
      table := { s.table with entries := unattached p (isUpOrHeld (s.port p).state) s.table.entries } } := by
  unfold standPortDown
  rw [startFlush_eq, flushLateIntake_eq, modPort_modPort]
  by_cases off : (s.port p).state = .off
  · have idle : (s.port p).rx = .idle := calm (by rw [off]; rfl)
    have receives : (s.port p).receiving = [] := by rw [PortUnit.receiving, idle]
    rw [changePort_same off, PortUnit.returned, receives, List.nil_append, off, State.modPort, releaseAll_ports]
    have unit : (s.port p).stoodOff p = { s.port p with
        intake := if flushPastIntake (s.port p) then [] else (s.port p).intake, flush := some ((s.port p).flush.getD 0) } := by
      unfold PortUnit.stoodOff PortUnit.turnedOff
      rw [← off, ← idle]
      simp [off, isUpOrHeld]
    have ports := Tab.modify_congr (t := s.ports) (i := p) (f := PortUnit.stoodOff p) (g := fun u => { u with
        intake := if flushPastIntake (s.port p) then [] else u.intake, flush := some (u.flush.getD 0) }) unit
    rw [ports, releaseAll_shape]
    rfl
  · have unit : (changePort p .off s).port p = (s.port p).turnedOff p := by
      rw [changePort_off off]
      exact port_modPort_self s p _
    have past : flushPastIntake ((changePort p .off s).port p) = flushPastIntake (s.port p) := by
      rw [unit, flushPastIntake_turnedOff]
    have intake : ((changePort p .off s).port p).intake = (s.port p).intake := by rw [unit]; rfl
    have released := releaseAll_dressed (if flushPastIntake (s.port p) then (s.port p).intake else []) (withdrawn p s)
      (s.ports.modify p (PortUnit.turnedOff p))
      { s.table with entries := unattached p (isUpOrHeld (s.port p).state) s.table.entries }
    rw [past, intake, changePort_off off, released, PortUnit.returned, releaseAll_append, ← withdrawn_releaseAll]
    refine congrArg (fun ports => ({ releaseAll (if flushPastIntake (s.port p) then (s.port p).intake else []) (withdrawn p s) with
      ports := ports
      table := { s.table with entries := unattached p (isUpOrHeld (s.port p).state) s.table.entries } } : State)) ?_
    exact (Tab.modify_modify _ _ _ _).trans (Tab.modify_congr rfl)

/-- The carriage ports stood down one after the other. -/
theorem standPortsDown_eq {l : List Port} (once : l.Nodup) {s : State}
    (calm : ∀ p ∈ l, isUpOrHeld (s.port p).state = false → (s.port p).rx = .idle) :
    l.foldl (fun t p => standPortDown p t) s = { releaseAll (l.flatMap (fun p => (s.port p).returned)) s with
      ports := l.foldl (fun ports p => ports.modify p (PortUnit.stoodOff p)) s.ports
      table := { s.table with
        entries := l.foldl (fun entries p => unattached p (isUpOrHeld (s.port p).state) entries) s.table.entries } } := by
  induction l generalizing s with
  | nil => rfl
  | cons p l ih =>
    obtain ⟨notIn, once⟩ := List.nodup_cons.1 once
    obtain ⟨here, later⟩ := List.forall_mem_cons.1 calm
    have down := standPortDown_eq here
    have port : ∀ q ∈ l, (standPortDown p s).port q = s.port q := fun q listed => by
      rw [down]
      exact port_modPort_ne s _ (ne_of_mem_of_not_mem listed notIn).symm
    have returned : l.flatMap (fun q => ((standPortDown p s).port q).returned) = l.flatMap (fun q => (s.port q).returned) :=
      List.flatMap_congr fun q listed => by rw [port q listed]
    have entries : ∀ es : Tab StationEntry 512,
        l.foldl (fun entries q => unattached q (isUpOrHeld ((standPortDown p s).port q).state) entries) es =
        l.foldl (fun entries q => unattached q (isUpOrHeld (s.port q).state) entries) es := fun es =>
      List.foldl_ext _ _ _ fun _ q listed => by rw [port q listed]
    have released := releaseAll_dressed (l.flatMap (fun q => (s.port q).returned)) (releaseAll (s.port p).returned s)
      (s.ports.modify p (PortUnit.stoodOff p))
      { s.table with entries := unattached p (isUpOrHeld (s.port p).state) s.table.entries }
    rw [List.foldl_cons, ih once fun q listed => by rw [port q listed]; exact later q listed, returned, entries, down,
      released, List.flatMap_cons, releaseAll_append]
    rfl

/-- The entries whose stations STAND_DOWN detaches. -/
theorem get_foldl_unattached (up : Port → Bool) (l : List Port) (entries : Tab StationEntry 512) (i : StationIx) :
    (l.foldl (fun entries p => unattached p (up p) entries) entries).get i = { entries.get i with
      attachment := match (entries.get i).attachment with
        | none => none
        | some p => if p ∈ l ∧ up p = true then none else some p } := by
  induction l generalizing entries with
  | nil =>
    cases h : (entries.get i).attachment with
    | none => simp [← h]
    | some p => simp [← h]
  | cons q l ih =>
    rw [List.foldl_cons, ih, get_unattached]
    cases h : (entries.get i).attachment with
    | none => simp [h]
    | some p =>
      by_cases same : p = q
      · subst same
        cases u : up p <;> simp [h, u]
      · simp [h, same]

theorem carriagePorts_flatMap {β : Type} (f : Port → List β) :
    carriagePorts.flatMap f = (List.finRange 58).flatMap (fun p => if isCarriage p = false then [] else f p) := by
  unfold carriagePorts
  induction List.finRange 58 with
  | nil => rfl
  | cons p l ih =>
    cases h : isCarriage p with
    | true => rw [List.filter_cons_of_pos h, List.flatMap_cons, List.flatMap_cons, ih, h]; rfl
    | false => rw [List.filter_cons_of_neg (by rw [h]; nofun), List.flatMap_cons, ih, h]; rfl

theorem get_foldl_carriagePorts (f : Port → PortUnit → PortUnit) (ports : Tab PortUnit 58) (p : Port) :
    (carriagePorts.foldl (fun ports p => ports.modify p (f p)) ports).get p =
      if isCarriage p = true then f p (ports.get p) else ports.get p := by
  have same : carriagePorts.map (fun p => p) = carriagePorts := List.map_id' _
  by_cases carriage : isCarriage p = true
  · rw [if_pos carriage]
    exact Tab.get_foldl_modify_of_mem (ix := fun p => p) (f := f) (by rw [same]; exact carriagePorts_nodup)
      (mem_carriagePorts.2 carriage) ports
  · rw [if_neg carriage]
    exact Tab.get_foldl_modify_of_notMem (ix := fun p => p) (f := f) (by rw [same, mem_carriagePorts]; exact carriage) ports

/-- The part once START is carried out (09 R152). -/
def started (s : State) : State :=
  { s with
    line := { s.line with part := .service }
    ports := carriagePorts.foldl (fun ports p => ports.modify p (fun u : PortUnit => { u with state := evaluatedState u })) s.ports }

/-- The part once STAND_DOWN has begun (09 R153). -/
def stoodDown (s : State) : State :=
  { s with
    line := { s.line with part := .transit }
    ports := carriagePorts.foldl (fun ports p => ports.modify p (PortUnit.stoodOff p)) s.ports
    table := { s.table with
      entries := carriagePorts.foldl (fun entries p => unattached p (isUpOrHeld (s.port p).state) entries) s.table.entries }
    mem := (releaseAll (carriagePorts.flatMap (fun p => (s.port p).returned)) s).mem
    fore := { s.fore with classFlush := some 0 }, aft := { s.aft with classFlush := some 0 } }

section

variable {s : State} {ps : List Byte}

theorem exec_start (item : ItemIs s 0x03 []) : exec .start s = .next (applyEffect s (startEffect s)) :=
  congrArg Host.Outcome.next (runItem_of_parsed item (hasCode_ofNat (by decide) _) (a := ()) rfl)

theorem exec_standDown (item : ItemIs s 0x04 []) : exec .standDown s = .next (applyEffect s (standDownEffect s)) :=
  congrArg Host.Outcome.next (runItem_of_parsed item (hasCode_ofNat (by decide) _) (a := ()) rfl)

theorem exec_restart (item : ItemIs s 0x05 []) :
    exec .restart s = .next (finishItem .done [] { s with mgmt := { s.mgmt with restart := .armed } }) :=
  congrArg Host.Outcome.next (runItem_of_parsed item (hasCode_ofNat (by decide) _) (a := ()) rfl)

theorem exec_setLine {b : Side} (item : ItemIs s 0x06 ps) (parsed : parseSetLine ps = some b) :
    exec .setLine s = .next (applyEffect s (setLineEffect b s)) :=
  congrArg Host.Outcome.next (runItem_of_parsed item (hasCode_ofNat (by decide) _) parsed)

theorem startEffect_ready (transit : s.line.part = .transit) (position : s.line.position ≠ 0) (gateway : s.line.gateway ≠ none)
    (off : ∀ p, isCarriage p = true → (s.port p).state = .off ∧ (s.port p).rx = .idle) : startEffect s = .done (started s) [] false := by
  have evaluated := evaluatePorts_of_off carriagePorts_nodup (s := s.modLine (fun l => { l with part := .service }))
    fun p listed => off p (mem_carriagePorts.1 listed)
  unfold startEffect
  rw [if_pos ⟨transit, position, Option.isSome_iff_ne_none.2 gateway⟩, evaluated]
  rfl

theorem startEffect_refused (not : s.line.part ≠ .transit ∨ s.line.position = 0 ∨ s.line.gateway = none) :
    startEffect s = .refuse .wrongState := by
  refine if_neg ?_
  rintro ⟨transit, position, gateway⟩
  rcases not with out | zero | none
  · exact out transit
  · exact position zero
  · rw [none] at gateway
    cases gateway

theorem standDownEffect_service (service : s.line.part = .service)
    (calm : ∀ p, isCarriage p = true → isUpOrHeld (s.port p).state = false → (s.port p).rx = .idle) :
    standDownEffect s = .wait (stoodDown s) .standDown := by
  have stood := standPortsDown_eq carriagePorts_nodup (s := s.modLine (fun l => { l with part := .transit })) fun p listed =>
    calm p (mem_carriagePorts.1 listed)
  have mem := releaseAll_mem_congr (carriagePorts.flatMap (fun p => (s.port p).returned)) (s := s)
    (t := s.modLine (fun l => { l with part := .transit })) rfl
  rw [releaseAll_eq_mem] at stood
  unfold standDownEffect stoodDown
  rw [if_pos service]
  generalize carriagePorts = l at stood mem ⊢
  have stood' := stood.trans (congrArg (fun m => ({ s with
    line := { s.line with part := .transit }
    mem := m
    ports := l.foldl (fun ports p => ports.modify p (PortUnit.stoodOff p)) s.ports
    table := { s.table with
      entries := l.foldl (fun entries p => unattached p (isUpOrHeld (s.port p).state) entries) s.table.entries } } : State)) mem)
  exact congrArg (fun t => ItemEffect.wait (startClassFlush .aft (startClassFlush .fore t)) .standDown) stood'

end

end Sys2Proof.Machine

section

open Sys2Proof Sys2Proof.Machine

/-- Settles O40: each item by its condition; START and STAND_DOWN over the carriage ports one after the other. -/
theorem lineItemsCarriedOut : Obligations.LineItemsCarriedOut := by
  intro s ps agree wrong
  refine ⟨fun item => ?_, fun item => ?_, fun b item parsed => ?_, exec_restart⟩
  · rw [exec_start item]
    refine ⟨fun not => by rw [startEffect_refused not]; rfl, fun transit position gateway => ?_⟩
    have off : ∀ p, isCarriage p = true → (s.port p).state = .off ∧ (s.port p).rx = .idle := fun p carriage => by
      obtain ⟨states, calm⟩ := agree p carriage
      have down := states (by rw [transit]; nofun)
      exact ⟨down, calm (by rw [down]; rfl)⟩
    rw [startEffect_ready transit position gateway off]
    refine ⟨started s, rfl, rfl, fun p => (get_foldl_carriagePorts (fun _ u => { u with state := evaluatedState u }) s.ports p).trans ?_⟩
    simp only [evaluatedState_eq]
    rfl
  · rw [exec_standDown item]
    refine ⟨fun out => by rw [standDownEffect, if_neg out]; rfl, fun service => ?_⟩
    intro returned
    have calm := fun p carriage => (agree p carriage).2
    have same : carriagePorts.flatMap (fun p => (s.port p).returned) = returned := by
      rw [carriagePorts_flatMap]
      refine List.flatMap_congr fun p _ => ?_
      unfold PortUnit.returned PortUnit.receiving flushPastIntake
      cases isCarriage p with
      | false => rfl
      | true =>
        cases (s.port p).rx <;> cases (s.port p).flush with
        | none => rfl
        | some k => cases k <;> rfl
    rw [standDownEffect_service service calm]
    refine ⟨waitItem .standDown (stoodDown s), rfl, ?_, fun p => ?_, fun i => ?_, fun r => ?_, fun once => ?_, fun none => ?_⟩
    all_goals have mem : (stoodDown s).mem = (releaseAll returned s).mem := by rw [stoodDown, same]
    · have shape : (stoodDown s).mem = { s.mem with
          free := (stoodDown s).mem.free, freeCount := (stoodDown s).mem.freeCount, records := (stoodDown s).mem.records } := by
        rw [mem]
        exact congrArg State.mem (releaseAll_shape returned s)
      have waits := congrArg (fun m => ({ waitItem .standDown (stoodDown s) with mem := m } : State)) shape
      exact waits
    · refine (get_foldl_carriagePorts PortUnit.stoodOff s.ports p).trans ?_
      have unit : ∀ u : PortUnit, u.stoodOff p = { u with
          state := .off, rx := .idle, flush := some (u.flush.getD 0)
          intake := match u.flush with
            | some (_ + 1) => []
            | _ => u.intake
          seatCount := if isSeat p && isUpOrHeld u.state then 0 else u.seatCount } := fun u => by
        unfold PortUnit.stoodOff PortUnit.turnedOff flushPastIntake
        cases u.flush with
        | none => rfl
        | some k => cases k <;> rfl
      simp only [unit]
      rfl
    · refine (get_foldl_unattached (fun p => isUpOrHeld (s.port p).state) carriagePorts s.table.entries i).trans ?_
      simp only [mem_carriagePorts, ← Bool.and_eq_true]
      rfl
    · exact (congrArg (fun m : FrameMemory => m.records.get r) mem).trans (releaseAll_record returned s r)
    · obtain ⟨free, count⟩ := releaseAll_free once s
      exact ⟨(congrArg FrameMemory.free mem).trans free, (congrArg FrameMemory.freeCount mem).trans count⟩
    · rw [none] at mem
      exact mem
  · rw [exec_setLine item parsed]
    refine ⟨fun out => ?_, fun transit => ?_⟩
    · rw [setLineEffect, if_neg out]
      rfl
    · rw [setLineEffect, if_pos transit]
      rfl

end

/-! # The parameters of the other request kinds -/

namespace Sys2Proof

/-! ## One field -/

theorem parseSetLine_eq_some {bs : List Byte} {b : Side} : parseSetLine bs = some b ↔ bs = encodeSetLine b := by
  constructor
  · intro parsed
    obtain ⟨_, _, ⟨-, e0⟩, parsed⟩ := field_bind.1 parsed
    obtain ⟨side, e1, parsed⟩ := (code_bind sideOf_eq_some).1 parsed
    obtain ⟨e2, rfl⟩ := atEnd_eq_some.1 parsed
    rw [e0, e1, e2, List.append_nil, encodeSetLine]
  · rintro rfl
    unfold parseSetLine encodeSetLine
    refine field_bind.2 ⟨_, [], ⟨sideCode_lt b, (List.append_nil _).symm⟩, ?_⟩
    exact (code_bind sideOf_eq_some).2 ⟨b, rfl, rfl⟩

theorem parseIndex_eq_some {n : Nat} (byte : n ≤ 256) {bs : List Byte} {i : Fin n} :
    parseIndex n bs = some i ↔ bs = encodeIndex i.val := by
  constructor
  · intro parsed
    obtain ⟨_, _, ⟨-, e0⟩, parsed⟩ := field_bind.1 parsed
    obtain ⟨j, e1, parsed⟩ := index_bind.1 parsed
    obtain ⟨e2, rfl⟩ := atEnd_eq_some.1 parsed
    rw [e0, e1, e2, List.append_nil, encodeIndex]
  · rintro rfl
    unfold parseIndex encodeIndex
    refine field_bind.2 ⟨_, [], ⟨by omega, (List.append_nil _).symm⟩, ?_⟩
    exact index_bind.2 ⟨i, rfl, rfl⟩

theorem addrBytes_ofNat {v : Nat} (fits : v < 256 ^ 6) : addrBytes (BitVec.ofNat 48 v) = beBytes 6 v := by
  rw [addrBytes, BitVec.toNat_ofNat, Nat.mod_eq_of_lt (lt_of_lt_of_eq fits (by norm_num))]

theorem parseFindStation_eq_some {bs : List Byte} {a : Addr} :
    parseFindStation bs = some a ↔ isGroup a = false ∧ bs = addrBytes a := by
  constructor
  · intro parsed
    obtain ⟨v, _, ⟨fits, e0⟩, parsed⟩ := field_bind.1 parsed
    obtain ⟨e1, parsed⟩ := end_bind.1 parsed
    obtain ⟨single, same⟩ := Option.ite_none_left_eq_some.1 parsed
    cases same
    refine ⟨Bool.eq_false_iff.2 single, ?_⟩
    rw [e0, e1, List.append_nil, addrBytes_ofNat fits]
  · rintro ⟨single, rfl⟩
    rw [parseFindStation_addrBytes, single]
    rfl

theorem parseTakeReports_eq_some {bs : List Byte} {n : Nat} : parseTakeReports bs = some n ↔ 1 ≤ n ∧ n ≤ 16 ∧ bs = encodeIndex n := by
  have range : ∀ m, (m = 0 || Config.takeReportsMax < m) ↔ ¬ (1 ≤ m ∧ m ≤ 16) := fun m => by
    rw [Bool.or_eq_true, decide_eq_true_eq, decide_eq_true_eq, Config.takeReportsMax]
    omega
  constructor
  · intro parsed
    obtain ⟨v, _, ⟨-, e0⟩, parsed⟩ := field_bind.1 parsed
    obtain ⟨e1, parsed⟩ := end_bind.1 parsed
    obtain ⟨few, same⟩ := Option.ite_none_left_eq_some.1 parsed
    cases same
    obtain ⟨low, high⟩ := not_not.1 (mt (range n).2 few)
    exact ⟨low, high, by rw [e0, e1, List.append_nil, encodeIndex]⟩
  · rintro ⟨low, high, rfl⟩
    unfold parseTakeReports encodeIndex
    refine field_bind.2 ⟨n, [], ⟨by omega, (List.append_nil _).symm⟩, ?_⟩
    exact end_bind.2 ⟨rfl, if_neg fun out => (range n).1 out ⟨low, high⟩⟩

/-! ## Station references -/

theorem takeRef_eq_some (bs : List Byte) (r : StationRef) (rest : List Byte) :
    takeRef bs = some (r, rest) ↔ isGroup r.addr = false ∧ bs = encodeRef r ++ rest := by
  constructor
  · intro parsed
    obtain ⟨ix, _, ⟨-, e0⟩, parsed⟩ := field_bind.1 parsed
    obtain ⟨v, _, ⟨fits, e1⟩, parsed⟩ := field_bind.1 parsed
    obtain ⟨single, parsed⟩ := Option.ite_none_left_eq_some.1 parsed
    have addr : addrBytes (BitVec.ofNat 48 v) = beBytes 6 v := addrBytes_ofNat fits
    split at parsed
    · next alone =>
      cases parsed
      exact ⟨Bool.eq_false_iff.2 single, by rw [e0, e1, alone, encodeRef, addr, List.append_assoc]⟩
    · obtain ⟨i, index, same⟩ := Option.map_eq_some_iff.1 parsed
      cases same
      exact ⟨Bool.eq_false_iff.2 single, by rw [e0, e1, ixOf_eq_some.1 index, encodeRef, addr, List.append_assoc]⟩
  · rintro ⟨single, rfl⟩
    rw [takeRef_encodeRef_append, single]
    rfl

theorem ref_bind {β : Type} {y : β} {bs : List Byte} {next : StationRef × List Byte → Option β} : (takeRef bs).bind next = some y ↔
    ∃ r rest, (isGroup r.addr = false ∧ bs = encodeRef r ++ rest) ∧ next (r, rest) = some y := by
  simp only [Option.bind_eq_some_iff, Prod.exists, takeRef_eq_some]

theorem parseRef_eq_some {bs : List Byte} {r : StationRef} : parseRef bs = some r ↔ isGroup r.addr = false ∧ bs = encodeRef r := by
  constructor
  · intro parsed
    obtain ⟨r', _, ⟨single, e0⟩, parsed⟩ := ref_bind.1 parsed
    obtain ⟨e1, rfl⟩ := atEnd_eq_some.1 parsed
    exact ⟨single, by rw [e0, e1, List.append_nil]⟩
  · rintro ⟨single, rfl⟩
    exact ref_bind.2 ⟨r, [], ⟨single, (List.append_nil _).symm⟩, rfl⟩

theorem isEmpty_ifPresent {k : Nat} (o : Option Nat) : (ifPresent (k + 1) o).isEmpty = !o.isSome := by
  cases o with
  | none => rfl
  | some v => simp [ifPresent, beBytes]

theorem parseAdmit_eq_some {bs : List Byte} {r : StationRef} {n : Fin 32} {v : Option Nat} : parseAdmit bs = some (r, n, v) ↔
    isGroup r.addr = false ∧ (∀ x, v = some x → x < 256 ^ 4) ∧ bs = encodeAdmit r n v := by
  constructor
  · intro parsed
    obtain ⟨r', _, ⟨single, e0⟩, parsed⟩ := ref_bind.1 parsed
    obtain ⟨_, _, ⟨-, e1⟩, parsed⟩ := field_bind.1 parsed
    obtain ⟨n', e2, parsed⟩ := index_bind.1 parsed
    obtain ⟨v', _, ⟨-, fits, e3⟩, parsed⟩ := fieldIf_bind.1 parsed
    obtain ⟨e4, same⟩ := atEnd_eq_some.1 parsed
    cases same
    exact ⟨single, fits, by rw [e0, e1, e2, e3, e4, encodeAdmit, List.append_nil, List.append_assoc]⟩
  · rintro ⟨single, fits, rfl⟩
    unfold parseAdmit encodeAdmit
    refine ref_bind.2 ⟨r, _, ⟨single, List.append_assoc _ _ _⟩, ?_⟩
    refine field_bind.2 ⟨n.val, _, ⟨by omega, rfl⟩, ?_⟩
    refine index_bind.2 ⟨n, rfl, ?_⟩
    refine fieldIf_bind.2 ⟨v, [], ⟨?_, fits, (List.append_nil _).symm⟩, rfl⟩
    rw [isEmpty_ifPresent, Bool.not_not]

theorem parseRefValue_eq_some {bs : List Byte} {r : StationRef} {v : Nat} : parseRefValue bs = some (r, v) ↔
    isGroup r.addr = false ∧ v < 256 ^ 4 ∧ bs = encodeRefValue r v := by
  constructor
  · intro parsed
    obtain ⟨r', _, ⟨single, e0⟩, parsed⟩ := ref_bind.1 parsed
    obtain ⟨v', _, ⟨fits, e1⟩, parsed⟩ := field_bind.1 parsed
    obtain ⟨e2, same⟩ := atEnd_eq_some.1 parsed
    cases same
    exact ⟨single, fits, by rw [e0, e1, e2, encodeRefValue, List.append_nil]⟩
  · rintro ⟨single, fits, rfl⟩
    rw [parseRefValue_encodeRefValue r fits, single]
    rfl

/-! ## Timing -/

theorem parseTiming_eq_some {bs : List Byte} {w : TimingFields} : parseTiming bs = some w ↔
    w.valid = true ∧ (∀ o ∈ [w.divisor, w.holdOff, w.rehomeLimit, w.learnedLimit, w.admittedLimit, w.flapLimit, w.spacing],
      ∀ v, o = some v → v < 256 ^ 2) ∧ bs = encodeTiming w := by
  constructor
  · intro parsed
    obtain ⟨m, _, ⟨-, e0⟩, parsed⟩ := field_bind.1 parsed
    obtain ⟨small, parsed⟩ := Option.ite_none_left_eq_some.1 parsed
    obtain ⟨d, _, ⟨b0, f0, e1⟩, parsed⟩ := fieldIf_bind.1 parsed
    obtain ⟨h, _, ⟨b1, f1, e2⟩, parsed⟩ := fieldIf_bind.1 parsed
    obtain ⟨r, _, ⟨b2, f2, e3⟩, parsed⟩ := fieldIf_bind.1 parsed
    obtain ⟨l, _, ⟨b3, f3, e4⟩, parsed⟩ := fieldIf_bind.1 parsed
    obtain ⟨a, _, ⟨b4, f4, e5⟩, parsed⟩ := fieldIf_bind.1 parsed
    obtain ⟨f, _, ⟨b5, f5, e6⟩, parsed⟩ := fieldIf_bind.1 parsed
    obtain ⟨n, _, ⟨b6, f6, e7⟩, parsed⟩ := fieldIf_bind.1 parsed
    obtain ⟨e8, parsed⟩ := end_bind.1 parsed
    obtain ⟨valid, same⟩ := Option.ite_none_right_eq_some.1 parsed
    cases same
    have marks : m = presence [d.isSome, h.isSome, r.isSome, l.isSome, a.isSome, f.isSome, n.isSome] := by
      rw [b0, b1, b2, b3, b4, b5, b6]
      exact eq_presence_testBits (n := 7) (Nat.lt_of_not_le small)
    refine ⟨valid, by simpa using ⟨f0, f1, f2, f3, f4, f5, f6⟩, ?_⟩
    simp only [e0, e1, e2, e3, e4, e5, e6, e7, e8, encodeTiming, ← marks, List.append_assoc, List.append_nil]
  · rintro ⟨valid, fits, rfl⟩
    obtain ⟨d, h, r, l, a, f, n⟩ := w
    simp only [List.forall_mem_cons, List.not_mem_nil, false_implies, implies_true, and_true] at fits
    obtain ⟨f0, f1, f2, f3, f4, f5, f6⟩ := fits
    simp only [encodeTiming, List.append_assoc, parseTiming]
    generalize marks : presence [d.isSome, h.isSome, r.isSome, l.isSome, a.isSome, f.isSome, n.isSome] = m
    have small : m < 128 := by rw [← marks]; exact presence_lt _
    have bits : ∀ k, [d.isSome, h.isSome, r.isSome, l.isSome, a.isSome, f.isSome, n.isSome].getD k false = m.testBit k := fun k => by
      rw [← marks]; exact (presence_testBit _ k).symm
    refine field_bind.2 ⟨m, _, ⟨by omega, rfl⟩, ?_⟩
    refine Option.ite_none_left_eq_some.2 ⟨Nat.not_le_of_lt small, ?_⟩
    refine fieldIf_bind.2 ⟨d, _, ⟨bits 0, f0, rfl⟩, ?_⟩
    refine fieldIf_bind.2 ⟨h, _, ⟨bits 1, f1, rfl⟩, ?_⟩
    refine fieldIf_bind.2 ⟨r, _, ⟨bits 2, f2, rfl⟩, ?_⟩
    refine fieldIf_bind.2 ⟨l, _, ⟨bits 3, f3, rfl⟩, ?_⟩
    refine fieldIf_bind.2 ⟨a, _, ⟨bits 4, f4, rfl⟩, ?_⟩
    refine fieldIf_bind.2 ⟨f, _, ⟨bits 5, f5, rfl⟩, ?_⟩
    refine fieldIf_bind.2 ⟨n, [], ⟨bits 6, f6, (List.append_nil _).symm⟩, ?_⟩
    exact end_bind.2 ⟨rfl, if_pos valid⟩

end Sys2Proof

/-! # The parameters of zones, profiles, queues, counters and notices -/

namespace Sys2Proof

/-! ## Zone match entries -/

theorem parseZoneWrite_none {bs : List Byte} {i : Fin 64} : parseZoneWrite bs = some (i, none) ↔ bs = encodeZoneWrite i none := by
  constructor
  · intro parsed
    obtain ⟨_, _, ⟨-, e0⟩, parsed⟩ := field_bind.1 parsed
    obtain ⟨j, e1, parsed⟩ := index_bind.1 parsed
    obtain ⟨m, _, ⟨-, e2⟩, parsed⟩ := field_bind.1 parsed
    by_cases clear : m = 0
    · have parsed := (if_pos clear).symm.trans parsed
      obtain ⟨e3, same⟩ := atEnd_eq_some.1 parsed
      cases same
      rw [e0, e1, e2, e3, clear, List.append_nil, encodeZoneWrite]
    · have parsed := (if_neg clear).symm.trans parsed
      obtain ⟨-, parsed⟩ := Option.ite_none_left_eq_some.1 parsed
      obtain ⟨_, _, -, parsed⟩ := field_bind.1 parsed
      obtain ⟨_, _, -, parsed⟩ := field_bind.1 parsed
      obtain ⟨_, _, -, parsed⟩ := field_bind.1 parsed
      obtain ⟨_, -, parsed⟩ := (code_bind directionOf_eq_some).1 parsed
      obtain ⟨_, _, -, parsed⟩ := field_bind.1 parsed
      obtain ⟨_, -, parsed⟩ := index_bind.1 parsed
      obtain ⟨_, _, -, parsed⟩ := fieldIf_bind.1 parsed
      obtain ⟨_, _, -, parsed⟩ := fieldIf_bind.1 parsed
      obtain ⟨_, -, parsed⟩ := Option.bind_eq_some_iff.1 parsed
      obtain ⟨-, same⟩ := atEnd_eq_some.1 parsed
      cases same
  · rintro rfl
    unfold parseZoneWrite encodeZoneWrite
    refine field_bind.2 ⟨i.val, _, ⟨by omega, rfl⟩, ?_⟩
    refine index_bind.2 ⟨i, rfl, ?_⟩
    refine field_bind.2 ⟨0, [], ⟨by decide, (List.append_nil _).symm⟩, ?_⟩
    rfl

theorem etype_toNat {t : Option Nat} (fits : ∀ v, t = some v → v < 256 ^ 2) :
    (t.map (BitVec.ofNat 16)).map BitVec.toNat = t := by
  cases t with
  | none => rfl
  | some v => exact congrArg some (Nat.mod_eq_of_lt (fits v rfl))

theorem etype_fits (t : Option (BitVec 16)) (v : Nat) (some : t.map BitVec.toNat = some v) : v < 256 ^ 2 := by
  obtain ⟨x, -, rfl⟩ := Option.map_eq_some_iff.1 some
  exact x.isLt

theorem vlan_toNat (n : Option (Fin 4096)) :
    (n.map (fun x => BitVec.ofNat 12 x.val)).map BitVec.toNat = n.map (fun x => x.val) := by
  cases n with
  | none => rfl
  | some x => exact congrArg some (Nat.mod_eq_of_lt x.isLt)

theorem vlan_fits (n : Option (BitVec 12)) (v : Nat) (some : n.map BitVec.toNat = some v) : v < 256 ^ 2 := by
  obtain ⟨x, -, rfl⟩ := Option.map_eq_some_iff.1 some
  exact lt_trans x.isLt (by decide)

theorem parseZoneWrite_some {bs : List Byte} {i : Fin 64} {z : ZoneFields} :
    parseZoneWrite bs = some (i, some z) ↔ bs = encodeZoneWrite i (some z) := by
  constructor
  · intro parsed
    obtain ⟨_, _, ⟨-, e0⟩, parsed⟩ := field_bind.1 parsed
    obtain ⟨j, e1, parsed⟩ := index_bind.1 parsed
    obtain ⟨m, _, ⟨-, e2⟩, parsed⟩ := field_bind.1 parsed
    by_cases clear : m = 0
    · have parsed := (if_pos clear).symm.trans parsed
      obtain ⟨-, same⟩ := atEnd_eq_some.1 parsed
      cases same
    · have parsed := (if_neg clear).symm.trans parsed
      obtain ⟨flags, parsed⟩ := Option.ite_none_left_eq_some.1 parsed
      obtain ⟨v, _, ⟨fv, e3⟩, parsed⟩ := field_bind.1 parsed
      obtain ⟨k, _, ⟨fk, e4⟩, parsed⟩ := field_bind.1 parsed
      obtain ⟨_, _, ⟨-, e5⟩, parsed⟩ := field_bind.1 parsed
      obtain ⟨d, e6, parsed⟩ := (code_bind directionOf_eq_some).1 parsed
      obtain ⟨_, _, ⟨-, e7⟩, parsed⟩ := field_bind.1 parsed
      obtain ⟨zone, e8, parsed⟩ := index_bind.1 parsed
      obtain ⟨t, _, ⟨b1, ft, e9⟩, parsed⟩ := fieldIf_bind.1 parsed
      obtain ⟨n, _, ⟨b2, -, e10⟩, parsed⟩ := fieldIf_bind.1 parsed
      obtain ⟨vlan, e11, parsed⟩ := (optionally_bind ixOf_eq_some).1 parsed
      obtain ⟨e12, same⟩ := atEnd_eq_some.1 parsed
      cases same
      simp only [Bool.or_eq_true, decide_eq_true_eq, Bool.not_eq_true', not_or, Bool.not_eq_false] at flags
      obtain ⟨small, b0⟩ := flags
      have marks : m = presence [true, t.isSome, n.isSome] := by
        rw [← b0, b1, b2]
        exact eq_presence_testBits (n := 3) (Nat.lt_of_not_le small)
      simp only [encodeZoneWrite, addrBytes_ofNat fv, addrBytes_ofNat fk, etype_toNat ft, vlan_toNat, Option.isSome_map, ← e11]
      rw [show vlan.isSome = n.isSome by rw [e11, Option.isSome_map], ← marks]
      simp only [e0, e1, e2, e3, e4, e5, e6, e7, e8, e9, e10, e12, List.append_assoc, List.append_nil]
  · rintro rfl
    obtain ⟨value, mask, etype, vlan, dir, zone⟩ := z
    simp only [parseZoneWrite, encodeZoneWrite, List.append_assoc]
    generalize marks : presence [true, etype.isSome, vlan.isSome] = m
    have small : m < 8 := by rw [← marks]; exact presence_lt _
    have bits : ∀ k, [true, etype.isSome, vlan.isSome].getD k false = m.testBit k := fun k => by
      rw [← marks]; exact (presence_testBit _ k).symm
    have set : m.testBit 0 = true := (bits 0).symm
    have valid : m ≠ 0 := by rintro rfl; cases set
    refine field_bind.2 ⟨i.val, _, ⟨by omega, rfl⟩, ?_⟩
    refine index_bind.2 ⟨i, rfl, ?_⟩
    refine field_bind.2 ⟨m, _, ⟨by omega, rfl⟩, (if_neg valid).trans ?_⟩
    refine Option.ite_none_left_eq_some.2 ⟨by simp [set, small], ?_⟩
    refine field_bind.2 ⟨value.toNat, _, ⟨value.isLt, rfl⟩, ?_⟩
    refine field_bind.2 ⟨mask.toNat, _, ⟨mask.isLt, rfl⟩, ?_⟩
    refine field_bind.2 ⟨_, _, ⟨directionCode_lt dir, rfl⟩, ?_⟩
    refine (code_bind directionOf_eq_some).2 ⟨dir, rfl, ?_⟩
    refine field_bind.2 ⟨zone.val, _, ⟨by omega, rfl⟩, ?_⟩
    refine index_bind.2 ⟨zone, rfl, ?_⟩
    refine fieldIf_bind.2 ⟨etype.map (·.toNat), _, ⟨(Option.isSome_map ..).trans (bits 1), etype_fits etype, rfl⟩, ?_⟩
    refine fieldIf_bind.2 ⟨vlan.map (·.toNat), [], ⟨(Option.isSome_map ..).trans (bits 2), vlan_fits vlan,
      (List.append_nil _).symm⟩, ?_⟩
    refine (optionally_bind ixOf_eq_some).2 ⟨vlan.map BitVec.toFin, by rw [Option.map_map]; rfl, ?_⟩
    refine atEnd_eq_some.2 ⟨rfl, ?_⟩
    simp only [BitVec.ofNat_toNat, BitVec.setWidth_eq, Option.map_map]
    cases etype <;> cases vlan <;> simp

/-! ## Profiles -/

theorem takeGrant_eq_some (bs : List Byte) (x : Fin 16 × Grant) (rest : List Byte) : takeGrant bs = some (x, rest) ↔
    True ∧ bs = (beBytes 1 x.1.val ++ grantBytes x.2) ++ rest := by
  obtain ⟨zone, g⟩ := x
  constructor
  · intro parsed
    obtain ⟨_, _, ⟨-, e0⟩, parsed⟩ := field_bind.1 parsed
    obtain ⟨z, e1, parsed⟩ := index_bind.1 parsed
    obtain ⟨m, _, ⟨-, e2⟩, parsed⟩ := field_bind.1 parsed
    obtain ⟨_, _, ⟨-, e3⟩, parsed⟩ := field_bind.1 parsed
    obtain ⟨c, e4, parsed⟩ := index_bind.1 parsed
    obtain ⟨small, parsed⟩ := Option.ite_none_left_eq_some.1 parsed
    cases parsed
    have marks : m = presence [m.testBit 0, m.testBit 1, m.testBit 2, m.testBit 3] :=
      eq_presence_testBits (n := 4) (Nat.lt_of_not_le small)
    exact ⟨trivial, by simp only [e0, e1, e2, e3, e4, grantBytes, ← marks, List.append_assoc]⟩
  · rintro ⟨-, rfl⟩
    obtain ⟨up, down, policed, counted, c⟩ := g
    simp only [takeGrant, grantBytes, List.append_assoc]
    generalize marks : presence [up, down, policed, counted] = m
    have small : m < 16 := by rw [← marks]; exact presence_lt _
    have bits : ∀ k, m.testBit k = [up, down, policed, counted].getD k false := fun k => by rw [← marks]; exact presence_testBit _ k
    refine field_bind.2 ⟨zone.val, _, ⟨by omega, rfl⟩, ?_⟩
    refine index_bind.2 ⟨zone, rfl, ?_⟩
    refine field_bind.2 ⟨m, _, ⟨by omega, rfl⟩, ?_⟩
    refine field_bind.2 ⟨c.val, _, ⟨by omega, rfl⟩, ?_⟩
    refine index_bind.2 ⟨c, rfl, ?_⟩
    refine Option.ite_none_left_eq_some.2 ⟨Nat.not_le_of_lt small, ?_⟩
    rw [bits 0, bits 1, bits 2, bits 3]
    rfl

/-- What the rates part of a WRITE_PROFILE writes. -/
def ratesBytes (r : Rates) : List Byte := beBytes 2 r.upRate ++ beBytes 4 r.upBurst ++ beBytes 2 r.downRate ++ beBytes 4 r.downBurst

/-- The values that the rates part has room for. -/
def ratesFit (r : Rates) : Prop :=
  r.upRate < 256 ^ 2 ∧ r.upBurst < 256 ^ 4 ∧ r.downRate < 256 ^ 2 ∧ r.downBurst < 256 ^ 4

theorem takeRates_eq_some {bs : List Byte} {r : Rates} {rest : List Byte} :
    takeRates bs = some (r, rest) ↔ ratesFit r ∧ bs = ratesBytes r ++ rest := by
  constructor
  · intro parsed
    obtain ⟨_, _, ⟨f0, e0⟩, parsed⟩ := field_bind.1 parsed
    obtain ⟨_, _, ⟨f1, e1⟩, parsed⟩ := field_bind.1 parsed
    obtain ⟨_, _, ⟨f2, e2⟩, parsed⟩ := field_bind.1 parsed
    obtain ⟨_, _, ⟨f3, e3⟩, parsed⟩ := field_bind.1 parsed
    cases parsed
    exact ⟨⟨f0, f1, f2, f3⟩, by simp only [e0, e1, e2, e3, ratesBytes, List.append_assoc]⟩
  · rintro ⟨⟨f0, f1, f2, f3⟩, rfl⟩
    simp only [takeRates, ratesBytes, List.append_assoc]
    refine field_bind.2 ⟨r.upRate, _, ⟨f0, rfl⟩, ?_⟩
    refine field_bind.2 ⟨r.upBurst, _, ⟨f1, rfl⟩, ?_⟩
    refine field_bind.2 ⟨r.downRate, _, ⟨f2, rfl⟩, ?_⟩
    exact field_bind.2 ⟨r.downBurst, _, ⟨f3, rfl⟩, rfl⟩

/-- A part that is read where its mark is set. -/
theorem takePart_eq_some {α : Type} {f : List Byte → Option (α × List Byte)} {P : α → Prop} {enc : α → List Byte}
    (hf : ∀ {bs x rest}, f bs = some (x, rest) ↔ P x ∧ bs = enc x ++ rest) {b : Bool} {bs rest : List Byte} {o : Option α} :
    (if b = true then (f bs).map (fun x => (some x.1, x.2)) else some (none, bs)) = some (o, rest) ↔
      o.isSome = b ∧ (∀ x, o = some x → P x) ∧ bs = (o.map enc).getD [] ++ rest := by
  cases b with
  | false => cases o <;> simp
  | true =>
    cases o with
    | none => simp
    | some x => simp [Option.map_eq_some_iff, hf]

theorem ProfileWrite.few_of_valid {w : ProfileWrite} (h : w.valid = true) : w.grants.length ≤ 16 := by
  have once := ProfileWrite.nodup_of_valid h
  have few := once.length_le_card
  rwa [List.length_map, Fintype.card_fin] at few

theorem encodeProfileWrite_eq (w : ProfileWrite) : encodeProfileWrite w =
    beBytes 1 w.profile.val ++ beBytes 1 (presence [w.rates.isSome, !w.grants.isEmpty]) ++ (w.rates.map ratesBytes).getD []
      ++ (if w.grants.isEmpty then []
        else beBytes 1 w.grants.length ++ w.grants.flatMap (fun x => beBytes 1 x.1.val ++ grantBytes x.2)) := by
  obtain ⟨profile, rates, grants⟩ := w
  cases rates <;> rfl

theorem parseProfileWrite_eq_some {bs : List Byte} {w : ProfileWrite} : parseProfileWrite bs = some w ↔
    w.valid = true ∧ (∀ r, w.rates = some r → ratesFit r) ∧ bs = encodeProfileWrite w := by
  constructor
  · intro parsed
    obtain ⟨_, _, ⟨-, e0⟩, parsed⟩ := field_bind.1 parsed
    obtain ⟨profile, e1, parsed⟩ := index_bind.1 parsed
    obtain ⟨m, _, ⟨-, e2⟩, parsed⟩ := field_bind.1 parsed
    obtain ⟨small, parsed⟩ := Option.ite_none_left_eq_some.1 parsed
    obtain ⟨⟨r, _⟩, part, parsed⟩ := bind_of_ite.1 parsed
    obtain ⟨b0, fits, e3⟩ := (takePart_eq_some takeRates_eq_some).1 part
    obtain ⟨⟨grants, _⟩, counted, parsed⟩ := bind_of_ite.1 parsed
    obtain ⟨b1, -, -, e4⟩ := (takeMarked_eq_some takeGrant_eq_some (by decide)).1 counted
    obtain ⟨e5, parsed⟩ := end_bind.1 parsed
    obtain ⟨valid, same⟩ := Option.ite_none_right_eq_some.1 parsed
    cases same
    have marks : m = presence [r.isSome, !grants.isEmpty] := by
      rw [b0, b1]
      exact eq_presence_testBits (n := 2) (Nat.lt_of_not_le small)
    refine ⟨valid, fits, ?_⟩
    simp only [e0, e1, e2, e3, e4, e5, encodeProfileWrite_eq, ← marks, List.append_assoc, List.append_nil]
  · rintro ⟨valid, fits, rfl⟩
    have few := ProfileWrite.few_of_valid valid
    obtain ⟨profile, r, grants⟩ := w
    simp only [encodeProfileWrite_eq, List.append_assoc, parseProfileWrite]
    generalize marks : presence [r.isSome, !grants.isEmpty] = m
    have small : m < 4 := by rw [← marks]; exact presence_lt _
    have bits : ∀ k, [r.isSome, !grants.isEmpty].getD k false = m.testBit k := fun k => by
      rw [← marks]; exact (presence_testBit _ k).symm
    refine field_bind.2 ⟨profile.val, _, ⟨by omega, rfl⟩, ?_⟩
    refine index_bind.2 ⟨profile, rfl, ?_⟩
    refine field_bind.2 ⟨m, _, ⟨by omega, rfl⟩, ?_⟩
    refine Option.ite_none_left_eq_some.2 ⟨Nat.not_le_of_lt small, ?_⟩
    refine bind_of_ite.2 ⟨(r, _), (takePart_eq_some takeRates_eq_some).2 ⟨bits 0, fits, rfl⟩, ?_⟩
    refine bind_of_ite.2 ⟨(grants, []), (takeMarked_eq_some takeGrant_eq_some (by decide)).2
      ⟨bits 1, few, fun _ _ => trivial, (List.append_nil _).symm⟩, ?_⟩
    exact end_bind.2 ⟨rfl, if_pos valid⟩

end Sys2Proof

/-! # The parameters of queues, counters and notices -/

namespace Sys2Proof

/-! ## Queues -/

/-- What the name of a queue writes: its port and its kind. -/
def queueBytes (x : Port × QueueKind) : List Byte := beBytes 1 x.1.val ++ beBytes 1 (queueKindCode x.2)

theorem takeQueue_eq_some {bs : List Byte} {x : Port × QueueKind} {rest : List Byte} :
    takeQueue bs = some (x, rest) ↔ True ∧ bs = queueBytes x ++ rest := by
  obtain ⟨p, k⟩ := x
  constructor
  · intro parsed
    obtain ⟨_, _, ⟨-, e0⟩, parsed⟩ := field_bind.1 parsed
    obtain ⟨port, e1, parsed⟩ := index_bind.1 parsed
    obtain ⟨_, _, ⟨-, e2⟩, parsed⟩ := field_bind.1 parsed
    obtain ⟨kind, e3, parsed⟩ := (code_bind queueKindOf_eq_some).1 parsed
    cases parsed
    exact ⟨trivial, by simp only [e0, e1, e2, e3, queueBytes, List.append_assoc]⟩
  · rintro ⟨-, rfl⟩
    simp only [takeQueue, queueBytes, List.append_assoc]
    refine field_bind.2 ⟨p.val, _, ⟨by omega, rfl⟩, ?_⟩
    refine index_bind.2 ⟨p, rfl, ?_⟩
    refine field_bind.2 ⟨_, _, ⟨queueKindCode_lt k, rfl⟩, ?_⟩
    exact (code_bind queueKindOf_eq_some).2 ⟨k, rfl, rfl⟩

theorem encodeQueueWrite_eq (w : QueueWrite) : encodeQueueWrite w =
    beBytes 1 (presence [w.limit.isSome, w.quantum.isSome, w.reserve.isSome]) ++ (w.queue.map queueBytes).getD []
      ++ ifPresent 2 w.limit ++ ifPresent 2 w.quantum ++ ifPresent 2 w.reserve := by
  obtain ⟨queue, limit, quantum, reserve⟩ := w
  cases queue with
  | none => rfl
  | some x => rfl

theorem QueueWrite.queue_of_valid {w : QueueWrite} (h : w.valid = true) : w.queue.isSome = (w.limit.isSome || w.quantum.isSome) := by
  unfold QueueWrite.valid at h
  simp only [Bool.and_eq_true, beq_iff_eq] at h
  exact h.1.2

theorem parseQueueWrite_eq_some {bs : List Byte} {w : QueueWrite} : parseQueueWrite bs = some w ↔
    w.valid = true ∧ (∀ o ∈ [w.limit, w.quantum, w.reserve], ∀ v, o = some v → v < 256 ^ 2) ∧ bs = encodeQueueWrite w := by
  constructor
  · intro parsed
    obtain ⟨m, _, ⟨-, e0⟩, parsed⟩ := field_bind.1 parsed
    obtain ⟨small, parsed⟩ := Option.ite_none_left_eq_some.1 parsed
    obtain ⟨⟨q, _⟩, part, parsed⟩ := bind_of_ite.1 parsed
    obtain ⟨-, -, e1⟩ := (takePart_eq_some takeQueue_eq_some).1 part
    obtain ⟨l, _, ⟨b0, f0, e2⟩, parsed⟩ := fieldIf_bind.1 parsed
    obtain ⟨n, _, ⟨b1, f1, e3⟩, parsed⟩ := fieldIf_bind.1 parsed
    obtain ⟨r, _, ⟨b2, f2, e4⟩, parsed⟩ := fieldIf_bind.1 parsed
    obtain ⟨e5, parsed⟩ := end_bind.1 parsed
    obtain ⟨valid, same⟩ := Option.ite_none_right_eq_some.1 parsed
    cases same
    have marks : m = presence [l.isSome, n.isSome, r.isSome] := by
      rw [b0, b1, b2]
      exact eq_presence_testBits (n := 3) (Nat.lt_of_not_le small)
    refine ⟨valid, by simpa using ⟨f0, f1, f2⟩, ?_⟩
    simp only [e0, e1, e2, e3, e4, e5, encodeQueueWrite_eq, ← marks, List.append_assoc, List.append_nil]
  · rintro ⟨valid, fits, rfl⟩
    have named := QueueWrite.queue_of_valid valid
    obtain ⟨q, l, n, r⟩ := w
    simp only [List.forall_mem_cons, List.not_mem_nil, false_implies, implies_true, and_true] at fits
    obtain ⟨f0, f1, f2⟩ := fits
    simp only [encodeQueueWrite_eq, List.append_assoc, parseQueueWrite]
    generalize marks : presence [l.isSome, n.isSome, r.isSome] = m
    have small : m < 8 := by rw [← marks]; exact presence_lt _
    have bits : ∀ k, [l.isSome, n.isSome, r.isSome].getD k false = m.testBit k := fun k => by
      rw [← marks]; exact (presence_testBit _ k).symm
    have b0 : l.isSome = m.testBit 0 := bits 0
    have b1 : n.isSome = m.testBit 1 := bits 1
    refine field_bind.2 ⟨m, _, ⟨by omega, rfl⟩, ?_⟩
    refine Option.ite_none_left_eq_some.2 ⟨Nat.not_le_of_lt small, ?_⟩
    refine bind_of_ite.2 ⟨(q, _), (takePart_eq_some takeQueue_eq_some).2 ⟨?_, fun _ _ => trivial, rfl⟩, ?_⟩
    · rw [← b0, ← b1]
      exact named
    refine fieldIf_bind.2 ⟨l, _, ⟨b0, f0, rfl⟩, ?_⟩
    refine fieldIf_bind.2 ⟨n, _, ⟨b1, f1, rfl⟩, ?_⟩
    refine fieldIf_bind.2 ⟨r, [], ⟨bits 2, f2, (List.append_nil _).symm⟩, ?_⟩
    exact end_bind.2 ⟨rfl, if_pos valid⟩

/-! ## Counter groups -/

/-- The bytes that name a counter group behind its number and the clear flag. -/
def groupBytes : CounterGroup → List Byte
  | .port p => encodeIndex p.val
  | .queue p k => queueBytes (p, k)
  | .station r => encodeRef r
  | .global => []

/-- The number of a counter group (08 R143). -/
def groupCode : CounterGroup → Nat
  | .port _ => 1
  | .queue _ _ => 2
  | .station _ => 3
  | .global => 4

/-- What a counter group may name. -/
def groupValid : CounterGroup → Prop
  | .port _ => True
  | .queue p k => queueExists p k = true
  | .station r => isGroup r.addr = false
  | .global => True

theorem groupCode_lt (g : CounterGroup) : groupCode g < 256 ^ 1 := by cases g <;> simp [groupCode]

theorem parseGroup_eq_some {n : Nat} {bs : List Byte} {g : CounterGroup} :
    parseGroup n bs = some g ↔ n = groupCode g ∧ groupValid g ∧ bs = groupBytes g := by
  have queue : ∀ x : Port × QueueKind, (takeQueue bs >>= atEnd) = some x ↔ bs = queueBytes x := fun x => by
    simp only [Option.bind_eq_bind, Option.bind_eq_some_iff, Prod.exists, takeQueue_eq_some, atEnd_eq_some]
    constructor
    · rintro ⟨a, b, rest, ⟨-, rfl⟩, rfl, rfl⟩
      exact List.append_nil _
    · rintro rfl
      exact ⟨x.1, x.2, [], ⟨trivial, (List.append_nil _).symm⟩, rfl, rfl⟩
  constructor
  · intro parsed
    unfold parseGroup at parsed
    split at parsed
    · obtain ⟨p, index, rfl⟩ := Option.map_eq_some_iff.1 parsed
      exact ⟨rfl, trivial, (parseIndex_eq_some (by decide)).1 index⟩
    · obtain ⟨⟨p, k⟩, named, parsed⟩ := Option.bind_eq_some_iff.1 parsed
      obtain ⟨has, same⟩ := Option.ite_none_right_eq_some.1 parsed
      cases same
      exact ⟨rfl, has, (queue _).1 named⟩
    · obtain ⟨r, ref, rfl⟩ := Option.map_eq_some_iff.1 parsed
      obtain ⟨single, bytes⟩ := parseRef_eq_some.1 ref
      exact ⟨rfl, single, bytes⟩
    · obtain ⟨_, none, rfl⟩ := Option.map_eq_some_iff.1 parsed
      exact ⟨rfl, trivial, (Option.ite_none_right_eq_some.1 none).1⟩
    · cases parsed
  · rintro ⟨rfl, valid, rfl⟩
    cases g with
    | port p => exact Option.map_eq_some_iff.2 ⟨p, (parseIndex_eq_some (by decide)).2 rfl, rfl⟩
    | queue p k => exact Option.bind_eq_some_iff.2 ⟨(p, k), (queue _).2 rfl, if_pos valid⟩
    | station r => exact Option.map_eq_some_iff.2 ⟨r, parseRef_eq_some.2 ⟨valid, rfl⟩, rfl⟩
    | global => rfl

theorem encodeCounters_eq (g : CounterGroup) (c : Bool) :
    encodeCounters g c = beBytes 1 (groupCode g) ++ (beBytes 1 (onOffCode c) ++ groupBytes g) := by
  cases g <;> simp [encodeCounters, groupCode, groupBytes, queueBytes, encodeIndex]

theorem parseCounters_eq_some {bs : List Byte} {g : CounterGroup} {c : Bool} :
    parseCounters bs = some (g, c) ↔ groupValid g ∧ bs = encodeCounters g c := by
  rw [encodeCounters_eq]
  constructor
  · intro parsed
    obtain ⟨_, _, ⟨-, e0⟩, parsed⟩ := field_bind.1 parsed
    obtain ⟨_, _, ⟨-, e1⟩, parsed⟩ := field_bind.1 parsed
    obtain ⟨clear, e2, parsed⟩ := (code_bind onOff_eq_some).1 parsed
    obtain ⟨group, named, parsed⟩ := Option.bind_eq_some_iff.1 parsed
    cases parsed
    obtain ⟨e3, valid, e4⟩ := parseGroup_eq_some.1 named
    exact ⟨valid, by rw [e0, e1, e2, e3, e4]⟩
  · rintro ⟨valid, rfl⟩
    unfold parseCounters
    refine field_bind.2 ⟨groupCode g, _, ⟨groupCode_lt g, rfl⟩, ?_⟩
    refine field_bind.2 ⟨_, _, ⟨onOffCode_lt c, rfl⟩, ?_⟩
    refine (code_bind onOff_eq_some).2 ⟨c, rfl, ?_⟩
    exact Option.bind_eq_some_iff.2 ⟨g, parseGroup_eq_some.2 ⟨rfl, valid, rfl⟩, rfl⟩

/-! ## Notices -/

theorem takeEnable_eq_some (bs : List Byte) (x : Source × Bool) (rest : List Byte) : takeEnable bs = some (x, rest) ↔
    True ∧ bs = (beBytes 1 (sourceIx x.1).val ++ beBytes 1 (onOffCode x.2)) ++ rest := by
  obtain ⟨src, on⟩ := x
  constructor
  · intro parsed
    obtain ⟨_, _, ⟨-, e0⟩, parsed⟩ := field_bind.1 parsed
    obtain ⟨y, e1, parsed⟩ := (code_bind sourceOf_eq_some).1 parsed
    obtain ⟨_, _, ⟨-, e2⟩, parsed⟩ := field_bind.1 parsed
    obtain ⟨b, e3, parsed⟩ := (code_bind onOff_eq_some).1 parsed
    cases parsed
    exact ⟨trivial, by simp only [e0, e1, e2, e3, List.append_assoc]⟩
  · rintro ⟨-, rfl⟩
    simp only [takeEnable, List.append_assoc]
    refine field_bind.2 ⟨(sourceIx src).val, _, ⟨by omega, rfl⟩, ?_⟩
    refine (code_bind sourceOf_eq_some).2 ⟨src, rfl, ?_⟩
    refine field_bind.2 ⟨_, _, ⟨onOffCode_lt on, rfl⟩, ?_⟩
    exact (code_bind onOff_eq_some).2 ⟨on, rfl, rfl⟩

theorem length_le_of_nodup_sources {l : List Source} (once : l.Nodup) : l.length ≤ 9 := by
  have few := (once.map sourceIx_injective).length_le_card
  rwa [List.length_map, Fintype.card_fin] at few

theorem NoticeWrite.few_of_valid {w : NoticeWrite} (h : w.valid = true) : w.enables.length ≤ 9 := by
  have few := length_le_of_nodup_sources (NoticeWrite.nodup_of_valid h)
  rwa [List.length_map] at few

theorem dest_toNat {o : Option Nat} (fits : ∀ v, o = some v → v < 256 ^ 6) : (o.map (BitVec.ofNat 48)).map BitVec.toNat = o := by
  cases o with
  | none => rfl
  | some v => exact congrArg some (Nat.mod_eq_of_lt (lt_of_lt_of_eq (fits v rfl) (by norm_num)))

theorem dest_fits (a : Option Addr) (v : Nat) (some : a.map BitVec.toNat = some v) : v < 256 ^ 6 := by
  obtain ⟨x, -, rfl⟩ := Option.map_eq_some_iff.1 some
  exact lt_of_lt_of_eq x.isLt (by norm_num)

theorem parseNoticeWrite_eq_some {bs : List Byte} {w : NoticeWrite} :
    parseNoticeWrite bs = some w ↔ w.valid = true ∧ bs = encodeNoticeWrite w := by
  constructor
  · intro parsed
    obtain ⟨m, _, ⟨-, e0⟩, parsed⟩ := field_bind.1 parsed
    obtain ⟨small, parsed⟩ := Option.ite_none_left_eq_some.1 parsed
    obtain ⟨d, _, ⟨b0, f0, e1⟩, parsed⟩ := fieldIf_bind.1 parsed
    obtain ⟨_, _, ⟨b1, -, e2⟩, parsed⟩ := fieldIf_bind.1 parsed
    obtain ⟨mode, e3, parsed⟩ := (optionally_bind modeOf_eq_some).1 parsed
    obtain ⟨⟨enables, _⟩, counted, parsed⟩ := bind_of_ite.1 parsed
    obtain ⟨b2, -, -, e4⟩ := (takeMarked_eq_some takeEnable_eq_some (by decide)).1 counted
    obtain ⟨e5, parsed⟩ := end_bind.1 parsed
    obtain ⟨valid, same⟩ := Option.ite_none_right_eq_some.1 parsed
    cases same
    have marks : m = presence [d.isSome, mode.isSome, !enables.isEmpty] := by
      rw [← Option.isSome_map (f := modeCode) (x := mode), ← e3, b0, b1, b2]
      exact eq_presence_testBits (n := 3) (Nat.lt_of_not_le small)
    refine ⟨valid, ?_⟩
    simp only [e0, e1, e2, e3, e4, e5, encodeNoticeWrite, dest_toNat f0, Option.isSome_map, ← marks, List.append_assoc, List.append_nil]
  · rintro ⟨valid, rfl⟩
    have few := NoticeWrite.few_of_valid valid
    obtain ⟨d, mode, enables⟩ := w
    simp only [encodeNoticeWrite, List.append_assoc, parseNoticeWrite]
    generalize marks : presence [d.isSome, mode.isSome, !enables.isEmpty] = m
    have small : m < 8 := by rw [← marks]; exact presence_lt _
    have bits : ∀ k, [d.isSome, mode.isSome, !enables.isEmpty].getD k false = m.testBit k := fun k => by
      rw [← marks]; exact (presence_testBit _ k).symm
    have codes : ∀ v, mode.map modeCode = some v → v < 256 ^ 1 := fun v coded => by
      obtain ⟨x, -, rfl⟩ := Option.map_eq_some_iff.1 coded
      exact modeCode_lt x
    refine field_bind.2 ⟨m, _, ⟨by omega, rfl⟩, ?_⟩
    refine Option.ite_none_left_eq_some.2 ⟨Nat.not_le_of_lt small, ?_⟩
    refine fieldIf_bind.2 ⟨d.map BitVec.toNat, _, ⟨(Option.isSome_map ..).trans (bits 0), dest_fits d, rfl⟩, ?_⟩
    refine fieldIf_bind.2 ⟨mode.map modeCode, _, ⟨(Option.isSome_map ..).trans (bits 1), codes, rfl⟩, ?_⟩
    refine (optionally_bind modeOf_eq_some).2 ⟨mode, rfl, ?_⟩
    refine bind_of_ite.2 ⟨(enables, []), (takeMarked_eq_some takeEnable_eq_some (by decide)).2
      ⟨bits 2, few, fun _ _ => trivial, (List.append_nil _).symm⟩, ?_⟩
    have same : (d.map BitVec.toNat).map (BitVec.ofNat 48) = d := by cases d <;> simp
    refine end_bind.2 ⟨rfl, ?_⟩
    rw [same]
    exact if_pos valid

/-- RETIRE_NOTICES as its encoder writes it (11 R172). -/
theorem parseRetire_encodeRetire {bs : List Byte} {l : List Source} :
    parseRetire bs = some l ↔ l ≠ [] ∧ l.Nodup ∧ bs = encodeRetire l := by
  have bytes : encodeRetire l = BitVec.ofNat 8 l.length :: l.map sourceByte := by
    unfold encodeRetire
    rw [List.map_eq_flatMap]
    rfl
  rw [parseRetire_eq_some, bytes, Nat.one_le_iff_ne_zero, Ne, List.length_eq_zero_iff]
  exact ⟨fun ⟨filled, _, once, same⟩ => ⟨filled, once, same⟩, fun ⟨filled, once, same⟩ => ⟨filled, length_le_of_nodup_sources once, once, same⟩⟩

end Sys2Proof

section

open Sys2Proof Sys2Proof.Machine

/-- Settles O60: every parser reads exactly what its encoder writes. -/
theorem parametersReadBack : Obligations.ParametersReadBack := by
  have byte16 : (2 : Nat) ^ 16 = 256 ^ 2 := by norm_num
  have byte32 : (2 : Nat) ^ 32 = 256 ^ 4 := by norm_num
  have byte8 : (2 : Nat) ^ 8 = 256 ^ 1 := by norm_num
  unfold Obligations.ParametersReadBack
  rw [byte16, byte32, byte8]
  refine ⟨fun r single => ?_, fun b => parseSetLine_eq_some.2 rfl, fun w valid fits => parseTiming_eq_some.2 ⟨valid, fits, rfl⟩,
    fun i o => ?_, fun i => (parseIndex_eq_some (by decide)).2 rfl, fun i => (parseIndex_eq_some (by decide)).2 rfl,
    fun p => (parseIndex_eq_some (by decide)).2 rfl, fun w valid fits => parseProfileWrite_eq_some.2 ⟨valid, fits, rfl⟩,
    fun a single => parseFindStation_eq_some.2 ⟨single, rfl⟩, fun n low high => parseTakeReports_eq_some.2 ⟨low, high, rfl⟩,
    fun w valid seat limits => parsePortWrite_eq_some.2 ⟨valid, seat, limits, rfl⟩,
    fun w valid fits => parseQueueWrite_eq_some.2 ⟨valid, fits, rfl⟩, fun p c => parseCounters_eq_some.2 ⟨trivial, rfl⟩,
    fun p k c has => parseCounters_eq_some.2 ⟨has, rfl⟩, fun c => parseCounters_eq_some.2 ⟨trivial, rfl⟩,
    fun w valid => parseNoticeWrite_eq_some.2 ⟨valid, rfl⟩, fun l some once => parseRetire_encodeRetire.2 ⟨some, once, rfl⟩⟩
  · have addr : isGroup r.addr = false := by cases r <;> exact single
    refine ⟨parseRef_eq_some.2 ⟨addr, rfl⟩, fun n v fits => parseAdmit_eq_some.2 ⟨addr, fits, rfl⟩, fun v fits => ⟨?_, fun some => ?_⟩,
      fun c => parseCounters_eq_some.2 ⟨addr, rfl⟩⟩
    · exact parseRefValue_eq_some.2 ⟨addr, fits, rfl⟩
    · exact parseTopUp_eq_some.2 ⟨parseRefValue_eq_some.2 ⟨addr, fits, rfl⟩, Nat.pos_of_ne_zero some⟩
  · cases o with
    | none => exact parseZoneWrite_none.2 rfl
    | some z => exact parseZoneWrite_some.2 rfl

end

/-! # What the parsers take, in the layouts of the request kinds -/

namespace Sys2Proof

/-! ## Conditions -/

theorem presence_eq_sum (l : List Bool) : presence l = (l.zipIdx.map (fun x => if x.1 then 2 ^ x.2 else 0)).sum := by
  have shifted : ∀ (l : List Bool) (k : Nat), 2 ^ k * presence l = ((l.zipIdx k).map (fun x => if x.1 then 2 ^ x.2 else 0)).sum := by
    intro l
    induction l with
    | nil => exact fun k => Nat.mul_zero _
    | cons b l ih =>
      intro k
      rw [List.zipIdx_cons, List.map_cons, List.sum_cons, ← ih (k + 1), presence, Nat.mul_add, Nat.pow_succ, Nat.mul_assoc]
      cases b <;> simp [onOffCode]
  simpa using shifted l 0

/-- The queue kinds of a port, as the layouts name them (06 R110). -/
def kindAt (p : Port) (k : QueueKind) : Prop :=
  match k with
  | .priority | .normal => 2 ≤ p.val ∧ p.val < 10
  | .seat => 10 ≤ p.val
  | _ => p.val < 2

theorem queueExists_iff {p : Port} {k : QueueKind} : queueExists p k = true ↔ kindAt p k := by
  cases k <;> simp only [queueExists, kindAt, decide_eq_true_eq]

theorem TimingFields.valid_iff {w : TimingFields} : w.valid = true ↔
    (∃ o ∈ [w.divisor, w.holdOff, w.rehomeLimit, w.learnedLimit, w.admittedLimit, w.flapLimit, w.spacing], o ≠ none) ∧
    ∀ d, w.divisor = some d → d ∈ [2, 5, 8, 25, 40, 125, 250, 500] := by
  obtain ⟨d, h, r, l, a, f, n⟩ := w
  cases d <;> simp [TimingFields.valid, Option.isSome_iff_ne_none, Config.divisors, or_assoc]

theorem ProfileWrite.valid_iff {w : ProfileWrite} : w.valid = true ↔
    (w.rates ≠ none ∨ w.grants ≠ []) ∧ (w.grants.map (·.1)).Nodup := by
  simp [ProfileWrite.valid, noRepeat, Option.isSome_iff_ne_none]

theorem PortWrite.valid_iff {w : PortWrite} : w.valid = true ↔
    (w.enable ≠ none ∨ w.hold ≠ none ∨ w.flood ≠ none ∨ w.seatLimit ≠ none ∨ w.limits ≠ []) ∧
    (w.port.val < 2 → w.enable = none ∧ w.hold = none ∧ w.flood = none) ∧ (w.port.val < 10 → w.seatLimit = none) ∧
    (∀ x ∈ w.limits, kindAt w.port x.1) ∧ (w.limits.map (·.1)).Nodup := by
  simp only [PortWrite.valid, noRepeat, Bool.and_eq_true, Bool.or_eq_true, decide_eq_true_eq, List.all_eq_true, queueExists_iff,
    Option.isSome_iff_ne_none, Option.isNone_iff_eq_none, Bool.not_eq_true', List.isEmpty_eq_false_iff, or_assoc, and_assoc]
  constructor
  · rintro ⟨part, backbone, radio, exist, once⟩
    exact ⟨part, fun low => (backbone.resolve_left (by omega)).imp_right fun h => ⟨h.1, h.2.1⟩, fun low => radio.resolve_left (by omega),
      exist, once⟩
  · rintro ⟨part, backbone, radio, exist, once⟩
    refine ⟨part, ?_, ?_, exist, once⟩
    · rcases Nat.lt_or_ge w.port.val 2 with low | high
      · obtain ⟨enable, hold, flood⟩ := backbone low
        exact .inr ⟨enable, hold, flood, radio (by omega)⟩
      · exact .inl high
    · rcases Nat.lt_or_ge w.port.val 10 with low | high
      · exact .inr (radio low)
      · exact .inl high

theorem hasQuantum_iff {k : QueueKind} : hasQuantum k = true ↔ k ∈ [QueueKind.through, .class1, .class2, .class3] := by
  cases k <;> decide

theorem QueueWrite.valid_iff {w : QueueWrite} : w.valid = true ↔
    (w.limit ≠ none ∨ w.quantum ≠ none ∨ w.reserve ≠ none) ∧ (w.queue ≠ none ↔ w.limit ≠ none ∨ w.quantum ≠ none) ∧
    ∀ p k, w.queue = some (p, k) → kindAt p k ∧ (w.quantum ≠ none → k ∈ [QueueKind.through, .class1, .class2, .class3]) := by
  obtain ⟨q, l, n, r⟩ := w
  have named : (q.isSome == (l.isSome || n.isSome)) = true ↔ (q ≠ none ↔ l ≠ none ∨ n ≠ none) := by
    rw [beq_iff_eq, Bool.eq_iff_iff, Bool.or_eq_true, Option.isSome_iff_ne_none, Option.isSome_iff_ne_none, Option.isSome_iff_ne_none]
  unfold QueueWrite.valid
  simp only [Bool.and_eq_true, Bool.or_eq_true, named, Option.isSome_iff_ne_none, or_assoc, and_assoc]
  refine and_congr_right fun _ => and_congr_right fun _ => ?_
  cases q with
  | none => simp
  | some x =>
    obtain ⟨p, k⟩ := x
    simp only [Bool.and_eq_true, Bool.or_eq_true, queueExists_iff, hasQuantum_iff, Option.isNone_iff_eq_none, Option.some.injEq,
      Prod.mk.injEq]
    constructor
    · rintro ⟨has, quantum⟩ p' k' ⟨rfl, rfl⟩
      exact ⟨has, fun set => quantum.resolve_left set⟩
    · intro each
      obtain ⟨has, quantum⟩ := each p k ⟨rfl, rfl⟩
      exact ⟨has, Classical.or_iff_not_imp_left.2 quantum⟩

theorem NoticeWrite.valid_iff {w : NoticeWrite} : w.valid = true ↔
    (w.dest ≠ none ∨ w.mode ≠ none ∨ w.enables ≠ []) ∧ (∀ a, w.dest = some a → isGroup a = false) ∧ (w.enables.map (·.1)).Nodup := by
  obtain ⟨d, m, e⟩ := w
  cases d <;> simp [NoticeWrite.valid, noRepeat, Option.isSome_iff_ne_none]

end Sys2Proof

namespace Sys2Proof.Machine

open Sys2Proof

/-! ## The end of an item -/

section

variable {s : State} {f : ExecFrame} {it : RawItem} (exec : s.mgmt.exec = some f) (item : f.items[f.pointer]? = some it) (st : Status)
  (data : List Byte)

include exec item

theorem finishItem_next (more : f.pointer + 1 < f.items.length) (unarmed : s.mgmt.restart ≠ .armed) : finishItem st data s =
    { s with mgmt := { s.mgmt with exec := some { f with
      pointer := f.pointer + 1, answers := f.answers ++ [{ code := it.code, status := st, data := data }], phase := .ready } } } := by
  have rest : (f.items.drop (f.pointer + 1)).isEmpty = false := by
    rw [List.isEmpty_eq_false_iff, Ne, List.drop_eq_nil_iff]
    omega
  simp only [finishItem, exec, item, rest, decide_eq_false unarmed, Bool.or_self, Bool.false_eq_true, if_false, State.modMgmt]

/-- The last item is answered: those behind it, if a RESTART ends the frame, are not run (10 R164, R167). -/
theorem finishItem_last (last : f.items.length ≤ f.pointer + 1 ∨ s.mgmt.restart = .armed) :
    let all := f.answers ++ [{ code := it.code, status := st, data := data }] ++ notRunAnswers (f.items.drop (f.pointer + 1))
    finishItem st data s = { s with mgmt := { s.mgmt with exec := some { f with
      pointer := f.items.length, answers := all, phase := .response (buildResponse s.line f.frame false all) } } } := by
  have ends : ((f.items.drop (f.pointer + 1)).isEmpty || decide (s.mgmt.restart = .armed)) = true := by
    rw [Bool.or_eq_true, List.isEmpty_iff, List.drop_eq_nil_iff, decide_eq_true_eq]
    exact last
  simp only [finishItem, exec, item, ends, if_true, State.modMgmt]

end

/-! ## Commands that are not the item's -/

theorem runItem_of_other {α : Type} {is : RawItem → Bool} {parse : List Byte → Option α} {eff : α → State → ItemEffect} {s : State}
    (other : ∀ it, currentItem s = some it → is it = false) : runItem is parse eff s = s := by
  unfold runItem
  cases item : currentItem s with
  | none => rfl
  | some it => simp only [other it item, Bool.false_eq_true, if_false]

theorem hasCode_of_ne {c : Nat} {it : RawItem} (other : it.code.toNat ≠ c) : hasCode c it = false := decide_eq_false other

/-- An item of an unknown code is refused (10 R158). -/
theorem exec_unknownItemCode {s : State} {ps : List Byte} {n : Nat} (byte : n < 256) (unknown : n = 0 ∨ 0x1A < n) (item : ItemIs s n ps) :
    exec .unknownItemCode s = .next (finishItem .badItem [] s) := by
  refine congrArg Host.Outcome.next (runItem_of_malformed item ?_ rfl)
  have code : (BitVec.ofNat 8 n).toNat = n := by rw [BitVec.toNat_ofNat, Nat.mod_eq_of_lt byte]
  simp only [knownCode, code, Bool.not_eq_true', decide_eq_false_iff_not]
  omega

/-- An item whose code is `c`, with parameters that its kind does not take, is refused (10 R160). -/
theorem refused_of_malformed {α : Type} {parse : List Byte → Option α} {s : State} {c : Nat} {ps : List Byte}
    (code : c < 256) (malformed : parse ps = none) (eff : α → State → ItemEffect) (item : ItemIs s c ps) :
    Host.Outcome.next (φ := Fault) (ρ := Refusal) (runItem (hasCode c) parse eff s) = .next (finishItem .badItem [] s) :=
  congrArg Host.Outcome.next (runItem_of_malformed item (hasCode_ofNat code _) malformed)

end Sys2Proof.Machine

/-! # The end of an item and its parameters -/

namespace Sys2Proof.Machine

open Sys2Proof

/-- The first clause of O37: where an answer leaves the item pointer and the phase. -/
theorem finishItem_cases (s : State) (f : ExecFrame) (it : RawItem) (st : Status) (data : List Byte) (exec : s.mgmt.exec = some f)
    (item : f.items[f.pointer]? = some it) :
    let own := f.answers ++ [{ code := it.code, status := st, data := data }]
    let all := own ++ (f.items.drop (f.pointer + 1)).map (fun x => { code := x.code, status := .notRun, data := [] })
    let after := fun g : ExecFrame => { s with mgmt := { s.mgmt with exec := some g } }
    (f.pointer + 1 < f.items.length → s.mgmt.restart ≠ .armed → finishItem st data s
      = after { f with pointer := f.pointer + 1, answers := own, phase := .ready }) ∧
    (f.pointer + 1 = f.items.length → finishItem st data s = after { f with
      pointer := f.items.length, answers := own, phase := .response (buildResponse s.line f.frame false own) }) ∧
    (s.mgmt.restart = .armed → finishItem st data s = after { f with
      pointer := f.items.length, answers := all, phase := .response (buildResponse s.line f.frame false all) }) := by
  intro own all after
  refine ⟨finishItem_next exec item st data, fun last => ?_, fun armed => finishItem_last exec item st data (.inr armed)⟩
  have none : notRunAnswers (f.items.drop (f.pointer + 1)) = [] := by
    rw [List.drop_eq_nil_of_le last.ge]
    rfl
  have ended := finishItem_last exec item st data (.inl last.ge)
  simp only [none, List.append_nil] at ended
  exact ended

end Sys2Proof.Machine

section

open Sys2Proof Sys2Proof.Machine

/-- Settles O37: the end of an item, the refusals, the commands of other items, and each layout by its encoder. -/
theorem itemFinished : Obligations.ItemFinished := by
  refine ⟨finishItem_cases, fun s ps => ?_, fun s => ⟨?_, fun known => ?_, fun bare => ?_, fun carries => ?_⟩, fun ps => ?_⟩
  · intro bad
    have small : ∀ {c}, c ≤ 0x1A → c < 256 := fun h => by omega
    refine ⟨fun n byte unknown item => exec_unknownItemCode byte unknown item, fun some => ?_, ?_, ?_, ?_, ?_, ?_, ?_, ?_, fun none => ?_,
      fun long none item => ?_, fun short none item => ?_, ?_, ?_, ?_, ?_, ?_, ?_, ?_, ?_, ?_⟩
    · have none : parseNone ps = none := if_neg some
      exact ⟨refused_of_malformed (by decide) none _, refused_of_malformed (by decide) none _, refused_of_malformed (by decide) none _,
        refused_of_malformed (by decide) none _, refused_of_malformed (by decide) none _⟩
    case refine_9 =>
      exact ⟨refused_of_malformed (by decide) none _, refused_of_malformed (by decide) none _, refused_of_malformed (by decide) none _,
        refused_of_malformed (by decide) none _⟩
    case refine_10 =>
      exact congrArg Host.Outcome.next (runItem_of_malformed item
        (Bool.and_eq_true_iff.2 ⟨hasCode_ofNat (by decide) _, decide_eq_true long⟩) none)
    case refine_11 =>
      exact congrArg Host.Outcome.next (runItem_of_malformed item
        (Bool.and_eq_true_iff.2 ⟨hasCode_ofNat (by decide) _, decide_eq_true short⟩) none)
    all_goals exact fun none item => refused_of_malformed (by decide) none _ item
  · simp only [List.forall_mem_cons, List.not_mem_nil, false_implies, implies_true, and_true]
    and_intros
    all_goals
      intro other
      refine congrArg Host.Outcome.next (runItem_of_other fun it current => ?_)
      simp only [hasCode_of_ne (other it current), Bool.false_and]
  · refine congrArg Host.Outcome.next (runItem_of_other fun it current => ?_)
    rw [show knownCode it = true from decide_eq_true (known it current)]
    rfl
  · refine congrArg Host.Outcome.next (runItem_of_other fun it current => ?_)
    rw [bare it current, Bool.and_eq_false_iff]
    exact .inr rfl
  · refine congrArg Host.Outcome.next (runItem_of_other fun it current => ?_)
    rw [decide_eq_false (carries it current), Bool.and_false]
  · intro field fits marks flag ref individual kind has source
    have field_eq : field = ifPresent := by funext k o; cases o <;> rfl
    have marks_eq : marks = fun l => beBytes 1 (presence l) := by funext l; rw [presence_eq_sum]
    have flag_eq : flag = onOffCode := rfl
    have ref_eq : ref = encodeRef := by funext r; cases r <;> rfl
    have individual_eq : individual = fun r => isGroup r.addr = false := by funext r; cases r <;> rfl
    have kind_eq : kind = queueKindCode := by funext k; cases k <;> rfl
    have has_eq : has = kindAt := by funext p k; cases k <;> rfl
    have source_eq : source = fun x => (sourceIx x).val := by funext x; cases x <;> rfl
    clear_value field marks flag ref individual kind has source
    subst field_eq marks_eq flag_eq ref_eq individual_eq kind_eq has_eq source_eq
    refine ⟨beBytes_eq_map, fun b => ?_, fun n byte i => parseIndex_eq_some byte, fun r => parseRef_eq_some, fun r n v => parseAdmit_eq_some,
      fun r v => parseRefValue_eq_some, fun r v => ?_, fun a => parseFindStation_eq_some, fun n => parseTakeReports_eq_some, fun w => ?_,
      fun i => ?_, fun i z => ?_, fun w => ?_, fun w => ?_, fun w => ?_, fun g c => ?_, fun w => ?_, fun l => parseRetire_encodeRetire⟩
    · rw [parseSetLine_eq_some]
      cases b <;> rfl
    · rw [parseTopUp_eq_some, parseRefValue_eq_some]
      exact ⟨fun h => ⟨h.1.1, h.2, h.1.2⟩, fun h => ⟨⟨h.1, h.2.2⟩, h.2.1⟩⟩
    · rw [parseTiming_eq_some, TimingFields.valid_iff, and_assoc]
      simp only [encodeTiming, List.map_cons, List.map_nil, List.flatMap_cons, List.flatMap_nil, List.append_nil, List.append_assoc]
      rfl
    · exact parseZoneWrite_none
    · rw [parseZoneWrite_some]
      obtain ⟨value, mask, etype, vlan, dir, zone⟩ := z
      cases dir <;> rfl
    · rw [parseProfileWrite_eq_some, ProfileWrite.valid_iff, and_assoc]
      obtain ⟨profile, rates, grants⟩ := w
      cases rates <;> simp [encodeProfileWrite, grantBytes, ratesFit]
    · rw [parsePortWrite_eq_some, PortWrite.valid_iff]
      simp only [encodePortWrite, List.isEmpty_iff]
      constructor
      · rintro ⟨⟨part, backbone, radio, exist, once⟩, seat, limits, bytes⟩
        exact ⟨part, backbone, radio, fun x listed => ⟨exist x listed, limits x listed⟩, once, seat, bytes⟩
      · rintro ⟨part, backbone, radio, each, once, seat, bytes⟩
        exact ⟨⟨part, backbone, radio, fun x listed => (each x listed).1, once⟩, seat, fun x listed => (each x listed).2, bytes⟩
    · rw [parseQueueWrite_eq_some, QueueWrite.valid_iff]
      obtain ⟨queue, limit, quantum, reserve⟩ := w
      simp only [List.forall_mem_cons, List.not_mem_nil, false_implies, implies_true, and_true, and_assoc]
      cases queue with
      | none => rfl
      | some x => rfl
    · rw [parseCounters_eq_some]
      cases g with
      | port p => exact (iff_of_eq (true_and _)).trans Iff.rfl
      | queue p k => exact and_congr_left' queueExists_iff
      | station r => rfl
      | global => exact (iff_of_eq (true_and _)).trans Iff.rfl
    · rw [parseNoticeWrite_eq_some, NoticeWrite.valid_iff, and_assoc, and_assoc]
      obtain ⟨dest, mode, enables⟩ := w
      simp only [encodeNoticeWrite, List.isEmpty_iff]
      cases mode with
      | none => rfl
      | some m => cases m <;> rfl

end

/-! # Responses and notices -/

namespace Sys2Proof.Machine

open Sys2Proof

/-! ## The bytes of a frame that the part builds -/

theorem frameOpening_eq (dst src : Addr) (tag : Option (BitVec 16)) : frameOpening dst src tag =
    addrBytes dst ++ addrBytes src ++ (tag.map (fun t => [0x81, 0x00] ++ beBytes 2 t.toNat)).getD [] ++ [0x9A, 0x47] := by
  cases tag <;> rfl

theorem bodyHeader_eq {kind : Nat} {k : Byte} (code : beBytes 1 kind = [k]) (l : LineController) (tag count : Nat) :
    bodyHeader kind l tag count =
      [1, k, 2] ++ beBytes 1 l.position.val ++ addrBytes l.deviceId ++ beBytes 2 tag ++ beBytes 1 count := by
  rw [bodyHeader, code]
  rfl

theorem padFrame_eq (bs : List Byte) : padFrame bs = bs ++ List.replicate (60 - bs.length) 0 := rfl

/-! ## The response -/

theorem placeResponse_idle {s : State} (idle : ∀ f c, s.mgmt.exec = some f → f.phase ≠ .response c) : placeResponse s = s := by
  unfold placeResponse
  cases exec : s.mgmt.exec with
  | none => rfl
  | some f =>
    cases phase : f.phase with
    | response c => exact absurd phase (idle f c exec)
    | _ => simp only [phase]

section

variable {s : State} {f : ExecFrame} {content : List Byte} (exec : s.mgmt.exec = some f) (phase : f.phase = .response content)

include exec phase

theorem placeResponse_discarded (down : (s.port (sidePort f.frame.arrival)).link = false) : placeResponse s = { s with
    mgmt := { s.mgmt with exec := none, restart := if s.mgmt.restart = .armed then .due else s.mgmt.restart } } := by
  simp only [placeResponse, exec, phase, down, Bool.not_false, if_true, State.modMgmt, restartAfter]

theorem placeResponse_waits (up : (s.port (sidePort f.frame.arrival)).link = true) (occupied : (s.side f.frame.arrival).slot ≠ none) :
    placeResponse s = s := by
  simp only [placeResponse, exec, phase, up, Bool.not_true, Bool.false_eq_true, if_false, Option.isNone_iff_eq_none, occupied]

theorem placeResponse_placed (up : (s.port (sidePort f.frame.arrival)).link = true) (empty : (s.side f.frame.arrival).slot = none) :
    placeResponse s = { s.modSide f.frame.arrival (fun x => { x with slot := some content }) with
      mgmt := { s.mgmt with
        exec := none, restart := if s.mgmt.restart = .armed then .sent f.frame.arrival else s.mgmt.restart } } := by
  simp only [placeResponse, exec, phase, up, Bool.not_true, Bool.false_eq_true, if_false, Option.isNone_iff_eq_none, empty, if_true,
    State.modMgmt, restartAfter, modSide_mgmt]

end

/-! ## The notice -/

theorem sourceIx_surjective (i : Fin 9) : ∃ x, sourceIx x = i := by
  have each : ∀ i : Fin 9, i ∈ [Source.reports, .reportBacklog, .learnFail, .memoryLow, .linkChange, .backboneLoss, .mgmtOverrun,
    .queueDrop, .strapFault].map sourceIx := by decide
  obtain ⟨x, -, at_i⟩ := List.mem_map.1 (each i)
  exact ⟨x, at_i⟩

theorem somethingToReport_iff (n : NoticeUnit) :
    somethingToReport n = true ↔ ∃ x, (n.flags.get (sourceIx x)).listed = true := by
  rw [somethingToReport, Tab.toList_eq_map_get, List.any_map, List.any_eq_true]
  constructor
  · rintro ⟨i, -, listed⟩
    obtain ⟨x, rfl⟩ := sourceIx_surjective i
    exact ⟨x, listed⟩
  · rintro ⟨x, listed⟩
    exact ⟨sourceIx x, List.mem_finRange _, listed⟩

theorem noResponseWaits_iff {b : Side} {s : State} : noResponseWaits b s = true ↔
    ∀ f c, s.mgmt.exec = some f → f.phase = .response c → f.frame.arrival ≠ b := by
  unfold noResponseWaits
  cases exec : s.mgmt.exec with
  | none => simp
  | some f =>
    have own : (∀ g c, some f = some g → g.phase = .response c → g.frame.arrival ≠ b) ↔
        ∀ c, f.phase = .response c → f.frame.arrival ≠ b := ⟨fun h c => h f c rfl, fun h g c same => by cases same; exact h c⟩
    rw [own]
    cases phase : f.phase <;> simp [phase]

theorem noticeReady_iff {d : NoticeDest} {s : State} (out : s.line.part ≠ .reset) : noticeReady d s = true ↔
    (∃ x, (s.notice.flags.get (sourceIx x)).listed = true) ∧ s.notice.spacingRunning = false ∧ (s.side d.port).slot = none ∧
      (s.port (sidePort d.port)).link = true ∧ ∀ f c, s.mgmt.exec = some f → f.phase = .response c → f.frame.arrival ≠ d.port := by
  simp only [noticeReady, Bool.and_eq_true, running_iff, somethingToReport_iff, noResponseWaits_iff, Bool.not_eq_true',
    Option.isNone_iff_eq_none, and_assoc]
  exact ⟨fun h => h.2, fun h => ⟨out, h⟩⟩

/-- The sources field, bit by bit (12 R175). -/
theorem sourceBits_eq (n : NoticeUnit) :
    let bit := fun (x : Source) (k : Nat) => if (n.flags.get (sourceIx x)).listed then 2 ^ k else 0
    sourceBits n = bit .reports 0 + bit .reportBacklog 1 + bit .learnFail 2 + bit .memoryLow 3 + bit .linkChange 4
      + bit .backboneLoss 5 + bit .mgmtOverrun 6 + bit .queueDrop 7 + bit .strapFault 8 := by
  intro bit
  have each : n.flags.toList.map SourceFlags.listed = [Source.reports, .reportBacklog, .learnFail, .memoryLow, .linkChange,
      .backboneLoss, .mgmtOverrun, .queueDrop, .strapFault].map (fun x => (n.flags.get (sourceIx x)).listed) := by
    rw [Tab.toList_eq_map_get]
    rfl
  rw [sourceBits, each, presence_eq_sum]
  simp only [List.map_cons, List.map_nil, List.zipIdx_cons, List.zipIdx_nil, List.sum_cons, List.sum_nil, bit, Nat.zero_add,
    Nat.reduceAdd, Nat.add_zero, Nat.add_assoc]

theorem sendNotice_ready {d : NoticeDest} {s : State} (dest : s.notice.dest = some d) (ready : noticeReady d s = true) :
    sendNotice s = { s.modSide d.port (fun x => { x with slot := some (noticeFrame d s) }) with
      notice := noticesCleared s.time.ms s.notice } := by
  simp only [sendNotice, dest, ready, if_true, State.modNotice, modSide_notice]

theorem sendNotice_unready {d : NoticeDest} {s : State} (dest : s.notice.dest = some d) (unready : ¬ noticeReady d s = true) :
    sendNotice s = s := by
  simp only [sendNotice, dest, unready, if_false, Bool.false_eq_true]

end Sys2Proof.Machine

section

open Sys2Proof Sys2Proof.Machine

/-- Settles O38: the placement by the state of the slot and the link, and the bytes by the parts of the frame. -/
theorem responsePlaced : Obligations.ResponsePlaced := by
  refine ⟨fun s => ⟨fun idle => congrArg Host.Outcome.next (placeResponse_idle idle), fun f content exec phase =>
    ⟨fun down => congrArg Host.Outcome.next (placeResponse_discarded exec phase down),
      fun up occupied => congrArg Host.Outcome.next (placeResponse_waits exec phase up occupied),
      fun up empty => congrArg Host.Outcome.next (placeResponse_placed exec phase up empty)⟩⟩, fun l f bad answers => ?_⟩
  intro content
  have built : buildResponse l f bad answers = padFrame content := by
    refine congrArg padFrame ?_
    have answer : answerBytes = fun a : ItemAnswer => [a.code] ++ beBytes 1 (match a.status with
        | .done => 0 | .doneClamped => 1 | .busy => 2 | .wrongState => 3 | .noEntry => 4 | .stale => 5 | .badItem => 6
        | .notRun => 7 | .bucketFull => 8) ++ beBytes 1 a.data.length ++ a.data := by
      funext a
      obtain ⟨code, status, data⟩ := a
      cases status <;> rfl
    have kind : beBytes 1 (if bad then 0x82 else 2) = [if bad then 0x82 else 2] := by cases bad <;> rfl
    rw [frameOpening_eq, bodyHeader_eq kind, answer]
    simp only [content, List.append_assoc]
    cases (readHeader f.bytes).tag <;> rfl
  rw [built, padFrame_eq]

/-- Settles O53: the conditions as one test, the frame by its parts, and the flags one by one. -/
theorem noticeSent : Obligations.NoticeSent := by
  intro s out flags listed ready
  have ready_iff : ∀ d, noticeReady d s = true ↔ ready d := fun d => noticeReady_iff out
  refine ⟨fun none => congrArg Host.Outcome.next (by simp only [sendNotice, none]), fun d dest unready =>
    congrArg Host.Outcome.next (sendNotice_unready dest (mt (ready_iff d).1 unready)), fun d dest isReady => ?_⟩
  intro ports bit content
  have frame : noticeFrame d s = content ++ List.replicate (60 - content.length) 0 := by
    rw [← padFrame_eq]
    refine congrArg padFrame ?_
    have bits : sourceBits s.notice = bit .reports 0 + bit .reportBacklog 1 + bit .learnFail 2 + bit .memoryLow 3 + bit .linkChange 4
        + bit .backboneLoss 5 + bit .mgmtOverrun 6 + bit .queueDrop 7 + bit .strapFault 8 := sourceBits_eq s.notice
    have changed : changedPorts s.notice = ports := rfl
    simp only [frameOpening_eq, bodyHeader_eq (show beBytes 1 3 = [3] from rfl), bits, changed, content, List.append_assoc]
    cases d.tag <;> rfl
  refine ⟨_, congrArg Host.Outcome.next (sendNotice_ready dest ((ready_iff d).2 isReady)), ?_, fun x => ?_⟩
  · rw [frame]
    rfl
  · exact Tab.get_mapAll _ _ _

end

/-! # The items that name a station -/

namespace Sys2Proof.Machine

open Sys2Proof

/-! ## Station references (02 R29, R30) -/

theorem resolve_indexed_hit {s : State} {i : StationIx} {a : Addr} (used : (s.entry i).state ≠ .free)
    (holds : (s.entry i).addr = a) : resolve s (.indexed i a) = .ok i := if_pos ⟨used, holds⟩

theorem resolve_indexed_stale {s : State} {i : StationIx} {a : Addr} (gone : (s.entry i).state = .free ∨ (s.entry i).addr ≠ a) :
    resolve s (.indexed i a) = .error .stale :=
  if_neg fun ⟨used, holds⟩ => gone.elim used (fun other => other holds)

/-- The entry that a reference names is made by no request (02 R30). -/
theorem resolveOrCreate_of_resolve {s : State} {r : StationRef} {i : StationIx} (found : resolve s r = .ok i) :
    resolveOrCreate s r = .ok (i, s) := by
  cases r with
  | indexed j a => exact congrArg (Except.map fun k => (k, s)) found
  | byAddr a =>
    cases hit : lookup s.table a with
    | none =>
      rw [resolve_byAddr_miss hit] at found
      nomatch found
    | some j =>
      rw [resolve_byAddr_hit hit] at found
      cases found
      simp only [resolveOrCreate, hit]

theorem resolveOrCreate_indexed_error {s : State} {i : StationIx} {a : Addr} {st : Status}
    (refused : resolve s (.indexed i a) = .error st) : resolveOrCreate s (.indexed i a) = .error st :=
  congrArg (Except.map fun k => (k, s)) refused

theorem resolveOrCreate_full {s : State} {a : Addr} (miss : lookup s.table a = none) (full : freeWay s.table a = none) :
    resolveOrCreate s (.byAddr a) = .error .bucketFull := by
  simp only [resolveOrCreate, miss, full]

theorem resolveOrCreate_new {s : State} {a : Addr} {i : StationIx} (miss : lookup s.table a = none)
    (room : freeWay s.table a = some i) : resolveOrCreate s (.byAddr a) = .ok (i, createEntry i a s) := by
  simp only [resolveOrCreate, miss, room]

/-! ## What the items run -/

section

variable {s : State} {ps : List Byte} {r : StationRef}

theorem exec_admitStation {n : Fin 32} {v : Option Nat} (item : ItemIs s 0x0C ps) (parsed : parseAdmit ps = some (r, n, v)) :
    exec .admitStation s = .next (applyEffect s (admitEffect (r, n, v) s)) :=
  congrArg Host.Outcome.next (runItem_of_parsed item (hasCode_ofNat (by decide) _) parsed)

theorem exec_barStation (item : ItemIs s 0x0D ps) (parsed : parseRef ps = some r) :
    exec .barStation s = .next (applyEffect s (barEffect r s)) :=
  congrArg Host.Outcome.next (runItem_of_parsed item (hasCode_ofNat (by decide) _) parsed)

theorem exec_releaseStation (item : ItemIs s 0x0E ps) (parsed : parseRef ps = some r) :
    exec .releaseStation s = .next (applyEffect s (onStation r s (fun i => .wait (barEntry i s) (.releaseWalk i)))) :=
  congrArg Host.Outcome.next (runItem_of_parsed item (hasCode_ofNat (by decide) _) parsed)

theorem exec_readCounters {g : CounterGroup} {c : Bool} (item : ItemIs s 0x18 ps) (parsed : parseCounters ps = some (g, c)) :
    exec .readCounters s = .next (applyEffect s (readCountersEffect (g, c) s)) :=
  congrArg Host.Outcome.next (runItem_of_parsed item (hasCode_ofNat (by decide) _) parsed)

theorem admitEffect_refused {st : Status} (n : Fin 32) (v : Option Nat) (refused : resolveOrCreate s r = .error st) :
    admitEffect (r, n, v) s = .refuse st := by
  simp only [admitEffect, refused]

theorem admitEffect_done {i : StationIx} {t : State} (n : Fin 32) (v : Option Nat) (named : resolveOrCreate s r = .ok (i, t)) :
    admitEffect (r, n, v) s = .done (t.modEntry i (admitted n v t)) (beBytes 2 i.val) (allowanceClamped v) := by
  simp only [admitEffect, named]

theorem barEffect_refused {st : Status} (refused : resolveOrCreate s r = .error st) : barEffect r s = .refuse st := by
  simp only [barEffect, refused]

theorem barEffect_wait {i : StationIx} {t : State} (named : resolveOrCreate s r = .ok (i, t)) :
    barEffect r s = .wait (barEntry i t) (.barWalk i) := by
  simp only [barEffect, named]

theorem topUpEffect_refused {st : Status} (v : Nat) (refused : resolve s r = .error st) : topUpEffect (r, v) s = .refuse st :=
  onStation_error _ refused

theorem readCountersEffect_refused {st : Status} (c : Bool) (refused : resolve s r = .error st) :
    readCountersEffect (.station r, c) s = .refuse st := by
  simp only [readCountersEffect, refused]

end

/-! ## ADMIT -/

theorem allowanceClamped_iff (v : Option Nat) : allowanceClamped v = true ↔ 16777215 < v.getD 0 := by
  cases v with
  | none => simp [allowanceClamped]
  | some n => exact decide_eq_true_iff

theorem meteredWith_eq (v : Option Nat) (e : StationEntry) : meteredWith v e = { e with
    metered := v.isSome, allowance := min 16777215 (v.getD 0), spent := decide (v = some 0)
    spentPending := if v = some 0 then e.spentPending else false } := by
  cases v with
  | none => rfl
  | some n => simp [meteredWith_some]

/-- ADMIT gives an entry the bursts of its profile unless it was ADMITTED already (02 R29). -/
theorem admitted_eq (n : Fin 32) (v : Option Nat) (s : State) (e : StationEntry) : admitted n v s e = meteredWith v { e with
    state := .admitted, profile := n, lastSeen := s.time.seconds, expiryDue := false
    upCredit := if e.state = .admitted then e.upCredit else ((s.profile n).rates.upBurst : Int)
    downCredit := if e.state = .admitted then e.downCredit else ((s.profile n).rates.downBurst : Int)
    lastRefill := if e.state = .admitted then e.lastRefill else s.time.tick } := by
  unfold admitted
  by_cases was : e.state = .admitted
  · simp only [if_pos was]
  · simp only [if_neg was]

/-! ## BAR and RELEASE -/

/-- The entry is BARRED and detached, a seat port's count falls, and the purge walk of the station starts (02 R31, 06 R111). -/
theorem barEntry_eq (i : StationIx) (s : State) : barEntry i s = { s with
    ports := seatLeft (s.entry i).attachment s.ports
    table := { s.table with entries := s.table.entries.modify i (fun e =>
      { e with state := .barred, attachment := none, recentlyMoved := false, expiryDue := false }) }
    purge := some { station := i, visits := 0 } } := by
  unfold barEntry
  rw [detachStation_eq]
  simp only [State.modEntry, Tab.modify_modify]

/-- A new entry is attached to no port, so that barring it changes no seat count. -/
theorem barEntry_createEntry (i : StationIx) (a : Addr) (s : State) : barEntry i (createEntry i a s) = { s with
    table := { s.table with entries := s.table.entries.set i { newEntry a s with state := .barred } }
    purge := some { station := i, visits := 0 } } := by
  have detached : ((createEntry i a s).entry i).attachment = none := by
    simp only [createEntry, State.modEntry, State.entry, Tab.get_modify_self]
    rfl
  rw [barEntry_eq, detached]
  simp only [createEntry, State.modEntry, Tab.modify_eq_set, Tab.set_set, Tab.get_set_self]
  rfl

end Sys2Proof.Machine

section

open Sys2Proof Sys2Proof.Machine

/-- Settles O42: each form of reference resolves as 02 R29 says, and every item answers the status of a reference that does not. -/
theorem stationReferenceResolved : Obligations.StationReferenceResolved := by
  intro s ps r
  refine ⟨?named, ?looked, ?refused, ?full⟩
  case named =>
    rintro i a rfl
    exact ⟨resolve_indexed_hit, resolve_indexed_stale⟩
  case looked =>
    rintro a rfl
    exact ⟨fun _ => resolve_byAddr_hit, resolve_byAddr_miss⟩
  case refused =>
    intro st refused answer
    have answers : ∀ {x : ItemEffect}, x = .refuse st → Host.Outcome.next (applyEffect s x) = answer := fun h => h ▸ rfl
    refine ⟨?release, ?allowance, ?unmetered, ?topUp, ?unpin, ?read, ?counters, ?creating⟩
    case release => exact fun item parsed => (exec_releaseStation item parsed).trans (answers (onStation_error _ refused))
    case allowance =>
      exact fun v item carries parsed => (exec_setAllowance item carries parsed).trans (answers (onStation_error _ refused))
    case unmetered =>
      exact fun item bare parsed => (exec_setAllowanceUnmetered item bare parsed).trans (answers (onStation_error _ refused))
    case topUp => exact fun v item parsed => (exec_topUp item parsed).trans (answers (topUpEffect_refused v refused))
    case unpin => exact fun item parsed => (exec_unpin item parsed).trans (answers (onStation_error _ refused))
    case read => exact fun item parsed => (exec_readStation item parsed).trans (answers (onStation_error _ refused))
    case counters =>
      exact fun c item parsed => (exec_readCounters item parsed).trans (answers (readCountersEffect_refused c refused))
    case creating =>
      rintro i a rfl
      have missing := resolveOrCreate_indexed_error refused
      exact ⟨fun n v item parsed => (exec_admitStation item parsed).trans (answers (admitEffect_refused n v missing)),
        fun item parsed => (exec_barStation item parsed).trans (answers (barEffect_refused missing))⟩
  case full =>
    rintro a rfl miss full
    have missing := resolveOrCreate_full miss full
    refine ⟨fun n v item parsed => ?_, fun item parsed => ?_⟩
    · rw [exec_admitStation item parsed, admitEffect_refused n v missing]
      rfl
    · rw [exec_barStation item parsed, barEffect_refused missing]
      rfl

/-- Settles O43: the entry named, or the one made, is ADMITTED as `admitted_eq` says; a new entry was LEARNED, so that it takes the
bursts of its profile. -/
theorem stationAdmitted : Obligations.StationAdmitted := by
  intro s ps r n v item parsed rates status metered admittedAs
  have status_eq : doneStatus (allowanceClamped v) = status := by
    rw [show allowanceClamped v = decide (16777215 < v.getD 0) from Bool.eq_iff_iff.2
      ((allowanceClamped_iff v).trans decide_eq_true_iff.symm)]
    exact doneStatus_decide _
  have entry_eq : ∀ e, admitted n v s e = admittedAs e := fun e => (admitted_eq n v s e).trans (meteredWith_eq v _)
  refine ⟨fun i found => ?_, fun a i byAddr miss room => ?_⟩
  · rw [exec_admitStation item parsed, admitEffect_done n v (resolveOrCreate_of_resolve found), ← status_eq, ← funext entry_eq]
    rfl
  · subst byAddr
    rw [exec_admitStation item parsed, admitEffect_done n v (resolveOrCreate_new miss room), ← status_eq]
    have new : (createEntry i a s).modEntry i (admitted n v (createEntry i a s)) = { s with
        table := { s.table with
          entries := s.table.entries.set i (admittedAs { StationEntry.freed s.time.tick with addr := a, state := .learned }) } } := by
      rw [← entry_eq]
      simp only [createEntry, State.modEntry, Tab.modify_eq_set, Tab.set_set, Tab.get_set_self]
      rfl
    rw [new]
    rfl

/-- Settles O44: BAR and RELEASE bar the entry as `barEntry_eq` says, and the item waits. -/
theorem stationBarred : Obligations.StationBarred := by
  intro s ps r parsed waits barred
  have effect : ∀ i ph, Host.Outcome.next (applyEffect s (.wait (barEntry i s) ph)) = waits ph i (barred i) := by
    intro i ph
    rw [barEntry_eq]
    rfl
  refine ⟨fun i item found => ?_, fun i item found => ?_, fun a i item byAddr miss room => ?_⟩
  · rw [exec_barStation item parsed, barEffect_wait (resolveOrCreate_of_resolve found)]
    exact effect i _
  · rw [exec_releaseStation item parsed, onStation_ok _ found]
    exact effect i _
  · subst byAddr
    rw [exec_barStation item parsed, barEffect_wait (resolveOrCreate_new miss room), barEntry_createEntry]
    rfl

end

/-! # SET_QUEUE and READ_COUNTERS -/

namespace Sys2Proof.Machine

open Sys2Proof

/-! ## The queue that a deficit round robin queue is -/

theorem drrOf_drrQueue (b : Side) (d : DrrQueue) : drrOf (drrQueue b d) = some (b, d) := by cases d <;> rfl

theorem drrOf_eq_some {q : QueueId} {b : Side} {d : DrrQueue} : drrOf q = some (b, d) ↔ q = drrQueue b d := by
  refine ⟨fun h => ?_, fun h => h ▸ drrOf_drrQueue b d⟩
  cases q with
  | through b' => cases h; rfl
  | cls b' c =>
    simp only [drrOf] at h
    split at h
    · next one => subst one; cases h; rfl
    · split at h
      · next two => subst two; cases h; rfl
      · split at h
        · next three => subst three; cases h; rfl
        · nomatch h
  | priority _ => nomatch h
  | normal _ => nomatch h
  | seat _ => nomatch h

theorem drrQueue_injective {b b' : Side} {d d' : DrrQueue} (same : drrQueue b d = drrQueue b' d') : b = b' ∧ d = d' := by
  have := (drrOf_drrQueue b d).symm.trans (drrOf_eq_some.2 same)
  cases this
  exact ⟨rfl, rfl⟩

/-! ## The values written (06 R100, R109, 07 R129) -/

theorem writeIf_writeLimit (o : Option Nat) (q : QueueId) (s : State) : writeIf o (writeLimit q) s =
    s.modQueue q (fun x => { x with limit := (o.map (min 2048)).getD x.limit }) := by
  cases o with
  | none =>
    exact congrArg (fun t => { s with queues := t }) (Tab.modify_id s.queues (queueIx q)).symm
  | some v =>
    have clamp : clampTo 0 Config.queueLimitMax v = min 2048 v := Nat.zero_max _
    simp only [writeIf, writeLimit, clamp, Option.map_some, Option.getD_some]

theorem writeQuantum_some {q : QueueId} {b : Side} {d : DrrQueue} (drr : drrOf q = some (b, d)) (v : Nat) (s : State) :
    writeQuantum q v s = s.modSide b (fun x => { x with quantum := x.quantum.set (drrIx d) (max 64 (min 16383 v)) }) := by
  simp only [writeQuantum, drr]
  rfl

theorem writeQuantum_none {q : QueueId} (plain : drrOf q = none) (v : Nat) (s : State) : writeQuantum q v s = s := by
  simp only [writeQuantum, plain]

/-- A quantum written changes the quanta alone. -/
theorem writeIf_writeQuantum_shape (o : Option Nat) (q : QueueId) (s : State) : writeIf o (writeQuantum q) s = { s with
    fore := { s.fore with quantum := (writeIf o (writeQuantum q) s).fore.quantum }
    aft := { s.aft with quantum := (writeIf o (writeQuantum q) s).aft.quantum } } := by
  cases o with
  | none => rfl
  | some v =>
    show writeQuantum q v s = { s with
      fore := { s.fore with quantum := (writeQuantum q v s).fore.quantum }
      aft := { s.aft with quantum := (writeQuantum q v s).aft.quantum } }
    cases drr : drrOf q with
    | none => rw [writeQuantum_none drr]
    | some x =>
      obtain ⟨b, d⟩ := x
      rw [writeQuantum_some drr]
      cases b <;> rfl

/-- The quantum of a deficit round robin queue after a write to queue `q`. -/
theorem writeIf_writeQuantum_quantum (o : Option Nat) (q : QueueId) (s : State) (b : Side) (d : DrrQueue) :
    ((writeIf o (writeQuantum q) s).side b).quantum.get (drrIx d) =
      if q = drrQueue b d then (o.map (fun v => max 64 (min 16383 v))).getD ((s.side b).quantum.get (drrIx d))
      else (s.side b).quantum.get (drrIx d) := by
  cases o with
  | none => exact (ite_self _).symm
  | some v =>
    show ((writeQuantum q v s).side b).quantum.get (drrIx d) = if q = drrQueue b d then max 64 (min 16383 v) else _
    cases drr : drrOf q with
    | none =>
      have other : q ≠ drrQueue b d := fun same => by rw [drrOf_eq_some.2 same] at drr; nomatch drr
      rw [writeQuantum_none drr, if_neg other]
    | some x =>
      obtain ⟨b', d'⟩ := x
      obtain rfl := drrOf_eq_some.1 drr
      rw [writeQuantum_some drr]
      by_cases side : b' = b
      · subst side
        rw [side_modSide_self]
        by_cases queue : d' = d
        · subst queue
          rw [Tab.get_set_self, if_pos rfl]
        · rw [Tab.get_set_ne _ _ (drrIx_injective queue), if_neg fun same => queue (drrQueue_injective same).2]
      · rw [side_modSide_ne _ _ side, if_neg fun same => side (drrQueue_injective same).1]

/-- The reserve written, with MEMORY_LOW pending where the free cells are at or below it (06 R100, R101). -/
theorem writeIf_writeReserve (o : Option Nat) (s : State) : writeIf o writeReserve s = { s with
    mem := { s.mem with reserve := (o.map (min 256)).getD s.mem.reserve }
    notice := { s.notice with
      flags := if o ≠ none ∧ s.mem.freeCount ≤ (o.map (min 256)).getD s.mem.reserve then
          s.notice.flags.modify (sourceIx .memoryLow) (fun f => { f with pending := true })
        else s.notice.flags } } := by
  cases o with
  | none => rfl
  | some v =>
    have clamp : clampTo 0 256 v = min 256 v := Nat.zero_max _
    simp only [writeIf, writeReserve, clamp, Option.map_some, Option.getD_some, ne_eq, reduceCtorEq, not_false_eq_true, true_and]
    split <;> rfl

/-! ## SET_QUEUE (06 R110) -/

theorem queueWritten_unnamed {w : QueueWrite} (unnamed : w.queue.bind (fun x => queueNamed x.1 x.2) = none) (s : State) :
    queueWritten w s = writeIf w.reserve writeReserve s := by
  simp only [queueWritten, unnamed]

theorem queueWritten_named {w : QueueWrite} {q : QueueId} (named : w.queue.bind (fun x => queueNamed x.1 x.2) = some q) (s : State) :
    queueWritten w s =
      writeIf w.reserve writeReserve (writeIf w.quantum (writeQuantum q) (writeIf w.limit (writeLimit q) s)) := by
  simp only [queueWritten, named]

/-- SET_QUEUE changes queue limits and quanta, the reserve and MEMORY_LOW alone. -/
theorem queueWritten_shape (w : QueueWrite) (s : State) : queueWritten w s = { s with
    queues := (queueWritten w s).queues
    fore := { s.fore with quantum := (queueWritten w s).fore.quantum }
    aft := { s.aft with quantum := (queueWritten w s).aft.quantum }
    mem := { s.mem with reserve := (w.reserve.map (min 256)).getD s.mem.reserve }
    notice := { s.notice with
      flags := if w.reserve ≠ none ∧ s.mem.freeCount ≤ (w.reserve.map (min 256)).getD s.mem.reserve then
          s.notice.flags.modify (sourceIx .memoryLow) (fun f => { f with pending := true })
        else s.notice.flags } } := by
  cases named : w.queue.bind (fun x => queueNamed x.1 x.2) with
  | none =>
    rw [queueWritten_unnamed named, writeIf_writeReserve]
  | some q =>
    rw [queueWritten_named named, writeIf_writeReserve, writeIf_writeQuantum_shape, writeIf_writeLimit]
    rfl

theorem queueWritten_queue (w : QueueWrite) (s : State) (q : QueueId) : (queueWritten w s).queue q = { s.queue q with
    limit := if w.queue.bind (fun x => queueNamed x.1 x.2) = some q then (w.limit.map (min 2048)).getD (s.queue q).limit
      else (s.queue q).limit } := by
  cases named : w.queue.bind (fun x => queueNamed x.1 x.2) with
  | none =>
    rw [queueWritten_unnamed named, writeIf_writeReserve, if_neg (Option.some_ne_none q).symm]
    rfl
  | some q' =>
    rw [queueWritten_named named, writeIf_writeReserve, writeIf_writeQuantum_shape, writeIf_writeLimit]
    refine (queue_modQueue s q' q _).trans ?_
    by_cases same : q' = q
    · subst same
      simp only [if_true]
    · rw [if_neg same, if_neg fun h => same (Option.some.inj h)]

theorem queueWritten_quantum (w : QueueWrite) (s : State) (b : Side) (d : DrrQueue) :
    ((queueWritten w s).side b).quantum.get (drrIx d) =
      if w.queue.bind (fun x => queueNamed x.1 x.2) = some (drrQueue b d) then
        (w.quantum.map (fun v => max 64 (min 16383 v))).getD ((s.side b).quantum.get (drrIx d))
      else (s.side b).quantum.get (drrIx d) := by
  have reserve : ∀ t : State, (writeIf w.reserve writeReserve t).side b = t.side b := by
    intro t
    rw [writeIf_writeReserve]
    cases b <;> rfl
  cases named : w.queue.bind (fun x => queueNamed x.1 x.2) with
  | none => rw [queueWritten_unnamed named, reserve, if_neg nofun]
  | some q =>
    have limit : (writeIf w.limit (writeLimit q) s).side b = s.side b := by
      rw [writeIf_writeLimit]
      cases b <;> rfl
    rw [queueWritten_named named, reserve, writeIf_writeQuantum_quantum, limit]
    simp only [Option.some.injEq]

theorem queueClamped_iff (w : QueueWrite) : queueClamped w = true ↔ (∃ v, w.limit = some v ∧ 2048 < v) ∨
    (∃ v, w.quantum = some v ∧ (v < 64 ∨ 16383 < v)) ∨ ∃ v, w.reserve = some v ∧ 256 < v := by
  simp only [queueClamped, Bool.or_eq_true, wasOutside_eq_true_iff, Config.queueLimitMax, Nat.not_lt_zero, false_or, or_assoc]

theorem exec_setQueue {s : State} {ps : List Byte} {w : QueueWrite} (item : ItemIs s 0x17 ps)
    (parsed : parseQueueWrite ps = some w) :
    exec .setQueue s = .next (applyEffect s (.done (queueWritten w s) [] (queueClamped w))) :=
  congrArg Host.Outcome.next (runItem_of_parsed item (hasCode_ofNat (by decide) _) parsed)

/-! ## READ_COUNTERS (08 R143) -/

section

variable (c : Bool) (s : State)

theorem readCountersEffect_port (p : Port) : readCountersEffect (.port p, c) s =
    .done (if c then s.modPort p (fun u => { u with counters := Tab.fill 10 0 }) else s)
      (counterBytes (s.port p).counters.toList) false := rfl

theorem readCountersEffect_queue {p : Port} {k : QueueKind} {q : QueueId} (named : queueNamed p k = some q) :
    readCountersEffect (.queue p k, c) s =
      .done (if c then s.modQueue q (fun x => { x with drops := 0 }) else s) (counterBytes [(s.queue q).drops]) false := by
  simp only [readCountersEffect, named]

theorem readCountersEffect_station {r : StationRef} {i : StationIx} (found : resolve s r = .ok i) :
    readCountersEffect (.station r, c) s =
      .done (if c then s.modEntry i (fun e => { e with counters := Tab.fill 8 0 }) else s)
        (counterBytes (s.entry i).counters.toList) false := by
  simp only [readCountersEffect, found]

theorem readCountersEffect_global : readCountersEffect (.global, c) s =
    .done (if c then { s with globals := Tab.fill 9 0 } else s) (counterBytes s.globals.toList) false := rfl

end

/-- A counter stays at its largest value (08 R140). -/
theorem satIncrement_eq_min {c : Nat} (range : c ≤ 4294967295) : satIncrement c = min 4294967295 (c + 1) := by
  rcases Nat.lt_or_ge c 4294967295 with below | top
  · rw [satIncrement, if_pos (show c < Config.counterMax from below)]
    omega
  · rw [satIncrement, if_neg (show ¬ c < Config.counterMax from Nat.not_lt.2 top)]
    omega

end Sys2Proof.Machine

section

open Sys2Proof Sys2Proof.Machine

/-- Settles O51: what SET_QUEUE writes is said field by field, and READ_COUNTERS answers the group that its item names. -/
theorem queueSetAndCountersRead : Obligations.QueueSetAndCountersRead := by
  refine ⟨fun c => satIncrement_eq_min, fun s ps => ⟨?set, ?read⟩⟩
  case set =>
    intro w item parsed clamped reserve named
    obtain ⟨yes, no⟩ := applyEffect_done (queueClamped_iff w) s (queueWritten w s) []
    rw [exec_setQueue item parsed]
    exact ⟨queueWritten w s, fun h => congrArg Host.Outcome.next (yes h), fun h => congrArg Host.Outcome.next (no h),
      queueWritten_queue w s, queueWritten_quantum w s, queueWritten_shape w s⟩
  case read =>
    intro g c item parsed answer
    have answers : ∀ {l : List Nat} {t : State}, readCountersEffect (g, c) s = .done (if c then t else s) (counterBytes l) false →
        answer l t := fun effect =>
      (exec_readCounters item parsed).trans (congrArg (fun x => Host.Outcome.next (applyEffect s x)) effect)
    refine ⟨?port, ?queue, ?station, ?global⟩
    case port =>
      rintro p rfl
      exact answers (readCountersEffect_port c s p)
    case queue =>
      rintro p k q rfl queueNames
      exact answers (readCountersEffect_queue c s queueNames)
    case station =>
      rintro r i rfl found
      exact answers (readCountersEffect_station c s found)
    case global =>
      rintro rfl
      exact answers (readCountersEffect_global c s)

end
